-- ==== Sys2Proof/Word.lean ====
section
/-! DEFINITION. The word types of the GN716: what the manual treats as bits. Counts, times and levels are plain
`Nat`; engineering values are `Int`. -/

namespace Sys2Proof

/-- One byte of a rack line frame or of a cluster payload. -/
abbrev Byte := BitVec 8

/-- A 16-bit field: a check id, a variant code, a reference number, the challenge generator, the CRC register. -/
abbrev Half := BitVec 16

/-- A 12-bit ADC or envelope code, 0 to 4095 (R138, R155). -/
abbrev Code := BitVec 12

/-- The eight payload bytes of a cluster message; payload bit k of R123 is bit k of this word, so byte i is
bits 8i to 8i + 7. -/
abbrev Payload := BitVec 64

/-- The ten serial bytes of an identity (R130 to R133); serial byte i is bits 8i to 8i + 7. -/
abbrev Serial := BitVec 80

end Sys2Proof
end

