-- ==== Sys2Proof/Syntax.lean ====
section
/-! DEFINITION. The commands of the GN716: one constructor for each row of spec/opcode_table.json, with what the
row's event brings with it. -/

namespace Sys2Proof

/-- One received character of the rack line (R2): its eight data bits, and whether its stop bit read dominant
(a framing error). -/
structure RxChar where
  byte : Byte
  stopLow : Bool
  deriving DecidableEq, Repr

/-- A received frame: every character up to the end of the frame that the RLI recognised (R2). -/
abbrev RxFrame := List RxChar

/-- The two classes a frame is sent under (R10, R11). -/
inductive FrameClass where
  | urgent
  | normal
  deriving DecidableEq, Repr

/-- How one attempt on the cluster bus ends (R113). -/
inductive CanOutcome where
  | acknowledged
  | notAcknowledged
  | lostArbitration
  deriving DecidableEq, Repr

/-- A frame received without error from the cluster (R114). -/
structure CanFrame where
  /-- a 29-bit identifier -/
  extended : Bool
  /-- a remote frame -/
  remote : Bool
  id : Nat
  data : List Byte
  deriving DecidableEq, Repr

/-- The commands, in the table's order. Received frames come as the characters on the line, so that the receive
filter (R6) and the layouts (R194) are part of the meaning. -/
inductive Instr where
  /-- POWER_ON_RESET (R18): the levels of the slot and group strap pins. -/
  | powerOnReset (slot : BitVec 4) (group : BitVec 2)
  /-- RESET_PIN_LOW (R195): how long the pin has been low, µs. -/
  | resetPinLow (lowUs : Nat)
  /-- RESET_PIN_RELEASE (R195): the levels of the strap pins. -/
  | resetPinRelease (slot : BitVec 4) (group : BitVec 2)
  /-- LINE_DOMINANT (R9). -/
  | lineDominant
  /-- SYNC_IDLE_END (R9). -/
  | syncIdleEnd
  /-- IDLE_GAP_END (R9). -/
  | idleGapEnd
  /-- POSITION_START (R10): the position, 0 to 33, that starts. -/
  | positionStart (position : Fin 34)
  /-- WINDOW_END (R13). -/
  | windowEnd
  /-- READBACK_DIFFERENCE (R14). -/
  | readbackDifference
  /-- FRAME_SENT_IN_FULL (R15). -/
  | frameSentInFull
  /-- FRAME_DISCARDED (R6). -/
  | frameDiscarded (frame : RxFrame)
  /-- OWN_SLOT_FRAME (R8). -/
  | ownSlotFrame (frame : RxFrame)
  /-- PEER_REPLY_FRAME (R7). -/
  | peerReplyFrame (frame : RxFrame)
  /-- ANNOUNCE_RECEIVED (R46). -/
  | announceReceived (frame : RxFrame)
  /-- ORDER (R24). -/
  | order (frame : RxFrame)
  /-- CONTROL_ABORT (R31). -/
  | controlAbort (frame : RxFrame)
  /-- CONTROL_RESTART (R32). -/
  | controlRestart (frame : RxFrame)
  /-- CONTROL_BEGIN_DUT (R33). -/
  | controlBeginDut (frame : RxFrame)
  /-- CONTROL_END_DUT (R34). -/
  | controlEndDut (frame : RxFrame)
  /-- CONTROL_CLEAR_HOLD (R35): with the level of the supervisor key-switch as the frame arrives. -/
  | controlClearHold (frame : RxFrame) (keyActive : Bool)
  /-- CONTROL_TAKE_SUMMARY (R36). -/
  | controlTakeSummary (frame : RxFrame)
  /-- CONTROL_MALFORMED (R30). -/
  | controlMalformed (frame : RxFrame)
  /-- QUERY (R37). -/
  | query (frame : RxFrame)
  /-- CONFIGURE_RACK (R39). -/
  | configureRack (frame : RxFrame)
  /-- CONFIGURE_SUPPLY (R111). -/
  | configureSupply (frame : RxFrame)
  /-- CONFIGURE_LIGHT (R140). -/
  | configureLight (frame : RxFrame)
  /-- CONFIGURE_OPERATOR (R192). -/
  | configureOperator (frame : RxFrame)
  /-- CONFIGURE_MESSAGE (R115). -/
  | configureMessage (frame : RxFrame)
  /-- CONFIGURE_CAPTURE (R128). -/
  | configureCapture (frame : RxFrame)
  /-- CONFIGURE_INVALID (R38). -/
  | configureInvalid (frame : RxFrame)
  /-- LINE_PRESENCE_EXPIRY (R40). -/
  | linePresenceExpiry
  /-- CHECK_START (R21). -/
  | checkStart
  /-- ANNOUNCE_TIMER_EXPIRY (R43). -/
  | announceTimerExpiry
  /-- PEER_STALE (R47): the slot of the entry. -/
  | peerStale (slot : Fin 16)
  /-- CLAIM_SETTLE_EXPIRY (R54). -/
  | claimSettleExpiry
  /-- CLAIM_WAIT_EXPIRY (R60). -/
  | claimWaitExpiry
  /-- AUDIBLE_WAIT_EXPIRY (R64). -/
  | audibleWaitExpiry
  /-- INRUSH_HOLD_EXPIRY (R73). -/
  | inrushHoldExpiry
  /-- CHECK_SETTLE_EXPIRY (R79). -/
  | checkSettleExpiry
  /-- RAMP_COMPLETE (R96). -/
  | rampComplete
  /-- SLEW_COMPLETE (R97). -/
  | slewComplete
  /-- CRANK_DIP_END (R98). -/
  | crankDipEnd
  /-- CRANK_RECOVERY_COMPLETE (R98). -/
  | crankRecoveryComplete
  /-- DISCHARGE_BELOW_THRESHOLD (R101): the output reading, mV. -/
  | dischargeBelowThreshold (outputMv : Nat)
  /-- DISCHARGE_TIMER_EXPIRY (R101). -/
  | dischargeTimerExpiry
  /-- SHORT (R103). -/
  | short
  /-- OVERCURRENT (R103). -/
  | overcurrent
  /-- OVERVOLTAGE (R104). -/
  | overvoltage
  /-- OFF_TIMER_EXPIRY (R106). -/
  | offTimerExpiry
  /-- RECOVERY_TIMER_EXPIRY (R109). -/
  | recoveryTimerExpiry
  /-- SLOT_DUE (R117): the message slot. -/
  | slotDue (slot : Fin 24)
  /-- CAN_ATTEMPT_START (R121). -/
  | canAttemptStart
  /-- CAN_ATTEMPT_END (R121). -/
  | canAttemptEnd (outcome : CanOutcome)
  /-- CLUSTER_FRAME_RECEIVED (R114). -/
  | clusterFrameReceived (frame : CanFrame)
  /-- LIGHT_BLOCK_COMPLETE (R143): the channel and the raw codes it took since the last command for it. -/
  | lightBlockComplete (channel : Fin 8) (samples : List Code)
  /-- RANGE_TIMER_EXPIRY (R147): the channel. -/
  | rangeTimerExpiry (channel : Fin 8)
  /-- LIGHT_WINDOW_RERANGE (R149): the channel and the raw codes it took since the last command for it. -/
  | lightWindowRerange (channel : Fin 8) (samples : List Code)
  /-- LIGHT_WINDOW_COMPLETE (R150): the channel and the raw codes it took since the last command for it. -/
  | lightWindowComplete (channel : Fin 8) (samples : List Code)
  /-- CURRENT_WINDOW_COMPLETE (R156): the current samples, mA, handed over since the last command. -/
  | currentWindowComplete (samples : List Nat)
  /-- SOUND_WINDOW_COMPLETE (R159): the sound codes since the last command. -/
  | soundWindowComplete (samples : List Code)
  /-- KEY_DIGIT (R185). -/
  | keyDigit (digit : Fin 10)
  /-- KEY_CLEAR (R185). -/
  | keyClear
  /-- KEY_PASS (R188). -/
  | keyPass
  /-- KEY_FAIL (R187). -/
  | keyFail
  /-- LOOK_TIMER_EXPIRY (R185). -/
  | lookTimerExpiry
  /-- PROMPT_TIMER_EXPIRY (R189). -/
  | promptTimerExpiry
  /-- ABANDONED_REMAINDER_END (R14): the frame that ended. -/
  | abandonedRemainderEnd (frame : RxFrame)
  deriving DecidableEq, Repr

end Sys2Proof
end

