-- ==== Sys2Proof/Decode.lean ====
section
/-! DEFINITION. The words of the command table: the manual gives no command a word, and the table's rows carry no bits,
so that no word spells a command (log 23). -/

namespace Sys2Proof

/-- The command that a word of the table spells: none. -/
def decodeTableWord (_nbits _w : Nat) : Option Instr := none

end Sys2Proof
end

