-- ==== Sys2Proof/Config.lean ====
section
/-! DEFINITION. What one GN716 fixes (the manual's constants) and the model's free values: constants without a
body, so that nothing in Lean can evaluate them and a claim is true whatever they are. -/

namespace Sys2Proof

/-- What the part does to the DUT's supply input (R94): a source that regulates toward a level under a current limit, a
discharge path that holds the output toward 0 mV, or neither. -/
inductive RailDrive where
  | source (mv limitMa : Nat)
  | pulledLow
  | released
  deriving DecidableEq, Repr

namespace Config

/-- Capacity of the order queue (R29). -/
def queueSize : Nat := 8
/-- Capacity of the reply queue (R16). -/
def replySize : Nat := 16
/-- Capacity of the verdict ring (R169). -/
def ringSize : Nat := 16
/-- Consecutive collisions that mean a duplicate slot (R14). -/
def collisionLimit : Nat := 3
/-- Consecutive unacknowledged attempts that mean bus silence (R126). -/
def unackedLimit : Nat := 32
/-- INRUSH hold after a power-up reaches ON, ms (R72). -/
def inrushHoldMs : Nat := 50
/-- Discharge timer, ms (R101). -/
def dischargeMs : Nat := 20
/-- A discharge ends when the output reads below this, mV (R101). -/
def dischargedBelowMv : Nat := 500
/-- Recovery timer, ms (R109). -/
def recoveryMs : Nat := 1000
/-- Longest age of the held half that still forms an identity pair, ms (R132). -/
def pairMs : Nat := 1000
/-- Ceiling of the age counters (R45, R128). -/
def ageMax : Nat := 65535
/-- Ceiling of the operator error count (R190). -/
def errorMax : Nat := 16
/-- Length of the challenge field, bits (R192). -/
def challengeBits : Nat := 14
/-- Least low level of the reset pin that is a reset, µs (R195). -/
def resetLowUs : Nat := 10

/-- FREE VALUE (log 8, 9, 10, 44). Where the manual lets two blocks take one event in either order, whether the order
it names first is the one taken; applied to the model's count of such choices. -/
opaque firstTaken : Nat → Bool

/-- FREE VALUE (log 4). Which of the events that fall into one millisecond is taken next. -/
opaque tickPick : Nat → Nat

/-- FREE VALUE (log 36). Where a TAKE_SUMMARY arrives during a flush: how many of the flush's records are formed before
it is taken; applied to the model's count of choices. -/
opaque takenAfter : Nat → Nat

/-- FREE VALUE (log 5). The output voltage the SPU reads, mV, at the n-th 100 µs sample, under what the part does to the
rail then. -/
opaque outputMvAt : Nat → RailDrive → Nat

/-- FREE VALUE (log 5). The current the DUT would draw, mA, at the n-th 100 µs sample, under what the part does to the
rail then and before the source's limit. -/
opaque loadMaAt : Nat → RailDrive → Nat

/-- FREE VALUE (log 5). The envelope code at the n-th ms. -/
opaque soundCodeAt : Nat → Code

/-- FREE VALUE (log 5). The raw code at the n-th half ms of a light channel whose amplifier stands at a gain code
(R138). -/
opaque lightCodeAt : (halfMs channel gain : Nat) → Code

end Config

end Sys2Proof
end

