-- ==== Sys2Proof/Machine/State.lean ====
section
/-! DEFINITION. The state of the GN716, block by block, as plain data, and its value after reset. Every timer is an
`Option Nat`: `none` while stopped or expired, else the ms left. -/

namespace Sys2Proof.Machine

/-! ## Codes of the manual (R194, section 11.3) -/

/-- Station states (section 2.1). -/
inductive StationState where
  | unconfigured | ready | running | hold | silent
  deriving DecidableEq, Repr

/-- Rail states (R94). -/
inductive RailState where
  | off | waitInrush | ramping | on | slewing | cranking | discharging | faultOff | safe
  deriving DecidableEq, Repr

/-- Rack resources (section 3.3). -/
inductive Resource where
  | inrush | quiet | operator
  deriving DecidableEq, Repr

/-- Who asks the CLU for a claim (R49). -/
inductive Requester where
  | ckr | spu
  deriving DecidableEq, Repr

/-- Frame kinds (section 1.3). -/
inductive FrameKind where
  | announce | order | receipt | verdict | control | query | summary | configure
  deriving DecidableEq, Repr

/-- Receipt codes (R28). -/
inductive ReceiptCode where
  | accepted | queueFull | duplicate | invalid | held | unconfigured | busy | unknownId
  deriving DecidableEq, Repr

/-- Verdict outcomes (R166). -/
inductive Verdict where
  | pass | failLow | failHigh | done | unranged | disturbed | noData | rackBusy | operatorFail | timeout
  | dutFault | wrongDut | dutChanged | aborted | notRun
  deriving DecidableEq, Repr

/-- Measurement kinds of a verdict (R167). -/
inductive MeasKind where
  | none | light | current | sound | busfield
  deriving DecidableEq, Repr

/-- Prompt modes (section 2.2). -/
inductive PromptMode where
  | yesNo | attendedYesNo | attended
  deriving DecidableEq, Repr

/-- The two hold causes (section 2.1). -/
inductive HoldCause where
  | operatorLimit | supplySafe
  deriving DecidableEq, Repr

/-! ## The order record (section 2.2) -/

/-- The parameters of a FIELD_WRITE. -/
structure FieldWrite where
  slot : Nat
  start : Nat
  len : Nat
  signed : Bool
  value : Int
  num : Int
  den : Nat
  offset : Int
  restore : Bool
  audible : Bool
  deriving DecidableEq, Repr

/-- One stimulus action; levels in mV, rates in mV/ms, times in ms. -/
inductive Action where
  | supplySet (target rate : Nat)
  | supplyOff
  | crank (dip dipTime rate : Nat)
  | fieldWrite (w : FieldWrite)
  | messageOn (slot : Nat)
  | messageOff (slot : Nat)
  deriving DecidableEq, Repr

/-- A LIGHT measurement. -/
structure LightMeas where
  channel : Nat
  target : Option Nat
  override : Option Nat
  window : Nat
  deriving DecidableEq, Repr

/-- A BUSFIELD measurement. -/
structure BusField where
  slot : Nat
  start : Nat
  len : Nat
  signed : Bool
  num : Int
  den : Nat
  offset : Int
  deriving DecidableEq, Repr

/-- The measurement of an order. -/
inductive Measurement where
  | light (m : LightMeas)
  | current (window : Nat)
  | sound (window threshold hysteresis : Nat)
  | busfield (m : BusField)
  deriving DecidableEq, Repr

/-- The prompt of an order; timeout in s. -/
structure Prompt where
  mode : PromptMode
  text : List Byte
  timeout : Nat
  deriving DecidableEq, Repr

/-- An order record, with its CLAMPED mark. -/
structure OrderRec where
  checkId : Half
  actions : List Action
  settle : Nat
  meas : Option Measurement
  low : Option Int
  high : Option Int
  inrush : Option Nat
  prompt : Option Prompt
  clamped : Bool
  deriving DecidableEq, Repr

/-! ## Verdicts (chapter 9) -/

/-- The eight verdict flags, in the order of the flag byte (section 11.3). -/
structure VerdictFlags where
  clamped : Bool := false
  saturated : Bool := false
  pinned : Bool := false
  reranged : Bool := false
  restarted : Bool := false
  busLate : Bool := false
  lineLost : Bool := false
  bus : Bool := false
  deriving DecidableEq, Repr

/-- What the CKR or the OI hands the VDU (R83, R167). -/
structure VerdictContent where
  checkId : Half
  outcome : Verdict
  value : Option Int
  kind : MeasKind
  gain : Option Nat
  aux : Option Nat
  flags : VerdictFlags
  attempts : Option Nat
  deriving DecidableEq, Repr

/-- CURRENT: variant and serial, each optional (section 6.8). -/
structure Identity where
  variant : Option Half
  serial : Option Serial
  deriving DecidableEq, Repr

/-- A verdict record (R167). -/
structure VerdictRecord where
  content : VerdictContent
  identity : Identity
  seq : Half
  deriving DecidableEq, Repr

/-- The DUT summary (R171); bit k of the mask is outcome code k. -/
structure Summary where
  judged : Nat
  failed : Nat
  firstFailed : Option Half
  mask : BitVec 15
  deriving DecidableEq, Repr

/-- Verdict Unit. -/
structure Vdu where
  /-- oldest first -/
  ring : List VerdictRecord
  summary : Summary
  seq : Half
  lastJudged : Half
  deriving DecidableEq, Repr

/-! ## Rack Line Interface (chapter 1) -/

/-- A claim as an announcement carries it (R42). -/
structure AnnClaim where
  resource : Resource
  ticket : Byte
  granted : Bool
  amount : Nat
  deriving DecidableEq, Repr

/-- Announcement content (R42). -/
structure Announcement where
  slot : BitVec 4
  group : BitVec 2
  station : StationState
  limitHold : Bool
  safeHold : Bool
  rail : RailState
  checkId : Half
  noisy : Bool
  lineLost : Bool
  seq : Half
  lastJudged : Half
  claim : Option AnnClaim
  deriving DecidableEq, Repr

/-- A RECEIPT (R28). -/
structure Receipt where
  kind : FrameKind
  reference : Half
  code : ReceiptCode
  free : Nat
  deriving DecidableEq, Repr

/-- What a SUMMARY frame carries (R173). -/
structure SummaryFrame where
  summary : Summary
  identity : Identity
  seq : Half
  deriving DecidableEq, Repr

/-- A frame of the reply queue (R16). -/
inductive Reply where
  | receipt (r : Receipt)
  | verdict (v : VerdictRecord)
  | summary (s : SummaryFrame)
  deriving DecidableEq, Repr

/-- What the station is sending: from which buffer. -/
inductive TxFrame where
  | announce (a : Announcement)
  | reply (r : Reply)
  deriving DecidableEq, Repr

/-- A transmission in progress: its frame and class, the line levels it sends (true is recessive), and whether
the announcement buffer was rewritten meanwhile (R15). -/
structure Tx where
  frame : TxFrame
  cls : FrameClass
  levels : List Bool
  rewritten : Bool
  deriving DecidableEq, Repr

/-- The five contention conditions (R9). -/
inductive Contention where
  | syncing
  | busy
  | gap
  | window (position : Nat)
  | transmitting (tx : Tx)
  deriving DecidableEq, Repr

/-- Rack Line Interface. -/
structure Rli where
  slot : BitVec 4
  group : BitVec 2
  silent : Bool
  contention : Contention
  /-- the station drove a bit of the frame now on the line (R7, R14) -/
  drove : Bool
  /-- the waiting announcement and its class (R11, R15) -/
  buffer : Option (Announcement × FrameClass)
  /-- head first -/
  replies : List Reply
  collisions : Nat
  fairness : Bool
  lastSentClaim : Option AnnClaim
  lastSentNoisy : Bool
  deriving DecidableEq, Repr

/-! ## Order Intake (chapter 2) -/

/-- The RACK section (R39). -/
structure RackCfg where
  budget : Nat
  period : Nat
  claimWait : Nat
  presence : Nat
  inrush : Nat
  deriving DecidableEq, Repr

/-- Order Intake. -/
structure Oi where
  station : StationState
  limitHold : Bool
  safeHold : Bool
  queue : List OrderRec
  rack : RackCfg
  presence : Option Nat
  lineLost : Bool
  deriving DecidableEq, Repr

/-! ## Claim Unit (chapter 3) -/

/-- Liveness of a peer entry (R45). -/
inductive Liveness where
  | absent | live | stale
  deriving DecidableEq, Repr

/-- A peer entry (R45). -/
structure PeerEntry where
  liveness : Liveness
  age : Nat
  group : BitVec 2
  noisy : Bool
  claim : Option AnnClaim
  deriving DecidableEq, Repr

/-- The settle of a claim (R49, R54), with the ms left of its timer. -/
inductive Settle where
  | notBegun
  | running (left : Nat)
  | passed
  deriving DecidableEq, Repr

/-- The own claim (R49). -/
structure OwnClaim where
  resource : Resource
  ticket : Byte
  granted : Bool
  amount : Nat
  requester : Requester
  settle : Settle
  wait : Option Nat
  deriving DecidableEq, Repr

/-- A claim request (R50). -/
structure ClaimRequest where
  resource : Resource
  amount : Nat
  requester : Requester
  deriving DecidableEq, Repr

/-- Claim Unit. -/
structure Clu where
  /-- one entry per slot; the entry of the own slot is not used (the own record is derived, R45) -/
  peers : Vector PeerEntry 16
  claim : Option OwnClaim
  deferred : Option ClaimRequest
  noisy : Bool
  lastInrush : Byte
  lastQuiet : Byte
  lastOperator : Byte
  announceTimer : Option Nat
  /-- the audible wait timer, present while an audible request waits (R63) -/
  audible : Option Nat
  deriving DecidableEq, Repr

/-! ## Check Runner (chapter 4) -/

/-- Stages of a check (R70); ENDED is passed within a step. -/
inductive Stage where
  | stimulating | settling | measuring | prompting | judging
  deriving DecidableEq, Repr

/-- The one open request of a check (section 4.1). -/
inductive OpenRequest where
  | none
  | claim (r : Resource)
  | audible
  | rail
  | measurement
  | prompt
  deriving DecidableEq, Repr

/-- A restore entry (R84): a field and its raw contents. -/
structure RestoreEntry where
  slot : Nat
  start : Nat
  len : Nat
  pattern : Payload
  deriving DecidableEq, Repr

/-- The check record (section 4.1). -/
structure CheckRecord where
  order : OrderRec
  stage : Stage
  stageTimer : Option Nat
  /-- how many actions have finished, so the index of the action being carried out -/
  index : Nat
  waitsOn : OpenRequest
  holdTimer : Option Nat
  flags : VerdictFlags
  value : Option Int
  gain : Option Nat
  aux : Option Nat
  attempts : Option Nat
  /-- the outcome that JUDGING will take (R81, R82) -/
  judged : Verdict
  /-- newest first -/
  restore : List RestoreEntry
  fifth : Option RestoreEntry
  deriving DecidableEq, Repr

/-! ## Supply Unit (chapter 5) -/

/-- The SUPPLY section (R111). -/
structure SupplyCfg where
  limitMa : Nat
  retryLimit : Nat
  offMs : Nat
  deriving DecidableEq, Repr

/-- A crank in progress (R98): `hold` is the ms left of the dip time, `none` in the recovery phase. -/
structure Crank where
  dip : Nat
  hold : Option Nat
  rate : Nat
  deriving DecidableEq, Repr

/-- Supply Unit. The filters count 100 µs samples (R102). -/
structure Spu where
  rail : RailState
  setpoint : Nat
  effective : Nat
  rate : Nat
  crank : Option Crank
  shortCount : Nat
  overCurrentCount : Nat
  overVoltageCount : Nat
  offTimer : Option Nat
  dischargeTimer : Option Nat
  retryCount : Nat
  retry : Bool
  recovery : Option Nat
  cfg : SupplyCfg
  /-- the output voltage as last read, mV -/
  outputMv : Nat
  deriving DecidableEq, Repr

/-! ## Bus Emulator (chapter 6) -/

/-- An emulated message slot (section 6.2). -/
structure MessageSlot where
  defined : Bool
  id : Nat
  len : Nat
  payload : Payload
  period : Nat
  phase : Nat
  enabled : Bool
  /-- start bit and length -/
  counter : Option (Nat × Nat)
  checksum : Option Nat
  late : Bool
  deriving DecidableEq, Repr

/-- A snapshot in the transmit queue or on the bus (R119). -/
structure TxInstance where
  slot : Nat
  id : Nat
  len : Nat
  payload : Payload
  deriving DecidableEq, Repr

/-- HALF0_HELD content of a pair tracker (R132). -/
structure HeldHalf where
  variant : Half
  /-- serial bytes 0 to 3 -/
  serialLow : BitVec 32
  deriving DecidableEq, Repr

/-- A capture slot (R128). -/
structure CaptureSlot where
  defined : Bool
  id : Nat
  ident : Bool
  last : Payload
  lastLen : Nat
  age : Nat
  fresh : Bool
  tracker : Option HeldHalf
  deriving DecidableEq, Repr

/-- Bus Emulator. -/
structure Bem where
  slots : Vector MessageSlot 24
  queue : List TxInstance
  sending : Option TxInstance
  /-- ms since the schedule's zero, while it runs (R117) -/
  schedule : Option Nat
  silent : Bool
  unacked : Nat
  captures : Vector CaptureSlot 8
  given : Option Half
  received : Option (Half × Serial)
  current : Identity
  deriving DecidableEq, Repr

/-! ## Light Unit (chapter 7) -/

/-- Calibration of a light channel (R140). -/
structure LightCal where
  kc : Nat
  dark : Nat
  gmin : Nat
  gmax : Nat
  startGain : Nat
  band : Nat
  shift : Nat
  timeoutIndex : Nat
  deriving DecidableEq, Repr

/-- States of a light channel (R137). -/
inductive LightState where
  | held | ranging | locked | window
  deriving DecidableEq, Repr

/-- Lock kinds (section 7.1). -/
inductive LockKind where
  | none | band | pinned
  deriving DecidableEq, Repr

/-- A light channel (section 7.1). -/
structure LightChannel where
  cal : LightCal
  state : LightState
  gain : Nat
  target : Nat
  window : Nat
  override : Bool
  blockSum : Nat
  blockCount : Nat
  blockSaturated : Bool
  inBand : Nat
  pinned : Nat
  outOfBand : Nat
  lock : LockKind
  rangeTimer : Option Nat
  reranged : Bool
  sum : Nat
  count : Nat
  saturated : Bool
  deriving DecidableEq, Repr

/-! ## Current and Sound Unit (chapter 8) -/

/-- Window states (section 8.1). -/
inductive CsuWindow where
  | idle | current | sound
  deriving DecidableEq, Repr

/-- Current and Sound Unit (section 8.1). -/
structure Csu where
  window : CsuWindow
  length : Nat
  count : Nat
  currentSum : Nat
  threshold : Nat
  hysteresis : Nat
  rearm : Nat
  armed : Bool
  tones : Nat
  peak : Nat
  disturbances : Nat
  deriving DecidableEq, Repr

/-! ## Operator Unit (chapter 10) -/

/-- Prompt states (section 10.2). -/
inductive PromptState where
  | idle | waiting | challenge | yesNo | done
  deriving DecidableEq, Repr

/-- The OPERATOR section (R192). -/
structure OperatorCfg where
  errorLimit : Nat
  lookMs : Nat
  seed : Half
  slot : Nat
  start : Nat
  deriving DecidableEq, Repr

/-- Operator Unit. -/
structure Opu where
  state : PromptState
  prompt : Option Prompt
  place : Option Nat
  /-- digits keyed, oldest first -/
  entry : List Nat
  attempts : Nat
  code : Nat
  generator : Half
  errors : Nat
  promptTimer : Option Nat
  lookTimer : Option Nat
  cfg : OperatorCfg
  /-- the text on lines 1 and 2 -/
  shown : List Byte
  lamp : Bool
  /-- the result shown in DONE -/
  result : Verdict
  deriving DecidableEq, Repr

/-! ## The whole state -/

/-- The state of one GN716, and the commands that wait to be taken. -/
structure State where
  /-- the reset pin is held low (R195) -/
  resetHeld : Bool
  rli : Rli
  oi : Oi
  clu : Clu
  /-- the check in flight -/
  ckr : Option CheckRecord
  spu : Spu
  bem : Bem
  ltu : Vector LightChannel 8
  csu : Csu
  vdu : Vdu
  opu : Opu
  /-- MODEL'S OWN: the ms that have passed, the index of the free input values (log 5) -/
  clock : Nat
  /-- MODEL'S OWN: the order choices made so far, the index of `Config.firstTaken`, `tickPick` and `takenAfter` -/
  choices : Nat
  /-- MODEL'S OWN: the events that the last ms brought and that wait to be taken (log 3) -/
  arrived : List Instr
  /-- MODEL'S OWN: the TAKE_SUMMARY at the front of the queue has had its exchange, during a flush (R174, log 36) -/
  taken : Bool
  /-- MODEL'S OWN: the commands not yet taken, first in, first out -/
  pending : List Instr
  deriving DecidableEq, Repr

/-- Reasons to stop with a fault. NONE: no command of this part stops it; an event that the state does not admit
leaves the state as it is (log 1). The type is empty, so that no meaning can answer with a fault. -/
inductive Fault where
  deriving DecidableEq, Repr

/-- Reasons to refuse a command. -/
inductive Refusal where
  /-- Raised by exec's arm of a command that has no meaning yet (none has this arm). Safe: the model stops where
  the part goes on. -/
  | notModelled (mnemonic : String)
  deriving DecidableEq, Repr

/-! ## Values after reset -/

/-- R18: SYNCING, buffers empty, last-sent fields no claim and NOISY clear. -/
def Rli.reset (slot : BitVec 4) (group : BitVec 2) : Rli where
  slot := slot
  group := group
  silent := false
  contention := .syncing
  drove := false
  buffer := none
  replies := []
  collisions := 0
  fairness := false
  lastSentClaim := none
  lastSentNoisy := false

/-- Defaults of the RACK section (R39). -/
def RackCfg.default : RackCfg where
  budget := 80
  period := 50
  claimWait := 30
  presence := 10
  inrush := 15

/-- R20, R41. -/
def Oi.reset : Oi where
  station := .unconfigured
  limitHold := false
  safeHold := false
  queue := []
  rack := .default
  presence := some 10000
  lineLost := false

/-- R45. -/
def PeerEntry.reset : PeerEntry where
  liveness := .absent
  age := 65535
  group := 0
  noisy := false
  claim := none

/-- R66. -/
def Clu.reset : Clu where
  peers := Vector.replicate 16 .reset
  claim := none
  deferred := none
  noisy := false
  lastInrush := 0
  lastQuiet := 0
  lastOperator := 0
  announceTimer := some 50
  audible := none

/-- Defaults of the SUPPLY section (R111). -/
def SupplyCfg.default : SupplyCfg where
  limitMa := 2000
  retryLimit := 3
  offMs := 200

/-- R112. The output reading is an input (log 6). -/
def Spu.reset (outputMv : Nat) : Spu where
  rail := .off
  setpoint := 0
  effective := 0
  rate := 1
  crank := none
  shortCount := 0
  overCurrentCount := 0
  overVoltageCount := 0
  offTimer := none
  dischargeTimer := none
  retryCount := 0
  retry := false
  recovery := none
  cfg := .default
  outputMv := outputMv

/-- An undefined message slot (R135); the fields an undefined slot does not have are the model's (log 22). -/
def MessageSlot.undefined : MessageSlot where
  defined := false
  id := 0
  len := 0
  payload := 0
  period := 0
  phase := 0
  enabled := false
  counter := none
  checksum := none
  late := false

/-- An undefined capture slot (R135); the fields an undefined slot does not have are the model's (log 22). -/
def CaptureSlot.undefined : CaptureSlot where
  defined := false
  id := 0
  ident := false
  last := 0
  lastLen := 0
  age := 65535
  fresh := false
  tracker := none

/-- R135. -/
def Bem.reset : Bem where
  slots := Vector.replicate 24 .undefined
  queue := []
  sending := none
  schedule := none
  silent := false
  unacked := 0
  captures := Vector.replicate 8 .undefined
  given := none
  received := none
  current := ⟨none, none⟩

/-- Defaults of a LIGHT section (R140). -/
def LightCal.default : LightCal where
  kc := 1024
  dark := 0
  gmin := 0
  gmax := 47
  startGain := 24
  band := 128
  shift := 1
  timeoutIndex := 7

/-- R153. Target, window length and override mark belong to a measurement and are the model's here (log 22). -/
def LightChannel.reset : LightChannel where
  cal := .default
  state := .held
  gain := 24
  target := 2048
  window := 16
  override := false
  blockSum := 0
  blockCount := 0
  blockSaturated := false
  inBand := 0
  pinned := 0
  outOfBand := 0
  lock := .none
  rangeTimer := none
  reranged := false
  sum := 0
  count := 0
  saturated := false

/-- R155. -/
def Csu.reset : Csu where
  window := .idle
  length := 0
  count := 0
  currentSum := 0
  threshold := 0
  hysteresis := 0
  rearm := 0
  armed := false
  tones := 0
  peak := 0
  disturbances := 0

/-- An empty summary (R171). -/
def Summary.empty : Summary where
  judged := 0
  failed := 0
  firstFailed := none
  mask := 0

/-- R177. -/
def Vdu.reset : Vdu where
  ring := []
  summary := .empty
  seq := 0
  lastJudged := 0

/-- Defaults of the OPERATOR section (R192). -/
def OperatorCfg.default : OperatorCfg where
  errorLimit := 3
  lookMs := 800
  seed := 0xACE1
  slot := 0
  start := 0

/-- R193. The code and the last result belong to a prompt and are the model's here (log 22). -/
def Opu.reset : Opu where
  state := .idle
  prompt := none
  place := none
  entry := []
  attempts := 0
  code := 0
  generator := 0xACE1
  errors := 0
  promptTimer := none
  lookTimer := none
  cfg := .default
  shown := []
  lamp := false
  result := .pass

/-- Every block at its reset value, with the straps read and the inputs as given (R18, R41, R66, R93, R112, R135,
R153, R155, R177, R193). -/
def State.resetWith (slot : BitVec 4) (group : BitVec 2) (outputMv clock choices : Nat) (pending : List Instr) :
    State where
  resetHeld := false
  rli := Rli.reset slot group
  oi := Oi.reset
  clu := Clu.reset
  ckr := none
  spu := Spu.reset outputMv
  bem := Bem.reset
  ltu := Vector.replicate 8 .reset
  csu := Csu.reset
  vdu := Vdu.reset
  opu := Opu.reset
  clock := clock
  choices := choices
  arrived := []
  taken := false
  pending := pending

/-- The part right after reset, no strap fitted (slot 15, group 3: R195, log 7), with no command waiting. -/
def State.reset : State := State.resetWith 15 3 500 0 0 []

/-! ## Updates of one block -/

def State.setResetHeld (s : State) (x : Bool) : State := { s with resetHeld := x }
def State.setRli (s : State) (x : Rli) : State := { s with rli := x }
def State.setOi (s : State) (x : Oi) : State := { s with oi := x }
def State.setClu (s : State) (x : Clu) : State := { s with clu := x }
def State.setCkr (s : State) (x : Option CheckRecord) : State := { s with ckr := x }
def State.setSpu (s : State) (x : Spu) : State := { s with spu := x }
def State.setBem (s : State) (x : Bem) : State := { s with bem := x }
def State.setLtu (s : State) (x : Vector LightChannel 8) : State := { s with ltu := x }
def State.setCsu (s : State) (x : Csu) : State := { s with csu := x }
def State.setVdu (s : State) (x : Vdu) : State := { s with vdu := x }
def State.setOpu (s : State) (x : Opu) : State := { s with opu := x }
def State.setClock (s : State) (x : Nat) : State := { s with clock := x }
def State.setChoices (s : State) (x : Nat) : State := { s with choices := x }
def State.setArrived (s : State) (x : List Instr) : State := { s with arrived := x }
def State.setTaken (s : State) (x : Bool) : State := { s with taken := x }
def State.setPending (s : State) (x : List Instr) : State := { s with pending := x }

end Sys2Proof.Machine
end

