-- ==== Sys2Proof/Machine/Flags.lean ====
section
/-! DEFINITION. Verdict flags, outcome codes, and the codes of section 11.3. -/

namespace Sys2Proof.Machine

/-- Outcome codes 0 to 14 (R166). -/
def Verdict.code : Verdict → Nat
  | .pass => 0
  | .failLow => 1
  | .failHigh => 2
  | .done => 3
  | .unranged => 4
  | .disturbed => 5
  | .noData => 6
  | .rackBusy => 7
  | .operatorFail => 8
  | .timeout => 9
  | .dutFault => 10
  | .wrongDut => 11
  | .dutChanged => 12
  | .aborted => 13
  | .notRun => 14

/-- PASS and DONE pass, the other thirteen fail (R166). -/
def Verdict.failing : Verdict → Bool
  | .pass => false
  | .done => false
  | _ => true

/-- The outcome-class mark of an outcome (R171). -/
def Verdict.mark (v : Verdict) : BitVec 15 := 1#15 <<< v.code

/-- The failing marks: every class but PASS (0) and DONE (3). -/
def failingMarks : BitVec 15 := 0x7ff6#15

/-- The verdict flag byte (section 11.3). -/
def VerdictFlags.toByte (f : VerdictFlags) : Byte :=
  let bit (b : Bool) (k : Nat) : Byte := if b then 1#8 <<< k else 0
  bit f.clamped 0 ||| bit f.saturated 1 ||| bit f.pinned 2 ||| bit f.reranged 3 |||
    bit f.restarted 4 ||| bit f.busLate 5 ||| bit f.lineLost 6 ||| bit f.bus 7

/-- Measurement kind codes (section 11.3). -/
def MeasKind.code : MeasKind → Nat
  | .none => 0
  | .light => 1
  | .current => 2
  | .sound => 3
  | .busfield => 4

/-- The measurement kind of a verdict (R167). -/
def Measurement.kind : Measurement → MeasKind
  | .light _ => .light
  | .current _ => .current
  | .sound _ _ _ => .sound
  | .busfield _ => .busfield

/-- NONE when the order has no measurement (R167). -/
def OrderRec.kind (o : OrderRec) : MeasKind :=
  match o.meas with
  | some m => m.kind
  | none => .none

/-- Whether the order is a SOUND check (R78). -/
def OrderRec.isSound (o : OrderRec) : Bool := o.kind == .sound

/-- Frame kind codes (section 1.3). -/
def FrameKind.code : FrameKind → Nat
  | .announce => 1
  | .order => 2
  | .receipt => 3
  | .verdict => 4
  | .control => 5
  | .query => 6
  | .summary => 7
  | .configure => 8

/-- The kind a code names; codes 0 and 9 to 15 are not kinds (section 1.3). -/
def FrameKind.ofCode : Nat → Option FrameKind
  | 1 => some .announce
  | 2 => some .order
  | 3 => some .receipt
  | 4 => some .verdict
  | 5 => some .control
  | 6 => some .query
  | 7 => some .summary
  | 8 => some .configure
  | _ => none

/-- Kinds that a nest sends (R5, R6). -/
def FrameKind.fromNest : FrameKind → Bool
  | .announce => true
  | .receipt => true
  | .verdict => true
  | .summary => true
  | _ => false

/-- Station state codes; SILENT has none, since a SILENT station sends no frame (section 11.3). -/
def StationState.code : StationState → Nat
  | .unconfigured => 0
  | .ready => 1
  | .running => 2
  | .hold => 3
  | .silent => 0

/-- Rail state codes (section 11.3). -/
def RailState.code : RailState → Nat
  | .off => 0
  | .waitInrush => 1
  | .ramping => 2
  | .on => 3
  | .slewing => 4
  | .cranking => 5
  | .discharging => 6
  | .faultOff => 7
  | .safe => 8

/-- Resource codes; 0 is no claim (section 11.3). -/
def Resource.code : Resource → Nat
  | .inrush => 1
  | .quiet => 2
  | .operator => 3

/-- The resource a code names. -/
def Resource.ofCode : Nat → Option Resource
  | 1 => some .inrush
  | 2 => some .quiet
  | 3 => some .operator
  | _ => none

/-- Receipt codes (section 11.3). -/
def ReceiptCode.code : ReceiptCode → Nat
  | .accepted => 0
  | .queueFull => 1
  | .duplicate => 2
  | .invalid => 3
  | .held => 4
  | .unconfigured => 5
  | .busy => 6
  | .unknownId => 7

/-- A RECEIPT is URGENT, a VERDICT or SUMMARY NORMAL (R11). -/
def Reply.cls : Reply → FrameClass
  | .receipt _ => .urgent
  | .verdict _ => .normal
  | .summary _ => .normal

/-- The frame kind of a reply (R5). -/
def Reply.kind : Reply → FrameKind
  | .receipt _ => .receipt
  | .verdict _ => .verdict
  | .summary _ => .summary

end Sys2Proof.Machine
end

