-- ==== Sys2Proof/Machine/Operands.lean ====
section
/-! DEFINITION. The byte layouts of chapter 11: the payloads a nest sends, and the payloads it reads. A payload that
does not have its layout reads as `none`. -/

namespace Sys2Proof.Machine

/-! ## Bytes (multi-byte fields least significant byte first, section 5.5) -/

/-- The low byte of a number. -/
def byteOf (n : Nat) : Byte := BitVec.ofNat 8 n

/-- A 16-bit field, low byte first. -/
def bytes16 (h : Half) : List Byte := [h.setWidth 8, (h >>> 8).setWidth 8]

/-- A signed 32-bit field in two's complement, low byte first. -/
def bytes32 (v : Int) : List Byte :=
  let w := BitVec.ofInt 32 v
  [w.setWidth 8, (w >>> 8).setWidth 8, (w >>> 16).setWidth 8, (w >>> 24).setWidth 8]

/-- The ten serial bytes, serial byte 0 first. -/
def bytesSerial (v : Serial) : List Byte :=
  (List.range 10).map fun i => (v >>> (8 * i)).setWidth 8

/-- A 16-bit field read as bits. -/
def half (lo hi : Byte) : Half := hi ++ lo

/-- A 16-bit field read as a number. -/
def u16 (lo hi : Byte) : Nat := (half lo hi).toNat

/-- A signed 16-bit field. -/
def s16 (lo hi : Byte) : Int := (half lo hi).toInt

/-- A signed 32-bit field. -/
def s32 (b0 b1 b2 b3 : Byte) : Int := (b3 ++ b2 ++ b1 ++ b0 : BitVec 32).toInt

/-- Bit k of a byte as a flag. -/
def flag (b : Byte) (k : Nat) : Bool := b.getLsbD k

/-! ## Nest payloads (section 11.4) -/

/-- Whether an optional field is present, as a bit in place k. -/
def presence (b : Bool) (k : Nat) : Byte := if b then 1#8 <<< k else 0

/-- ANNOUNCE, 14 bytes. -/
def Announcement.payload (a : Announcement) : List Byte :=
  [(a.slot.setWidth 8) ||| ((a.group.setWidth 8) <<< 4), byteOf a.station.code,
    presence a.limitHold 0 ||| presence a.safeHold 1 ||| presence a.noisy 2 ||| presence a.lineLost 3,
    byteOf a.rail.code] ++ bytes16 a.checkId ++ bytes16 a.seq ++ bytes16 a.lastJudged ++
    match a.claim with
    | some c => [byteOf c.resource.code, c.ticket, if c.granted then 1 else 0, byteOf c.amount]
    | none => [0, 0, 0, 0]

/-- RECEIPT, 5 bytes. -/
def Receipt.payload (r : Receipt) : List Byte :=
  byteOf r.kind.code :: bytes16 r.reference ++ [byteOf r.code.code, byteOf r.free]

/-- VERDICT, 28 bytes. -/
def VerdictRecord.payload (v : VerdictRecord) : List Byte :=
  let c := v.content
  bytes16 c.checkId ++
    [byteOf c.outcome.code,
      presence c.value.isSome 0 ||| presence c.gain.isSome 1 ||| presence c.aux.isSome 2 |||
        presence c.attempts.isSome 3 ||| presence v.identity.variant.isSome 4 |||
        presence v.identity.serial.isSome 5,
      byteOf c.kind.code] ++
    bytes32 (c.value.getD 0) ++ [byteOf (c.gain.getD 0)] ++ bytes16 (BitVec.ofNat 16 (c.aux.getD 0)) ++
    [c.flags.toByte, byteOf (c.attempts.getD 0)] ++ bytes16 (v.identity.variant.getD 0) ++
    bytesSerial (v.identity.serial.getD 0) ++ bytes16 v.seq

/-- SUMMARY, 23 bytes. -/
def SummaryFrame.payload (f : SummaryFrame) : List Byte :=
  bytes16 (BitVec.ofNat 16 f.summary.judged) ++ bytes16 (BitVec.ofNat 16 f.summary.failed) ++
    [presence f.summary.firstFailed.isSome 0 ||| presence f.identity.variant.isSome 1 |||
      presence f.identity.serial.isSome 2] ++
    bytes16 (f.summary.firstFailed.getD 0) ++ bytes16 (f.summary.mask.setWidth 16) ++
    bytes16 (f.identity.variant.getD 0) ++ bytesSerial (f.identity.serial.getD 0) ++ bytes16 f.seq

/-- The payload of a reply. -/
def Reply.payload : Reply → List Byte
  | .receipt r => r.payload
  | .verdict v => v.payload
  | .summary f => f.payload

/-! ## ANNOUNCE as a peer reads it (R46) -/

/-- What a peer's announcement gives the view (R45). -/
structure PeerReport where
  group : BitVec 2
  noisy : Bool
  claim : Option AnnClaim
  deriving DecidableEq, Repr

/-- The claim of bytes 10 to 13: `none` when a code does not exist or an INRUSH amount is 0 or above 100, else the
claim, absent for resource 0 (R46, R194). -/
def parseClaim (resource ticket status amount : Byte) : Option (Option AnnClaim) :=
  if resource = 0 then some none
  else
    match Resource.ofCode resource.toNat with
    | none => none
    | some r =>
      if status.toNat > 1 then none
      else if r = .inrush && (amount.toNat == 0 || decide (amount.toNat > 100)) then none
      else some (some ⟨r, ticket, status == 1, amount.toNat⟩)

/-- The announcement payload, or `none` where R46 has the CLU ignore the frame. -/
def parseAnnounce (p : List Byte) : Option PeerReport :=
  match p with
  | [b0, station, bits, rail, _, _, _, _, _, _, resource, ticket, status, amount] =>
    if station.toNat > 3 || rail.toNat > 8 then none
    else (parseClaim resource ticket status amount).map fun claim =>
      ⟨(b0 >>> 4).setWidth 2, flag bits 2, claim⟩
  | _ => none

/-! ## ORDER (section 11.5) -/

/-- One action from the front of a payload. -/
def parseAction : List Byte → Option (Action × List Byte)
  | [] => none
  | k :: rest =>
    match (k &&& 7).toNat with
    | 1 =>
      match rest with
      | a :: b :: c :: d :: r => some (.supplySet (u16 a b) (u16 c d), r)
      | _ => none
    | 2 => some (.supplyOff, rest)
    | 3 =>
      match rest with
      | a :: b :: c :: d :: e :: f :: r => some (.crank (u16 a b) (u16 c d) (u16 e f), r)
      | _ => none
    | 4 =>
      match rest with
      | slot :: start :: len :: v0 :: v1 :: v2 :: v3 :: n0 :: n1 :: d0 :: d1 :: o0 :: o1 :: o2 :: o3 :: r =>
        some (.fieldWrite ⟨slot.toNat, start.toNat, len.toNat, flag k 3, s32 v0 v1 v2 v3, s16 n0 n1, u16 d0 d1,
          s32 o0 o1 o2 o3, flag k 4, flag k 5⟩, r)
      | _ => none
    | 5 =>
      match rest with
      | slot :: r => some (.messageOn slot.toNat, r)
      | _ => none
    | 6 =>
      match rest with
      | slot :: r => some (.messageOff slot.toNat, r)
      | _ => none
    | _ => none

/-- n actions from the front of a payload. -/
def parseActions : Nat → List Byte → Option (List Action × List Byte)
  | 0, p => some ([], p)
  | n + 1, p =>
    match parseAction p with
    | none => none
    | some (a, r) =>
      match parseActions n r with
      | none => none
      | some (as, r') => some (a :: as, r')

/-- A measurement from the front of a payload. -/
def parseMeasurement : List Byte → Option (Measurement × List Byte)
  | [] => none
  | k :: rest =>
    match (k &&& 7).toNat with
    | 1 =>
      match rest with
      | ch :: t0 :: t1 :: g :: w0 :: w1 :: r =>
        some (.light ⟨ch.toNat, if flag k 4 then some (u16 t0 t1) else none,
          if flag k 5 then some g.toNat else none, u16 w0 w1⟩, r)
      | _ => none
    | 2 =>
      match rest with
      | w0 :: w1 :: r => some (.current (u16 w0 w1), r)
      | _ => none
    | 3 =>
      match rest with
      | w0 :: w1 :: t0 :: t1 :: h0 :: h1 :: r => some (.sound (u16 w0 w1) (u16 t0 t1) (u16 h0 h1), r)
      | _ => none
    | 4 =>
      match rest with
      | slot :: start :: len :: n0 :: n1 :: d0 :: d1 :: o0 :: o1 :: o2 :: o3 :: r =>
        some (.busfield ⟨slot.toNat, start.toNat, len.toNat, flag k 3, s16 n0 n1, u16 d0 d1, s32 o0 o1 o2 o3⟩, r)
      | _ => none
    | _ => none

/-- An optional part: read by `f` when its mark is set, absent when not. -/
def parseMarked {α : Type} (mark : Bool) (f : List Byte → Option (α × List Byte)) (p : List Byte) :
    Option (Option α × List Byte) :=
  if mark then (f p).map fun x => (some x.1, x.2) else some (none, p)

/-- A signed 32-bit limit. -/
def parseLimit : List Byte → Option (Int × List Byte)
  | b0 :: b1 :: b2 :: b3 :: r => some (s32 b0 b1 b2 b3, r)
  | _ => none

/-- The inrush amount. -/
def parseAmount : List Byte → Option (Nat × List Byte)
  | b :: r => some (b.toNat, r)
  | _ => none

/-- Prompt mode codes (section 11.3). -/
def PromptMode.ofCode : Nat → Option PromptMode
  | 1 => some .yesNo
  | 2 => some .attendedYesNo
  | 3 => some .attended
  | _ => none

/-- The prompt: text length and mode, timeout, text. -/
def parsePrompt : List Byte → Option (Prompt × List Byte)
  | b :: t :: r =>
    let n := (b &&& 63).toNat
    match PromptMode.ofCode (b >>> 6).toNat with
    | none => none
    | some m => if r.length < n then none else some (⟨m, r.take n, t.toNat⟩, r.drop n)
  | _ => none

/-- The parts of an ORDER payload after its fixed part. -/
def parseOrderBody (id : Half) (b2 : Byte) (settle : Nat) (p : List Byte) : Option OrderRec :=
  match parseActions (b2 &&& 7).toNat p with
  | none => none
  | some (actions, p1) =>
    match parseMarked (flag b2 3) parseMeasurement p1 with
    | none => none
    | some (meas, p2) =>
      match parseMarked (flag b2 4) parseLimit p2 with
      | none => none
      | some (low, p3) =>
        match parseMarked (flag b2 5) parseLimit p3 with
        | none => none
        | some (high, p4) =>
          match parseMarked (flag b2 6) parseAmount p4 with
          | none => none
          | some (inrush, p5) =>
            match parseMarked (flag b2 7) parsePrompt p5 with
            | some (prompt, []) => some ⟨id, actions, settle, meas, low, high, inrush, prompt, false⟩
            | _ => none

/-- An ORDER payload, or `none` when it is shorter or longer than its counts and marks require, or names a kind or
mode that does not exist (R25). -/
def parseOrder : List Byte → Option OrderRec
  | i0 :: i1 :: b2 :: s0 :: s1 :: rest => parseOrderBody (half i0 i1) b2 (u16 s0 s1) rest
  | _ => none

/-- The first 16-bit field of a payload: the check id of an ORDER or QUERY, the reference number of a CONTROL or
CONFIGURE; 0 for a payload too short to carry it (R28, log 17). -/
def leadingHalf : List Byte → Half
  | b0 :: b1 :: _ => half b0 b1
  | _ => 0

/-! ## QUERY, CONTROL and CONFIGURE (section 11.5) -/

/-- A QUERY: exactly its check id (R37). -/
def parseQuery : List Byte → Option Half
  | [b0, b1] => some (half b0 b1)
  | _ => none

/-- The control kinds with their data (section 2.6). -/
inductive Control where
  | abort (flush : Bool) (target : Option Half)
  | restart
  | beginDut (variant : Half)
  | endDut
  | clearHold
  | takeSummary
  deriving DecidableEq, Repr

/-- A CONTROL, or `none` when it is malformed (R30). -/
def parseControl : List Byte → Option Control
  | _ :: _ :: k :: rest =>
    match k.toNat, rest with
    | 1, [b3, t0, t1] => some (.abort (flag b3 0) (if flag b3 1 then some (half t0 t1) else none))
    | 2, [] => some .restart
    | 3, [v0, v1] => some (.beginDut (half v0 v1))
    | 4, [] => some .endDut
    | 5, [] => some .clearHold
    | 6, [] => some .takeSummary
    | _, _ => none
  | _ => none

/-- The MESSAGE section as sent (R115). -/
structure MessageSection where
  slot : Nat
  id : Nat
  len : Nat
  period : Nat
  phase : Nat
  payload : Payload
  counter : Option (Nat × Nat)
  checksum : Option Nat
  deriving DecidableEq, Repr

/-- The CAPTURE section as sent (R128). -/
structure CaptureSection where
  slot : Nat
  id : Nat
  ident : Bool
  deriving DecidableEq, Repr

/-- The configuration sections as sent, before any clamp (section 2.8). -/
inductive ConfigSection where
  | rack (c : RackCfg)
  | supply (c : SupplyCfg)
  | light (channel : Nat) (c : LightCal)
  | operator (c : OperatorCfg)
  | message (m : MessageSection)
  | capture (c : CaptureSection)
  deriving DecidableEq, Repr

/-- Eight payload bytes as one word, byte 0 lowest. -/
def payloadOf (bs : List Byte) : Payload :=
  (List.range 8).foldl (fun w i => w ||| ((bs.getD i 0).setWidth 64 <<< (8 * i))) 0

/-- A CONFIGURE, or `none` where R38 answers INVALID: the section kind does not exist, the length is wrong, or the
slot or channel named is outside its range. A CAPTURE purpose above 1 is IDENT (R194). -/
def parseConfigure : List Byte → Option ConfigSection
  | _ :: _ :: k :: rest =>
    match k.toNat, rest with
    | 1, [b0, b1, p, w, l, i] => some (.rack ⟨u16 b0 b1, p.toNat, w.toNat, l.toNat, i.toNat⟩)
    | 2, [c0, c1, r, o0, o1] => some (.supply ⟨u16 c0 c1, r.toNat, u16 o0 o1⟩)
    | 3, [ch, k0, k1, d0, d1, g0, g1, sg, l0, l1, sh, ix] =>
      if ch.toNat > 7 then none
      else some (.light ch.toNat ⟨u16 k0 k1, u16 d0 d1, g0.toNat, g1.toNat, sg.toNat, u16 l0 l1, sh.toNat, ix.toNat⟩)
    | 4, [e, l0, l1, s0, s1, sl, sb] => some (.operator ⟨e.toNat, u16 l0 l1, half s0 s1, sl.toNat, sb.toNat⟩)
    | 5, [sl, i0, i1, n, p0, p1, f0, f1, b0, b1, b2, b3, b4, b5, b6, b7, m, cs, cl, ck] =>
      if sl.toNat > 23 then none
      else some (.message ⟨sl.toNat, u16 i0 i1, n.toNat, u16 p0 p1, u16 f0 f1,
        payloadOf [b0, b1, b2, b3, b4, b5, b6, b7],
        if flag m 0 then some (cs.toNat, cl.toNat) else none, if flag m 1 then some ck.toNat else none⟩)
    | 6, [sl, i0, i1, p] =>
      if sl.toNat > 7 then none else some (.capture ⟨sl.toNat, u16 i0 i1, decide (p.toNat ≠ 0)⟩)
    | _, _ => none
  | _ => none

end Sys2Proof.Machine
end

