-- ==== Sys2Proof/Machine/Ops.lean ====
section
/-! DEFINITION. The shared operations that belong to no one block: taking a command, order choices, numbers brought
into a range, exact rounding, payload bit fields, and the CRC and signalling of the rack line. -/

namespace Sys2Proof.Machine

/-- What every meaning answers with. -/
abbrev Result := Host.Outcome State Fault Refusal

/-- A command's effect: none while the reset pin holds every block in reset (R195), else `f`. -/
def act (s : State) (f : State → State) : Result := .next (if s.resetHeld then s else f s)

/-- Whether the order the manual names first is the one taken, and the state with that choice counted (log 8 to 10, 44).
-/
def takeFirst (s : State) : Bool × State := (Config.firstTaken s.choices, s.setChoices (s.choices + 1))

/-! ## Samples that wait (R147, R152, R162) -/

/-- Whether an event carries samples of light channel n. -/
def Instr.ofChannel (n : Nat) : Instr → Bool
  | .lightBlockComplete c _ => c.val == n
  | .lightWindowRerange c _ => c.val == n
  | .lightWindowComplete c _ => c.val == n
  | _ => false

/-- Whether an event carries a sample of the CSU. -/
def Instr.ofWindow : Instr → Bool
  | .currentWindowComplete _ => true
  | .soundWindowComplete _ => true
  | _ => false

/-- Events of the last ms that have not been taken discarded, with the samples they carry. -/
def dropArrived (p : Instr → Bool) (s : State) : State := s.setArrived (s.arrived.filter fun e => !p e)

/-! ## Numbers -/

/-- A number brought to the nearer end of its range (section 5.3, R38). -/
def clampTo (lo hi n : Nat) : Nat := max lo (min hi n)

/-- A number brought to the nearer end of a signed range (R122, R163). -/
def clampInt (lo hi v : Int) : Int := max lo (min hi v)

/-- n divided by d, rounded half up (section 5.3). -/
def roundHalfUp (n d : Nat) : Nat := if 2 * (n % d) ≥ d then n / d + 1 else n / d

/-- n divided by d, rounded half away from zero (section 5.3). -/
def roundHalfAway (n d : Int) : Int :=
  let q : Int := (roundHalfUp n.natAbs d.natAbs : Nat)
  if decide (n < 0) == decide (d < 0) then q else -q

/-! ## Tables -/

/-- Entry i of a table, `d` where there is none. -/
def entryAt {α : Type} {n : Nat} (v : Vector α n) (i : Nat) (d : α) : α := v.toList.getD i d

/-- A table with entry i replaced, unchanged where there is none. -/
def setEntry {α : Type} {n : Nat} (v : Vector α n) (i : Nat) (x : α) : Vector α n := v.setIfInBounds i x

/-- Every entry of a table changed by `f`. -/
def mapEntries {α : Type} {n : Nat} (f : α → α) (v : Vector α n) : Vector α n :=
  ⟨⟨v.toList.map f⟩, by simp⟩

/-! ## Payload bit fields (R123) -/

/-- The lowest `len` bits. -/
def lowBits (len : Nat) : Payload := BitVec.ofNat 64 (2 ^ len - 1)

/-- The pattern that a field holds. -/
def readField (p : Payload) (start len : Nat) : Payload := (p >>> start) &&& lowBits len

/-- The payload with a pattern placed in a field. -/
def writeField (p : Payload) (start len : Nat) (pattern : Payload) : Payload :=
  (p &&& ~~~(lowBits len <<< start)) ||| ((pattern &&& lowBits len) <<< start)

/-- Payload byte i. -/
def payloadByte (p : Payload) (i : Nat) : Byte := (p >>> (8 * i)).setWidth 8

/-- The payload with every byte from `len` on set to 0. -/
def keepBytes (p : Payload) (len : Nat) : Payload := p &&& lowBits (8 * len)

/-- The exact, rounded raw value of a FIELD_WRITE, before the clamp (R122). -/
def rawExact (w : FieldWrite) : Int := roundHalfAway ((w.value - w.offset) * w.num) w.den

/-- The lowest and highest raw values of a field (R122). -/
def fieldRange (signed : Bool) (len : Nat) : Int × Int :=
  if signed then (-(2 ^ (len - 1)), 2 ^ (len - 1) - 1) else (0, 2 ^ len - 1)

/-- The raw value brought into the field's range (R122). -/
def rawClamped (w : FieldWrite) : Int :=
  let r := fieldRange w.signed w.len
  clampInt r.1 r.2 (rawExact w)

/-- The L-bit pattern of a raw value (R123). -/
def patternOf (raw : Int) (len : Nat) : Payload := BitVec.ofInt 64 raw &&& lowBits len

/-- The raw value of a captured pattern (R130). -/
def rawOf (signed : Bool) (len : Nat) (pattern : Payload) : Int :=
  if signed && pattern.getLsbD (len - 1) then (pattern.toNat : Int) - 2 ^ len else pattern.toNat

/-- Bus-field scaling (R163). -/
def scaleBusField (m : BusField) (raw : Int) : Int :=
  clampInt (-2147483648) 2147483647 (roundHalfAway (raw * m.den) m.num + m.offset)

/-- Whether two bit runs, each a start and a length, share a bit. -/
def overlaps (s1 l1 s2 l2 : Nat) : Bool := decide (s1 < s2 + l2) && decide (s2 < s1 + l1)

/-! ## The rack line's CRC, frame and signalling (R1, R3, R4) -/

/-- The bits of a byte, most significant first. -/
def bitsMsbFirst (b : Byte) : List Bool := (List.range 8).map fun i => b.getLsbD (7 - i)

/-- One bit into the CRC register (R4). -/
def crcBit (reg : Half) (d : Bool) : Half :=
  if reg.msb != d then (reg <<< 1) ^^^ 0x1021#16 else reg <<< 1

/-- One byte into the CRC register. -/
def crcByte (reg : Half) (b : Byte) : Half := (bitsMsbFirst b).foldl crcBit reg

/-- The CRC over header, length and payload (R4). -/
def crc16 (bs : List Byte) : Half := bs.foldl crcByte 0xffff#16

/-- The two header bytes (section 11.2). -/
def headerBytes (src dst : BitVec 5) (kind : FrameKind) : List Byte :=
  [((src.setWidth 8) <<< 3) ||| ((dst.setWidth 8) >>> 2), ((dst.setWidth 8) <<< 6) ||| (byteOf kind.code <<< 2)]

/-- What the CRC covers. -/
def frameBody (src dst : BitVec 5) (kind : FrameKind) (payload : List Byte) : List Byte :=
  headerBytes src dst kind ++ byteOf payload.length :: payload

/-- The characters of a frame: sync, header, length, payload, CRC high byte first (R3, section 1.2). -/
def frameBytes (src dst : BitVec 5) (kind : FrameKind) (payload : List Byte) : List Byte :=
  let body := frameBody src dst kind payload
  let crc := crc16 body
  0xb4 :: body ++ [(crc >>> 8).setWidth 8, crc.setWidth 8]

/-- The levels of one character, true being recessive: start bit, data bits, stop bit (R1). -/
def charLevels (b : Byte) : List Bool := false :: bitsMsbFirst b ++ [true]

/-- The levels of a frame's characters sent back to back (R1). -/
def lineLevels (bs : List Byte) : List Bool := bs.flatMap charLevels

/-- Bit times that a frame with n payload bytes occupies (R3). -/
def frameBitTimes (n : Nat) : Nat := (6 + n) * 10

/-- Bit times from a frame end to the start of position p of window w (R9). -/
def positionBitTimes (w p : Nat) : Nat := 20 + 136 * w + 4 * p

/-- The characters of a frame as a station with no framing error receives them. -/
def received (bs : List Byte) : RxFrame := bs.map fun b => ⟨b, false⟩

end Sys2Proof.Machine
end

