-- ==== Sys2Proof/Machine/RackLine.lean ====
section
/-! DEFINITION. The Rack Line Interface (chapter 1): the receive filter, contention, transmission, collisions, the two
transmit buffers and SILENT. -/

namespace Sys2Proof.Machine

/-- The line station's address and the broadcast address (section 5.2). -/
def lineStation : BitVec 5 := 30
def broadcast : BitVec 5 := 31

/-- A nest's address is its slot (section 5.2). -/
def nestAddress (slot : BitVec 4) : BitVec 5 := slot.setWidth 5

/-! ## Receive filter (R6) -/

/-- An intact frame. -/
structure Intact where
  src : BitVec 5
  dst : BitVec 5
  kind : FrameKind
  payload : List Byte
  deriving DecidableEq, Repr

/-- Source address of a header (section 11.2). -/
def headerSrc (h0 : Byte) : BitVec 5 := (h0 >>> 3).setWidth 5

/-- Destination address of a header (section 11.2). -/
def headerDst (h0 h1 : Byte) : BitVec 5 := (((h0 &&& 7) <<< 2) ||| (h1 >>> 6)).setWidth 5

/-- Kind code of a header (section 11.2). -/
def headerKind (h1 : Byte) : Nat := ((h1 >>> 2) &&& 15).toNat

/-- The tests of R6 that look at addresses and kind. -/
def addressesPass (slot : BitVec 4) (src dst : BitVec 5) (kind : FrameKind) : Bool :=
  ((decide (src.toNat ≤ 15) && kind.fromNest) || (src == lineStation && !kind.fromNest)) &&
  (dst == nestAddress slot || dst == broadcast) &&
  !((kind == .order || kind == .query || kind == .configure) && dst == broadcast) &&
  !(kind == .announce && dst != broadcast)

/-- The receive filter: the intact frame, or `none` when R6 discards it. -/
def rxFilter (slot : BitVec 4) (f : RxFrame) : Option Intact :=
  if f.any (·.stopLow) then none
  else
    match f.map (·.byte) with
    | sync :: h0 :: h1 :: len :: rest =>
      let n := len.toNat
      let payload := rest.take n
      if sync ≠ 0xb4 || decide (n > 128) || decide (rest.length ≠ n + 2) || h1 &&& 3 ≠ 0 then none
      else if rest.drop n ≠ [(crc16 (h0 :: h1 :: len :: payload) >>> 8).setWidth 8,
          (crc16 (h0 :: h1 :: len :: payload)).setWidth 8] then none
      else
        match FrameKind.ofCode (headerKind h1) with
        | none => none
        | some kind =>
          if addressesPass slot (headerSrc h0) (headerDst h0 h1) kind then
            some ⟨headerSrc h0, headerDst h0 h1, kind, payload⟩
          else none
    | _ => none

/-- What becomes of a frame that has ended (R6, R7, R8). -/
inductive Received where
  /-- it fails the filter -/
  | discarded
  /-- intact, but the station drove bits of it or is SILENT: delivered to no block -/
  | undelivered (src : BitVec 5)
  /-- intact, from the own slot, no bit driven (R8) -/
  | ownSlot
  /-- an intact RECEIPT, VERDICT or SUMMARY of another nest -/
  | peerReply
  | announce (src : BitVec 5) (payload : List Byte)
  | order (payload : List Byte)
  | control (isBroadcast : Bool) (payload : List Byte)
  | query (payload : List Byte)
  | configure (payload : List Byte)
  deriving DecidableEq, Repr

/-- The class of a frame that ends now (R6, R7, R8). -/
def classify (r : Rli) (f : RxFrame) : Received :=
  match rxFilter r.slot f with
  | none => .discarded
  | some i =>
    if r.silent || r.drove then .undelivered i.src
    else if i.src = nestAddress r.slot then .ownSlot
    else
      match i.kind with
      | .announce => .announce i.src i.payload
      | .order => .order i.payload
      | .control => .control (i.dst == broadcast) i.payload
      | .query => .query i.payload
      | .configure => .configure i.payload
      | .receipt => .peerReply
      | .verdict => .peerReply
      | .summary => .peerReply

/-- Whether the RLI is sending. -/
def Contention.sending : Contention → Bool
  | .transmitting _ => true
  | _ => false

/-- The end of a received frame: GAP (R9); the frame's mark goes with it; an intact frame from another station clears
the fairness flag (R13), which a SILENT RLI keeps (R17). -/
def Rli.frameEnd (r : Rli) (intactFromOther : Bool) : Rli :=
  { r with
    contention := .gap
    drove := false
    fairness := r.fairness && (r.silent || !intactFromOther) }

/-! ## Hand-ins and buffers (R11, R15, R16, R19) -/

/-- The announcement that the CLU builds now (R42). -/
def buildAnnouncement (s : State) : Announcement where
  slot := s.rli.slot
  group := s.rli.group
  station := s.oi.station
  limitHold := s.oi.limitHold
  safeHold := s.oi.safeHold
  rail := s.spu.rail
  checkId := match s.ckr with
    | some c => c.order.checkId
    | none => 0
  noisy := s.clu.noisy
  lineLost := s.oi.lineLost
  seq := s.vdu.seq
  lastJudged := s.vdu.lastJudged
  claim := s.clu.claim.map fun c =>
    ⟨c.resource, c.ticket, c.granted, if c.resource = .inrush then c.amount else 0⟩

/-- The class of announcement content against the last-sent fields (R11). -/
def announceClass (lastClaim : Option AnnClaim) (lastNoisy : Bool) (a : Announcement) : FrameClass :=
  if a.claim ≠ lastClaim || a.noisy ≠ lastNoisy then .urgent else .normal

/-- A rewrite noted by a transmission of the buffer's frame (R15). -/
def Contention.noteRewrite : Contention → Contention
  | .transmitting tx =>
    match tx.frame with
    | .announce _ => .transmitting { tx with rewritten := true }
    | .reply _ => .transmitting tx
  | c => c

/-- Announcement content handed to the RLI (R15); a SILENT RLI drops it (R17). -/
def Rli.handInAnnouncement (r : Rli) (a : Announcement) : Rli :=
  if r.silent then r
  else
    { r with
      buffer := some (a, announceClass r.lastSentClaim r.lastSentNoisy a)
      contention := r.contention.noteRewrite }

/-- The CLU builds an announcement and hands it in (R44). -/
def handIn (s : State) : State := s.setRli (s.rli.handInAnnouncement (buildAnnouncement s))

/-- Whether a reply handed in is QUEUED (R16, R17). -/
def Rli.hasRoom (r : Rli) : Bool := !r.silent && decide (r.replies.length < Config.replySize)

/-- A reply handed in: it joins the tail, or is DISCARDED (R16, R17). -/
def Rli.handInReply (r : Rli) (x : Reply) : Rli :=
  if r.hasRoom then { r with replies := r.replies ++ [x] } else r

/-- A block hands in a reply. -/
def handInReply (x : Reply) (s : State) : State := s.setRli (s.rli.handInReply x)

/-- A transmission abandoned: the line is released and what remains is a frame during which the station drove bits
(R14, R19). -/
def Rli.abandon (r : Rli) : Rli :=
  if r.contention.sending then { r with contention := .busy, drove := true } else r

/-- Both buffers emptied, a transmission abandoned without a collision (R19). -/
def Rli.emptyBuffers (r : Rli) : Rli := { r.abandon with buffer := none, replies := [] }

/-- The RLI's part of entering SILENT (R17). -/
def Rli.enterSilent (r : Rli) : Rli := { r.emptyBuffers with silent := true }

/-! ## Sending (R10, R12 to R15) -/

/-- The class that a position of the station serves (R10). -/
def ownPosition (slot : BitVec 4) (position : Nat) : Option FrameClass :=
  if position = slot.toNat then some .urgent
  else if position = 17 + slot.toNat then some .normal
  else none

/-- The frame offered for a class: the announcement first, else the head of the reply queue (R12). -/
def Rli.offered (r : Rli) (cls : FrameClass) : Option TxFrame :=
  match r.buffer with
  | some (a, c) =>
    if c = cls then some (.announce a)
    else
      match r.replies with
      | x :: _ => if x.cls = cls then some (.reply x) else none
      | [] => none
  | none =>
    match r.replies with
    | x :: _ => if x.cls = cls then some (.reply x) else none
    | [] => none

/-- The characters of a frame the station sends (R3, R5). -/
def TxFrame.bytes (slot : BitVec 4) : TxFrame → List Byte
  | .announce a => frameBytes (nestAddress slot) broadcast .announce a.payload
  | .reply x => frameBytes (nestAddress slot) lineStation x.kind x.payload

/-- The start of a position in a window with the line recessive since the frame end (R9, R10, R13). -/
def Rli.positionStart (r : Rli) (position : Nat) : Rli :=
  match r.contention with
  | .window _ =>
    let here := { r with contention := .window position }
    match ownPosition r.slot position with
    | none => here
    | some cls =>
      if r.silent || (cls == FrameClass.normal && r.fairness) then here
      else
        match r.offered cls with
        | none => here
        | some f => { r with contention := .transmitting ⟨f, cls, lineLevels (f.bytes r.slot), false⟩ }
  | _ => r

/-- A transmission sent in full (R13, R14, R15), without the notice to the CLU. -/
def Rli.sentInFull (r : Rli) (tx : Tx) : Rli :=
  let base := { r with contention := .gap, drove := false, collisions := 0,
                       fairness := r.fairness || tx.cls == FrameClass.normal }
  match tx.frame with
  | .announce a =>
    { base with
      lastSentClaim := a.claim
      lastSentNoisy := a.noisy
      buffer := if tx.rewritten then r.buffer.map fun b => (b.1, announceClass a.claim a.noisy b.1) else none }
  | .reply _ => { base with replies := r.replies.tail }

/-- A read-back difference (R14), before the test of the collision count. -/
def Rli.collide (r : Rli) : Rli :=
  if r.contention.sending then { r.abandon with collisions := r.collisions + 1 } else r

end Sys2Proof.Machine
end

