-- ==== Sys2Proof/Machine/Claims.lean ====
section
/-! DEFINITION. The Claim Unit (chapter 3): peer view, tickets and precedence, grant conditions, claims taken and
released, and the audible request. What a requester does with an answer is the requester's (Machine/Check.lean). -/

namespace Sys2Proof.Machine

/-! ## The view (R45, R48) -/

/-- The LIVE peer entries, in slot order, the own record passed over. -/
def livePeers (s : State) : List (Nat × PeerEntry) :=
  ((List.range 16).zip s.clu.peers.toList).filter fun p =>
    p.1 != s.rli.slot.toNat && p.2.liveness == .live

/-- The claims that count for a resource: of LIVE peers, and for OPERATOR of the own group alone (R52, R56, R57). -/
def peerClaims (s : State) (r : Resource) : List (Nat × AnnClaim) :=
  (livePeers s).filterMap fun p =>
    match p.2.claim with
    | none => none
    | some c =>
      if c.resource = r && (r != .operator || p.2.group == s.rli.group) then some (p.1, c) else none

/-! ## Tickets (R52, R53) -/

/-- The own last ticket for a resource. -/
def Clu.lastTicket (c : Clu) : Resource → Byte
  | .inrush => c.lastInrush
  | .quiet => c.lastQuiet
  | .operator => c.lastOperator

/-- The own last ticket for a resource set. -/
def Clu.setLastTicket (c : Clu) (r : Resource) (t : Byte) : Clu :=
  match r with
  | .inrush => { c with lastInrush := t }
  | .quiet => { c with lastQuiet := t }
  | .operator => { c with lastOperator := t }

/-- One entry of the ticket walk (R52). -/
def walkTicket (h t : Byte) : Byte := if 1 ≤ (t - h).toNat ∧ (t - h).toNat ≤ 128 then t else h

/-- The ticket for a new claim (R52). -/
def newTicket (s : State) (r : Resource) : Byte :=
  ((peerClaims s r).foldl (fun h p => walkTicket h p.2.ticket) (s.clu.lastTicket r)) + 1

/-- Whether the claim with ticket a from slot x precedes the one with ticket b from slot y (R53). -/
def precedes (a : Byte) (x : Nat) (b : Byte) (y : Nat) : Bool :=
  let d := (b - a).toNat
  if d = 0 ∨ d = 128 then decide (x < y) else decide (d ≤ 127)

/-! ## Grant conditions (R55 to R57) -/

/-- Whether a peer's claim is GRANTED or precedes the own claim. -/
def ahead (s : State) (c : OwnClaim) (p : Nat × AnnClaim) : Bool :=
  p.2.granted || precedes p.2.ticket p.1 c.ticket s.rli.slot.toNat

/-- The amounts that count against the rack budget (R56). -/
def countedInrush (s : State) (c : OwnClaim) : Nat :=
  (((peerClaims s .inrush).filter (ahead s c)).map fun p => p.2.amount).sum

/-- The grant condition of the own claim in the view as it stands (R56, R57). -/
def grantCondition (s : State) (c : OwnClaim) : Bool :=
  match c.resource with
  | .inrush => decide (c.amount + countedInrush s c ≤ s.oi.rack.budget)
  | .quiet => !(livePeers s).any (fun p => p.2.noisy) && !(peerClaims s .quiet).any (ahead s c)
  | .operator => !(peerClaims s .operator).any (ahead s c)

/-- The place for the operator (R57). -/
def operatorPlace (s : State) (c : OwnClaim) : Nat := 1 + ((peerClaims s .operator).filter (ahead s c)).length

/-- The CLU gives the OPU the place while the own OPERATOR claim is PENDING; the OPU stores it (R57, R180). -/
def givePlace (s : State) : State :=
  match s.clu.claim with
  | some c =>
    if c.resource = .operator && !c.granted then s.setOpu { s.opu with place := some (operatorPlace s c) } else s
  | none => s

/-! ## Claims taken and released (R50, R51, R60 to R62) -/

/-- A claim taken (R50). -/
def takeClaim (q : ClaimRequest) (s : State) : State :=
  let t := newTicket s q.resource
  let claim : OwnClaim :=
    { resource := q.resource, ticket := t, granted := false, amount := q.amount, requester := q.requester,
      settle := .notBegun, wait := some (s.oi.rack.claimWait * 1000) }
  givePlace (handIn (s.setClu { s.clu.setLastTicket q.resource t with claim := some claim }))

/-- The deferred request, when a request meets an own claim (R51); which of two requesters' requests stays is
open (log 10). -/
def deferRequest (q : ClaimRequest) (s : State) : State :=
  match s.clu.deferred with
  | none => s.setClu { s.clu with deferred := some q }
  | some d =>
    if d.requester = q.requester then s.setClu { s.clu with deferred := some q }
    else
      let c := takeFirst s
      if c.1 then c.2 else c.2.setClu { c.2.clu with deferred := some q }

/-- A claim request (R50, R51). -/
def requestClaim (q : ClaimRequest) (s : State) : State :=
  match s.clu.claim with
  | none => takeClaim q s
  | some _ => deferRequest q s

/-- The deferred request taken when no own claim is present (R51). -/
def takeDeferred (s : State) : State :=
  match s.clu.claim, s.clu.deferred with
  | none, some q => takeClaim q (s.setClu { s.clu with deferred := none })
  | _, _ => s

/-- The own claim removed and the change announced (R60, R61). -/
def removeClaim (s : State) : State := handIn (s.setClu { s.clu with claim := none })

/-- A deferred request of this requester on this resource dropped unanswered (R51, R61). -/
def dropDeferred (who : Requester) (r : Resource) (s : State) : State :=
  match s.clu.deferred with
  | some d => if d.requester = who ∧ d.resource = r then s.setClu { s.clu with deferred := none } else s
  | none => s

/-- Whether the own claim is this requester's on this resource. -/
def holdsClaim (who : Requester) (r : Resource) (s : State) : Bool :=
  match s.clu.claim with
  | some c => c.requester == who && c.resource == r
  | none => false

/-- A release (R61). -/
def releaseClaim (who : Requester) (r : Resource) (s : State) : State :=
  let s := dropDeferred who r s
  if holdsClaim who r s then takeDeferred (removeClaim s) else s

/-- Every claim of a requester released, one it still waits for as the deferred request first (R86 step 3, log 15). -/
def releaseAllOf (who : Requester) (s : State) : State :=
  releaseClaim who .operator (releaseClaim who .quiet (releaseClaim who .inrush
    (dropDeferred who .operator (dropDeferred who .quiet (dropDeferred who .inrush s)))))

/-- RESTART and entry to SILENT (R62). -/
def releaseEverything (s : State) : State :=
  let changed := s.clu.claim.isSome || s.clu.noisy
  let s := s.setClu { s.clu with claim := none, deferred := none, noisy := false, audible := none }
  if changed then handIn s else s

/-- Whether the station's QUIET claim is GRANTED (R63). -/
def holdsQuiet (s : State) : Bool :=
  match s.clu.claim with
  | some c => c.resource == .quiet && c.granted
  | none => false

/-! ## NOISY and the audible request (R63 to R65) -/

/-- NOISY set, announced when it was clear. -/
def setNoisy (s : State) : State :=
  if s.clu.noisy then s else handIn (s.setClu { s.clu with noisy := true })

/-- NOISY cleared, announced when it was set. -/
def clearNoisy (s : State) : State :=
  if s.clu.noisy then handIn (s.setClu { s.clu with noisy := false }) else s

/-- Whether a LIVE peer QUIET claim is in view. -/
def peerWantsQuiet (s : State) : Bool := !(peerClaims s .quiet).isEmpty

/-- An audible request: whether it is answered CLEAR at once, and the state (R63). -/
def audibleRequest (s : State) : Bool × State :=
  if holdsQuiet s then (true, s)
  else if peerWantsQuiet s then
    (false, s.setClu { s.clu with audible := some (s.oi.rack.claimWait * 1000) })
  else (true, setNoisy s)

/-- A waiting audible request withdrawn, without an answer (R64). -/
def withdrawAudible (s : State) : State := s.setClu { s.clu with audible := none }

/-! ## Settle and the view's changes (R46, R47, R54) -/

/-- The RLI's notice of an ANNOUNCE sent in full (R54). -/
def settleNotice (sent : Option AnnClaim) (s : State) : State :=
  match s.clu.claim, sent with
  | some c, some a =>
    if a.resource = c.resource ∧ a.ticket = c.ticket ∧ a.granted = false ∧ c.granted = false ∧
        c.settle = .notBegun then
      s.setClu { s.clu with claim := some { c with settle := .running (2 * s.oi.rack.period) } }
    else s
  | _, _ => s

/-- A peer entry written whole from a report (R46). -/
def writePeer (slot : Nat) (p : PeerReport) (s : State) : State :=
  s.setClu { s.clu with peers := setEntry s.clu.peers slot ⟨.live, 0, p.group, p.noisy, p.claim⟩ }

/-- Whether an entry is too old to stay LIVE (R47). -/
def tooOld (s : State) (age : Nat) : Bool := decide (age > 4 * s.oi.rack.period)

/-- A LIVE entry made STALE; its age is past the limit then (R47, log 25). -/
def staleEntry (s : State) (e : PeerEntry) : PeerEntry :=
  { e with liveness := .stale, age := max e.age (4 * s.oi.rack.period + 1) }

end Sys2Proof.Machine
end

