-- ==== Sys2Proof/Machine/CurrentSound.lean ====
section
/-! DEFINITION. The Current and Sound Unit (chapter 8). -/

namespace Sys2Proof.Machine

/-- A CURRENT window handed over (R155). -/
def Csu.startCurrent (c : Csu) (n : Nat) : Csu :=
  { c with window := .current, length := n, count := 0, currentSum := 0 }

/-- A SOUND window handed over (R155). -/
def Csu.startSound (c : Csu) (n threshold hysteresis : Nat) : Csu :=
  { c with
    window := .sound
    length := n
    count := 0
    threshold := threshold
    hysteresis := hysteresis
    rearm := threshold - hysteresis
    armed := false
    tones := 0
    peak := 0
    disturbances := 0 }

/-- The window ended or discarded: IDLE, with no sum, counts, peak and marks (R162, R164). DESIGN CHOICE (log 39):
length, threshold, hysteresis and re-arm level stay as the window had them. -/
def Csu.toIdle (c : Csu) : Csu :=
  { c with window := .idle, count := 0, currentSum := 0, armed := false, tones := 0, peak := 0, disturbances := 0 }

/-- The mean of a complete current window, rounded half up (R156). -/
def Csu.mean (c : Csu) : Nat := roundHalfUp c.currentSum c.length

/-- One current sample (R156). -/
def Csu.currentSample (c : Csu) (ma : Nat) : Csu × Option Nat :=
  match c.window with
  | .current =>
    let c1 := { c with currentSum := c.currentSum + ma, count := c.count + 1 }
    if c1.count ≥ c1.length then (c1.toIdle, some c1.mean) else (c1, none)
  | _ => (c, none)

/-- Current samples one after another, to the report if one is made. -/
def Csu.currentSamples : Csu → List Nat → Csu × Option Nat
  | c, [] => (c, none)
  | c, x :: xs =>
    match c.currentSample x with
    | (c1, some v) => (c1, some v)
    | (c1, none) => c1.currentSamples xs

/-- The detector at one sound sample (R157, R158). -/
def Csu.detect (c : Csu) (code : Nat) : Csu :=
  if c.count = 0 then
    { c with count := 1, armed := decide (code < c.rearm), peak := code }
  else
    let c1 := { c with count := c.count + 1, peak := max c.peak code }
    if c.armed then
      if code ≥ c.threshold then { c1 with tones := c.tones + 1, armed := false } else c1
    else
      if code < c.rearm then { c1 with armed := true } else c1

/-- One sound sample; a complete window reports the tone count and the peak code (R159). -/
def Csu.soundSample (c : Csu) (code : Code) : Csu × Option (Nat × Nat) :=
  match c.window with
  | .sound =>
    let c1 := c.detect code.toNat
    if c1.count ≥ c1.length then (c1.toIdle, some (c1.tones, c1.peak)) else (c1, none)
  | _ => (c, none)

/-- Sound samples one after another, to the report if one is made. -/
def Csu.soundSamples : Csu → List Code → Csu × Option (Nat × Nat)
  | c, [] => (c, none)
  | c, x :: xs =>
    match c.soundSample x with
    | (c1, some v) => (c1, some v)
    | (c1, none) => c1.soundSamples xs

/-- What a noisy-peer notice does to the window (R160, R161). -/
inductive NoticeEffect where
  | none
  | restarted
  | disturbed
  deriving DecidableEq, Repr

/-- A noisy-peer notice at the CSU (R160, R161). -/
def Csu.notice (c : Csu) : Csu × NoticeEffect :=
  match c.window with
  | .sound =>
    if c.disturbances < 2 then
      ({ c with disturbances := c.disturbances + 1, count := 0, tones := 0, peak := 0, armed := false }, .restarted)
    else (c.toIdle, .disturbed)
  | _ => (c, .none)

end Sys2Proof.Machine
end

