-- ==== Sys2Proof/Machine/Light.lean ====
section
/-! DEFINITION. The Light Unit (chapter 7): one channel's ranging loop, lock, window and luminance. -/

namespace Sys2Proof.Machine

/-- The mantissas M of the gain codes (R139). -/
def gainMantissa (g : Nat) : Nat := [256, 279, 304, 332, 362, 395, 431, 470].getD (g % 8) 256

/-- 256 times the amplification A(G) (R139). -/
def amplification256 (g : Nat) : Nat := gainMantissa g * 2 ^ (g / 8)

/-- The step table P (R144). -/
def stepTable (k : Nat) : Nat := [256, 279, 304, 332, 362, 395, 431, 470, 512].getD k 512

/-- The largest k in 0 to 8 that meets a test, 0 when none does. -/
def largestStep (test : Nat → Bool) : Nat := (List.range 9).foldl (fun best k => if test k then k else best) 0

/-- The step of a complete block before the reduction (R144). -/
def fullStep (saturated : Bool) (mean target : Nat) : Int :=
  if saturated then -8
  else if mean = 0 then 8
  else if mean < target then largestStep fun k => decide (mean * stepTable k ≤ target * 256)
  else -(largestStep fun k => decide (mean * 256 ≥ target * stepTable k) : Nat)

/-- A LOCKED channel's step: divided by 2 to the lock shift, truncated toward zero (R144). -/
def reducedStep (locked : Bool) (shift : Nat) (step : Int) : Int :=
  if locked then step.tdiv (2 ^ shift) else step

/-- A gain code brought into Gmin to Gmax (R139). -/
def LightCal.bringGain (c : LightCal) (g : Int) : Nat := (clampInt c.gmin c.gmax g).toNat

/-- Whether a block's gain and error meet the pin condition (R145). -/
def pinCondition (c : LightCal) (gain mean target : Nat) : Bool :=
  (gain == c.gmax && decide (mean < target)) || (gain == c.gmin && decide (mean > target))

/-- The absolute error |T - m| of a block. -/
def blockError (mean target : Nat) : Nat := (mean - target) + (target - mean)

/-- Block sums empty. -/
def LightChannel.newBlock (c : LightChannel) : LightChannel :=
  { c with blockSum := 0, blockCount := 0, blockSaturated := false }

/-- The window begins: its sums empty (R148). -/
def LightChannel.newWindow (c : LightChannel) : LightChannel :=
  { c with state := .window, sum := 0, count := 0, saturated := false }

/-- RANGING as at a handover: counts 0, no lock, the range timer afresh (R141, R149). -/
def LightChannel.startRanging (c : LightChannel) : LightChannel :=
  { c.newBlock with
    state := .ranging
    inBand := 0
    pinned := 0
    outOfBand := 0
    lock := .none
    rangeTimer := some (20 * (1 + c.cal.timeoutIndex))
    sum := 0
    count := 0
    saturated := false }

/-- A measurement handed over (R141, R142). -/
def LightChannel.handover (c : LightChannel) (m : LightMeas) : LightChannel :=
  let base := { c.newBlock with target := m.target.getD 2048, window := m.window, reranged := false }
  match m.override with
  | none => { base with override := false }.startRanging
  | some g =>
    { base with
      override := true
      gain := c.cal.bringGain g
      lock := .band
      inBand := 0
      pinned := 0
      outOfBand := 0
      rangeTimer := none }.newWindow

/-- The lock test of a block taken in RANGING, its gain already stepped (R145). -/
def LightChannel.rangingBlock (c : LightChannel) (blockGain mean : Nat) : LightChannel :=
  let inBand := if blockError mean c.target ≤ c.cal.band then c.inBand + 1 else 0
  let pinned := if pinCondition c.cal blockGain mean c.target then c.pinned + 1 else 0
  let c1 := { c with inBand := inBand, pinned := pinned }
  if inBand ≥ 4 then { c1 with state := .locked, lock := .band, outOfBand := 0 }
  else if pinned ≥ 4 then { c1 with state := .locked, lock := .pinned, outOfBand := 0 }
  else c1

/-- The lock test of a block taken in LOCKED, its gain already stepped (R146). -/
def LightChannel.lockedBlock (c : LightChannel) (blockGain mean : Nat) : LightChannel :=
  let far := decide (blockError mean c.target > 2 * c.cal.band) &&
    !(c.lock == .pinned && pinCondition c.cal blockGain mean c.target)
  let out := if far then c.outOfBand + 1 else 0
  let c1 := { c with outOfBand := out }
  if out ≥ 2 then { c1 with state := .ranging, inBand := 0, pinned := 0, lock := .none }
  else if c.gain = blockGain then { c1 with rangeTimer := none }.newWindow
  else c1

/-- A block is complete (R143 to R146). -/
def LightChannel.completeBlock (c : LightChannel) : LightChannel :=
  let mean := c.blockSum / 16
  let locked := c.state == .locked
  let step := reducedStep locked c.cal.shift (fullStep c.blockSaturated mean c.target)
  let c1 := { c.newBlock with gain := c.cal.bringGain (c.gain + step) }
  if locked then c1.lockedBlock c.gain mean else c1.rangingBlock c.gain mean

/-- One sample of a block (R143). -/
def LightChannel.blockSample (c : LightChannel) (raw : Code) : LightChannel :=
  let c1 := { c with
    blockSum := c.blockSum + raw.toNat
    blockCount := c.blockCount + 1
    blockSaturated := c.blockSaturated || raw.toNat == 4095 }
  if c1.blockCount ≥ 16 then c1.completeBlock else c1

/-- The luminance of a complete window (R150). -/
def luminance (sum kc window gain : Nat) : Nat :=
  min 16777215 (roundHalfUp (sum * kc) (window * 4 * amplification256 gain))

/-- One sample of a window, before the test of its length (R148, R149): re-range, or one more sample. -/
def LightChannel.windowSample (c : LightChannel) (raw : Code) : LightChannel :=
  let isSaturated := raw.toNat == 4095
  if isSaturated && !c.reranged && decide (c.gain > c.cal.gmin) then
    let c1 := { c with gain := c.cal.bringGain ((c.gain : Int) - 8), reranged := true }
    if c.override then c1.newWindow else c1.startRanging
  else
    { c with
      sum := c.sum + (raw.toNat - c.cal.dark)
      count := c.count + 1
      saturated := c.saturated || isSaturated }

/-- What a channel reports when its window is complete (R151). -/
structure LightReport where
  value : Nat
  gain : Nat
  saturated : Bool
  pinned : Bool
  reranged : Bool
  deriving DecidableEq, Repr

/-- The report of a complete window, the channel then HELD (R150, R151). -/
def LightChannel.finish (c : LightChannel) : LightChannel × LightReport :=
  ({ c with state := .held, rangeTimer := none },
    ⟨luminance c.sum c.cal.kc c.window c.gain, c.gain, c.saturated, c.lock == .pinned, c.reranged⟩)

/-- One ADC sample at a channel, passed over in HELD (R138). -/
def LightChannel.sample (c : LightChannel) (raw : Code) : LightChannel × Option LightReport :=
  match c.state with
  | .held => (c, none)
  | .ranging => (c.blockSample raw, none)
  | .locked => (c.blockSample raw, none)
  | .window =>
    let c1 := c.windowSample raw
    if c1.state = .window ∧ c1.count ≥ c1.window then
      ((c1.finish).1, some (c1.finish).2)
    else (c1, none)

/-- Samples taken one after another, to the report if one is made. -/
def LightChannel.samples : LightChannel → List Code → LightChannel × Option LightReport
  | c, [] => (c, none)
  | c, x :: xs =>
    match c.sample x with
    | (c1, some r) => (c1, some r)
    | (c1, none) => c1.samples xs

/-- The range timer expires (R147): UNRANGED from RANGING, a frozen gain from LOCKED. -/
def LightChannel.rangeExpiry (c : LightChannel) : LightChannel × Bool :=
  match c.state with
  | .ranging => ({ c.newBlock with state := .held, rangeTimer := none }, true)
  | .locked => (({ c.newBlock with rangeTimer := none }).newWindow, false)
  | _ => (c, false)

/-- The measurement is stopped (R152). DESIGN CHOICE (log 43): the override mark, the target and the window length stay,
in HELD as after a window; the re-range mark goes (R154). -/
def LightChannel.stop (c : LightChannel) : LightChannel :=
  if c.state = .held then c
  else { c.newBlock with
    state := .held
    rangeTimer := none
    inBand := 0
    pinned := 0
    outOfBand := 0
    lock := .none
    reranged := false
    sum := 0
    count := 0
    saturated := false }

/-- A LIGHT section adjusted (R140). -/
def adjustLight (c : LightCal) : LightCal :=
  let gmin := clampTo 0 47 c.gmin
  let gmax := max gmin (clampTo 0 47 c.gmax)
  { kc := clampTo 1 65535 c.kc
    dark := clampTo 0 1023 c.dark
    gmin := gmin
    gmax := gmax
    startGain := clampTo gmin gmax c.startGain
    band := clampTo 16 512 c.band
    shift := clampTo 0 3 c.shift
    timeoutIndex := clampTo 0 15 c.timeoutIndex }

/-- A LIGHT section accepted for a channel (R140). -/
def LightChannel.calibrate (c : LightChannel) (cal : LightCal) : LightChannel :=
  { c with cal := cal, gain := cal.startGain }

end Sys2Proof.Machine
end

