-- ==== Sys2Proof/Machine/Bus.lean ====
section
/-! DEFINITION. The Bus Emulator (chapter 6): message table, schedule, snapshots and transmit queue, field writes, bus
silence, capture and identity. What a check or the queue suffers from its reports is in Machine/Check.lean. -/

namespace Sys2Proof.Machine

/-! ## Message table -/

/-- Message slot n. -/
def slotAt (s : State) (n : Nat) : MessageSlot := entryAt s.bem.slots n .undefined

/-- Message slot n replaced. -/
def setSlot (n : Nat) (m : MessageSlot) (s : State) : State :=
  s.setBem { s.bem with slots := setEntry s.bem.slots n m }

/-- The transmitting states (R117). -/
def RailState.transmits : RailState → Bool
  | .on => true
  | .slewing => true
  | .cranking => true
  | _ => false

/-- The conditions under which a due time gives a snapshot (R117, R118). -/
def canSnapshot (s : State) (m : MessageSlot) : Bool :=
  m.defined && m.enabled && s.spu.rail.transmits && !s.bem.silent

/-! ## Snapshot and transmit queue (R119, R120) -/

/-- The counter field raised by 1 modulo 2 to its length. -/
def raiseCounter (m : MessageSlot) : Payload :=
  match m.counter with
  | none => m.payload
  | some (start, len) => writeField m.payload start len (readField m.payload start len + 1)

/-- The sum of the payload bytes but the checksum byte, within the length, and the low 8 bits of the identifier. -/
def checksumOf (m : MessageSlot) (p : Payload) (k : Nat) : Byte :=
  ((List.range m.len).filter (· != k)).foldl (fun acc i => acc + payloadByte p i) (byteOf m.id)

/-- The payload as it goes out: counter raised, then checksum written. -/
def snapshotPayload (m : MessageSlot) : Payload :=
  let p := raiseCounter m
  match m.checksum with
  | none => p
  | some k => writeField p (8 * k) 8 ((checksumOf m p k).setWidth 64)

/-- Whether an instance stands before another: by identifier, then by slot. -/
def TxInstance.before (a b : TxInstance) : Bool := decide (a.id < b.id) || (a.id == b.id && decide (a.slot < b.slot))

/-- An instance put at its place. -/
def insertInstance (x : TxInstance) : List TxInstance → List TxInstance
  | [] => [x]
  | y :: ys => if x.before y then x :: y :: ys else y :: insertInstance x ys

/-- The BUS_LATE report: set on the check in flight, dropped when there is none (R69, R120). -/
def reportBusLate (s : State) : State :=
  s.setCkr (s.ckr.map fun c => { c with flags := { c.flags with busLate := true } })

/-- A slot's late flag set to b. -/
def setLate (n : Nat) (b : Bool) (s : State) : State := setSlot n { slotAt s n with late := b } s

/-- Whether an instance of the slot waits. -/
def waitsInQueue (s : State) (n : Nat) : Bool := s.bem.queue.any (·.slot == n)

/-- A new instance placed in the transmit queue (R120). -/
def enqueue (x : TxInstance) (s : State) : State :=
  let late := waitsInQueue s x.slot
  let s1 := s.setBem { s.bem with queue := insertInstance x (s.bem.queue.filter (·.slot != x.slot)) }
  if late then reportBusLate (setLate x.slot true s1) else s1

/-- A snapshot of slot n (R119). -/
def snapshot (n : Nat) (s : State) : State :=
  let m := slotAt s n
  let p := snapshotPayload m
  enqueue ⟨n, m.id, m.len, p⟩ (setSlot n { m with payload := p } s)

/-- A slot falls due: a snapshot where the conditions hold (R117, R118). -/
def fallDue (n : Nat) (s : State) : State := if canSnapshot s (slotAt s n) then snapshot n s else s

/-- An event-only slot falls due (R118). -/
def eventDue (n : Nat) (s : State) : State := if (slotAt s n).period = 0 then fallDue n s else s

/-- Every event-only slot falls due, in slot order (R118). -/
def allEventDue (s : State) : State := (List.range 24).foldl (fun s n => eventDue n s) s

/-- The schedule's zero: periodic slots of phase 0 and event-only slots fall due (R117, R118, log 18). -/
def zeroDue (s : State) : State :=
  (List.range 24).foldl (fun s n => if (slotAt s n).phase = 0 then fallDue n s else s) s

/-- The transmit queue emptied, every late flag cleared (R121, R126, R136). -/
def emptyQueue (s : State) : State :=
  s.setBem { s.bem with
    queue := []
    slots := mapEntries (fun m => { m with late := false }) s.bem.slots }

/-- The OI's clearing request: every enabled flag cleared, the queue emptied (R116, R136). -/
def clearMessages (s : State) : State :=
  s.setBem { s.bem with
    queue := []
    slots := mapEntries (fun m => { m with late := false, enabled := false }) s.bem.slots }

/-- The rail leaves the transmitting states: queue emptied, schedule stopped (R117, R121). -/
def stopTraffic (s : State) : State :=
  let s := emptyQueue s
  s.setBem { s.bem with schedule := none }

/-- The rail enters ON from RAMPING: a new zero, the bus ACTIVE, the count 0 (R117, R127). -/
def startTraffic (s : State) : State :=
  zeroDue (s.setBem { s.bem with schedule := some 0, silent := false, unacked := 0 })

/-- MESSAGE_ON (R77, R116, R118). -/
def messageOn (n : Nat) (s : State) : State :=
  let m := slotAt s n
  if m.defined && !m.enabled then eventDue n (setSlot n { m with enabled := true } s) else s

/-- MESSAGE_OFF (R77, R116). -/
def messageOff (n : Nat) (s : State) : State :=
  let m := slotAt s n
  if m.enabled then
    if waitsInQueue s n then
      let s1 := setSlot n { m with enabled := false, late := false } s
      s1.setBem { s1.bem with queue := s1.bem.queue.filter (·.slot != n) }
    else setSlot n { m with enabled := false } s
  else s

/-! ## Writes (R122 to R125) -/

/-- A pattern placed in a field of slot n: the write lands in the payload, and an event-only slot falls due. -/
def writeSlot (n start len : Nat) (pattern : Payload) (s : State) : State :=
  let m := slotAt s n
  if m.defined then eventDue n (setSlot n { m with payload := writeField m.payload start len pattern } s) else s

/-- The pattern that a field of slot n holds. -/
def readSlot (s : State) (n start len : Nat) : Payload := readField (slotAt s n).payload start len

/-- A restore entry put back, without arithmetic (R124). -/
def applyRestore (e : RestoreEntry) (s : State) : State := writeSlot e.slot e.start e.len e.pattern s

/-- A challenge code, clamped to the field's highest value (R124). -/
def writeChallenge (code : Nat) (s : State) : State :=
  writeSlot s.opu.cfg.slot s.opu.cfg.start Config.challengeBits
    (BitVec.ofNat 64 (min code (2 ^ Config.challengeBits - 1))) s

/-! ## Attempts and bus silence (R113, R121, R126, R127) -/

/-- An attempt starts. -/
def attemptStart (s : State) : State :=
  match s.bem.sending, s.bem.queue with
  | none, x :: xs => s.setBem { s.bem with sending := some x, queue := xs }
  | _, _ => s

/-- A lost instance returns to its place; a newer snapshot of its slot takes that place (R121). -/
def returnLost (x : TxInstance) (s : State) : State :=
  let s1 := s.setBem { s.bem with sending := none }
  if waitsInQueue s1 x.slot then reportBusLate (setLate x.slot true s1)
  else s1.setBem { s1.bem with queue := insertInstance x s1.bem.queue }

/-- The count reaches 32: BUS_SILENT (R126). -/
def enterBusSilent (s : State) : State :=
  let s := emptyQueue s
  s.setBem { s.bem with silent := true }

/-- An attempt ends: the state, and whether bus silence is reported (R121, R126). -/
def attemptEnd (o : CanOutcome) (s : State) : State × Bool :=
  match s.bem.sending with
  | none => (s, false)
  | some x =>
    match o with
    | .acknowledged =>
      let s1 := setLate x.slot false s
      (s1.setBem { s1.bem with sending := none, unacked := 0 }, false)
    | .notAcknowledged =>
      let s1 := setLate x.slot false s
      let n := min (s.bem.unacked + 1) Config.unackedLimit
      let s2 := s1.setBem { s1.bem with sending := none, unacked := n }
      if decide (n = Config.unackedLimit) && !s.bem.silent then (enterBusSilent s2, true) else (s2, false)
    | .lostArbitration => (returnLost x s, false)

/-- A received frame ends bus silence (R114, R127). -/
def leaveBusSilent (s : State) : State :=
  if s.bem.silent then
    let s1 := s.setBem { s.bem with silent := false, unacked := 0 }
    if s1.spu.rail.transmits then allEventDue s1 else s1
  else s

/-! ## Capture and identity (R128 to R134) -/

/-- Capture slot n. -/
def captureAt (s : State) (n : Nat) : CaptureSlot := entryAt s.bem.captures n .undefined

/-- Capture slot n replaced. -/
def setCapture (n : Nat) (c : CaptureSlot) (s : State) : State :=
  s.setBem { s.bem with captures := setEntry s.bem.captures n c }

/-- The sum of bytes 0 to 6, modulo 256. -/
def halfSum (p : Payload) : Byte := (List.range 7).foldl (fun acc i => acc + payloadByte p i) 0

/-- One half of an identity message (R132). -/
inductive IdentHalf where
  | half0 (h : HeldHalf)
  | half1 (serialHigh : BitVec 48)
  | bad
  deriving DecidableEq, Repr

/-- How a payload reads as a half (R132). -/
def readHalf (len : Nat) (p : Payload) : IdentHalf :=
  if len = 8 && payloadByte p 7 == halfSum p then
    match (payloadByte p 0).toNat with
    | 0 => .half0 ⟨(p >>> 8).setWidth 16, (p >>> 24).setWidth 32⟩
    | 1 => .half1 ((p >>> 8).setWidth 48)
    | _ => .bad
  else .bad

/-- One step of a pair tracker, by the age before the arrival: the tracker, and the pair formed if any (R132). -/
def stepTracker (t : Option HeldHalf) (age : Nat) : IdentHalf → Option HeldHalf × Option (Half × Serial)
  | .half0 h => (some h, none)
  | .half1 hi =>
    match t with
    | some h => if age ≤ Config.pairMs then (none, some (h.variant, hi ++ h.serialLow)) else (none, none)
    | none => (none, none)
  | .bad => (none, none)

/-- What a valid pair may raise (R133, R134). -/
inductive IdentityEvent where
  | wrongDut
  | dutChanged
  deriving DecidableEq, Repr

/-- A valid pair: RECEIVED and CURRENT take it, and an event may be raised (R133). -/
def validPair (v : Half) (n : Serial) (s : State) : State × Option IdentityEvent :=
  let s1 := s.setBem { s.bem with received := some (v, n), current := ⟨some v, some n⟩ }
  match s.bem.received with
  | none =>
    match s.bem.given with
    | some g => (s1, if v ≠ g then some .wrongDut else none)
    | none => (s1, none)
  | some _ =>
    if s.bem.current.serial = some n then (s1, none)
    else (s1, if s.spu.rail ≠ .off then some .dutChanged else none)

/-- The data of a frame as a word and its length, 0 to 8 (R113). -/
def frameData (f : CanFrame) : Payload × Nat :=
  (payloadOf (f.data.take 8), min f.data.length 8)

/-- An arrival offered to capture slot n (R129). -/
def captureInto (n : Nat) (f : CanFrame) (s : State) : State × Option IdentityEvent :=
  let c := captureAt s n
  if c.defined && c.id == f.id then
    let d := frameData f
    let stored := { c with last := d.1, lastLen := d.2, fresh := true, age := 0 }
    if c.ident then
      let t := stepTracker c.tracker c.age (readHalf d.2 d.1)
      let s1 := setCapture n { stored with tracker := t.1 } s
      match t.2 with
      | some (v, sn) => validPair v sn s1
      | none => (s1, none)
    else (setCapture n stored s, none)
  else (s, none)

/-- The fresh flag of a capture slot cleared (R79, R130). -/
def clearFresh (n : Nat) (s : State) : State := setCapture n { captureAt s n with fresh := false } s

/-- A BUSFIELD read: NO_DATA, or the scaled value (R130, R163). -/
def readBusField (s : State) (m : BusField) : Option Int :=
  let c := captureAt s m.slot
  if !c.fresh || decide (m.start + m.len > 8 * c.lastLen) then none
  else some (scaleBusField m (rawOf m.signed m.len (readField c.last m.start m.len)))

/-- BEGIN_DUT at the BEM (R131). -/
def beginIdentity (v : Half) (s : State) : State :=
  s.setBem { s.bem with
    given := some v
    received := none
    current := ⟨some v, none⟩
    captures := mapEntries (fun c => { c with tracker := none }) s.bem.captures }

/-! ## Configuration (R115, R128) -/

/-- A MESSAGE section adjusted (R115). -/
def adjustMessage (m : MessageSection) : MessageSlot :=
  let len := min m.len 8
  let period := if m.period = 0 then 0 else clampTo 5 1000 m.period
  let checksum := m.checksum.bind fun k => if k < len then some k else none
  let counter := m.counter.bind fun c =>
    let l := clampTo 1 8 c.2
    if c.1 + l > 8 * len then none
    else
      match checksum with
      | some k => if overlaps c.1 l (8 * k) 8 then none else some (c.1, l)
      | none => some (c.1, l)
  { defined := true
    id := min m.id 2047
    len := len
    payload := keepBytes m.payload len
    period := period
    phase := if m.phase ≥ period then period - 1 else m.phase
    enabled := false
    counter := counter
    checksum := checksum
    late := false }

/-- A CAPTURE section accepted (R128). -/
def adjustCapture (c : CaptureSection) : CaptureSlot where
  defined := true
  id := min c.id 2047
  ident := c.ident
  last := 0
  lastLen := 0
  age := Config.ageMax
  fresh := false
  tracker := none

end Sys2Proof.Machine
end

