-- ==== Sys2Proof/Machine/Panel.lean ====
section
/-! DEFINITION. The Operator Unit (chapter 10): prompt, challenge, digit entry, error count and what the panel shows.
Its results for the CKR and its raised hold cause are handed back, for Machine/Check.lean to deliver. -/

namespace Sys2Proof.Machine

/-- What the OPU tells the other blocks in one step: the result for the CKR with the attempts it carries (R82), and
whether it raises OPERATOR_LIMIT (R190). -/
structure OpuNews where
  result : Option (Verdict × Option Nat) := none
  limit : Bool := false
  deriving DecidableEq, Repr

/-! ## The challenge generator (R183) -/

/-- One step of the generator. -/
def generatorStep (g : Half) : Half :=
  let b := g.getLsbD 0 ^^ g.getLsbD 2 ^^ g.getLsbD 3 ^^ g.getLsbD 5
  (g >>> 1) ||| (if b then 0x8000#16 else 0)

/-- n steps of the generator. -/
def generatorSteps : Nat → Half → Half
  | 0, g => g
  | n + 1, g => generatorSteps n (generatorStep g)

/-! ## Prompt states (R180 to R182, R184) -/

/-- The handover of a prompt (R180). -/
def promptHandover (p : Prompt) (s : State) : State :=
  s.setOpu { s.opu with state := .waiting, prompt := some p, attempts := 0, entry := [], shown := [] }

/-- The challenge snapshot stored in the fifth restore place when that is empty (R85). -/
def challengeSnapshot (s : State) : State :=
  match s.ckr with
  | none => s
  | some c =>
    match c.fifth with
    | some _ => s
    | none =>
      let e : RestoreEntry :=
        ⟨s.opu.cfg.slot, s.opu.cfg.start, Config.challengeBits,
          readSlot s s.opu.cfg.slot s.opu.cfg.start Config.challengeBits⟩
      s.setCkr (some { c with fifth := some e })

/-- Entry to CHALLENGE (R184). -/
def challengeEntry (s : State) : State :=
  let g := generatorSteps 16 s.opu.generator
  let code := g.toNat % 10000
  let s1 := s.setOpu { s.opu with
    state := .challenge, generator := g, code := code, entry := [], lookTimer := some s.opu.cfg.lookMs }
  writeChallenge code (challengeSnapshot s1)

/-- The prompt begins (R181). -/
def promptBegin (s : State) : State :=
  match s.opu.state, s.opu.prompt with
  | .waiting, some p =>
    let s1 := s.setOpu { s.opu with shown := p.text, lamp := true, promptTimer := some (p.timeout * 1000) }
    match p.mode with
    | .yesNo => s1.setOpu { s1.opu with state := .yesNo }
    | .attendedYesNo => challengeEntry s1
    | .attended => challengeEntry s1
  | _, _ => s

/-- IDLE with the prompt discarded (R182). -/
def Opu.toIdle (o : Opu) : Opu :=
  { o with state := .idle, prompt := none, place := none, entry := [], attempts := 0, code := 0,
           promptTimer := none, lookTimer := none, lamp := false, shown := [] }

/-- An end request (R182): IDLE, from DONE too with the attempts and the code discarded (R193). -/
def promptEnd (s : State) : State := if s.opu.state = .idle then s else s.setOpu s.opu.toIdle

/-- DONE with a result (R186 to R189): timers stopped, lamp dark, the place discarded. DESIGN CHOICE (log 40): the entry
buffer is empty in DONE, which R189 states for a timeout alone. -/
def Opu.toDone (o : Opu) (result : Verdict) : Opu :=
  { o with state := .done, place := none, entry := [], promptTimer := none, lookTimer := none, lamp := false,
           result := result }

/-- Whether the prompt in hand carries a challenge. -/
def Opu.isAttended (o : Opu) : Bool :=
  match o.prompt with
  | some p => p.mode != .yesNo
  | none => false

/-- Whether the prompt in hand asks yes or no after its challenge. -/
def Opu.asksAfterwards (o : Opu) : Bool :=
  match o.prompt with
  | some p => p.mode == .attendedYesNo
  | none => false

/-- The attempts a report carries: of an attended prompt alone (R82, R188). -/
def Opu.reportedAttempts (o : Opu) : Option Nat := if o.isAttended then some o.attempts else none

/-! ## The error count (R190) -/

/-- The error count raised by 1, not above 16. -/
def Opu.raiseErrors (o : Opu) : Opu := { o with errors := min (o.errors + 1) Config.errorMax }

/-- Whether the error count exceeds the limit in force. -/
def Opu.overLimit (o : Opu) : Bool := decide (o.errors > o.cfg.errorLimit)

/-! ## Keys (R179, R185 to R188) -/

/-- A correct answer (R186). -/
def correctAnswer (s : State) : State × OpuNews :=
  let s1 := s.setOpu { s.opu with
    attempts := s.opu.attempts + 1, errors := s.opu.errors - 1, entry := [], lookTimer := none }
  let s2 :=
    match s1.ckr with
    | none => s1
    | some c =>
      match c.fifth with
      | none => s1
      | some e => applyRestore e (s1.setCkr (some { c with fifth := none }))
  if s2.opu.asksAfterwards then (s2.setOpu { s2.opu with state := .yesNo }, {})
  else
    let attempts := s2.opu.attempts
    (s2.setOpu (s2.opu.toDone .pass), { result := some (.pass, some attempts) })

/-- A failed attempt (R187). -/
def failedAttempt (s : State) : State × OpuNews :=
  let o := { s.opu with attempts := s.opu.attempts + 1 }.raiseErrors
  if o.attempts < 2 then
    (s.setOpu { o with entry := [], lookTimer := some o.cfg.lookMs }, { limit := o.overLimit })
  else
    (s.setOpu (o.toDone .operatorFail), { result := some (.operatorFail, some o.attempts), limit := o.overLimit })

/-- Digits read as a number. -/
def digitsToNat (ds : List Nat) : Nat := ds.foldl (fun n d => 10 * n + d) 0

/-- A digit key (R179, R185). -/
def digitKey (d : Nat) (s : State) : State × OpuNews :=
  match s.opu.state with
  | .challenge =>
    if s.opu.lookTimer.isSome then failedAttempt s
    else
      let entry := s.opu.entry ++ [d]
      let s1 := s.setOpu { s.opu with entry := entry }
      if entry.length < 4 then (s1, {})
      else if digitsToNat entry = s.opu.code then correctAnswer s1
      else failedAttempt s1
  | _ => (s, {})

/-- CLEAR (R179, R185). -/
def clearKey (s : State) : State :=
  match s.opu.state with
  | .challenge => s.setOpu { s.opu with entry := [] }
  | _ => s

/-- PASS (R179, R188). -/
def passKey (s : State) : State × OpuNews :=
  match s.opu.state with
  | .yesNo => (s.setOpu (s.opu.toDone .pass), { result := some (.pass, s.opu.reportedAttempts) })
  | _ => (s, {})

/-- FAIL (R179, R187, R188). -/
def failKey (s : State) : State × OpuNews :=
  match s.opu.state with
  | .challenge =>
    (s.setOpu (s.opu.toDone .operatorFail), { result := some (.operatorFail, some s.opu.attempts) })
  | .yesNo =>
    (s.setOpu (s.opu.toDone .operatorFail), { result := some (.operatorFail, s.opu.reportedAttempts) })
  | _ => (s, {})

/-- The prompt timer expires (R189). -/
def promptTimeout (s : State) : State × OpuNews :=
  match s.opu.state with
  | .challenge =>
    let o := s.opu.raiseErrors
    (s.setOpu (o.toDone .timeout), { result := some (.timeout, some o.attempts), limit := o.overLimit })
  | .yesNo => (s.setOpu (s.opu.toDone .timeout), { result := some (.timeout, s.opu.reportedAttempts) })
  | _ => (s, {})

/-! ## What the panel shows (R178) -/

/-- A line filled to 20 columns. -/
def padLine (l : List Char) : String := String.ofList (l ++ List.replicate (20 - l.length) ' ')

/-- A text or serial byte as shown. -/
def shownChar (b : Byte) : Char :=
  if 0x20 ≤ b.toNat ∧ b.toNat ≤ 0x7e then Char.ofNat b.toNat else '?'

/-- Lines 1 and 2. -/
def line1 (s : State) : String := padLine ((s.opu.shown.take 20).map shownChar)
def line2 (s : State) : String := padLine (((s.opu.shown.drop 20).take 20).map shownChar)

/-- The station line of IDLE; the words of HOLD stand one space apart (log 35). -/
def stationLine (s : State) : String :=
  match s.oi.station with
  | .unconfigured => "UNCONFIGURED"
  | .ready => "READY"
  | .running => "RUNNING"
  | .hold => "HOLD" ++ (if s.oi.limitHold then " OPER" else "") ++ (if s.oi.safeHold then " SUPPLY" else "")
  | .silent => "SILENT"

/-- A digit as shown. -/
def digitChar (d : Nat) : Char := Char.ofNat (48 + d)

/-- Line 3. -/
def line3 (s : State) : String :=
  padLine (match s.opu.state with
    | .idle => (stationLine s).toList
    | .waiting =>
      match s.opu.place with
      | some n => "WAIT ".toList ++ (Nat.repr n).toList
      | none => "WAIT".toList
    | .challenge =>
      (if s.opu.attempts = 0 then "CODE " else "RETRY ").toList ++ s.opu.entry.map digitChar ++
        List.replicate (4 - s.opu.entry.length) '_'
    | .yesNo => "PASS OR FAIL".toList
    | .done =>
      match s.opu.result with
      | .pass => "RESULT PASS".toList
      | .timeout => "RESULT TIMEOUT".toList
      | _ => "RESULT FAIL".toList)

/-- Line 4: the check id in columns 1 to 5, a space, the ten serial bytes; blank where either is absent. -/
def line4 (s : State) : String :=
  let id := match s.ckr with
    | some c =>
      let ds := (Nat.repr c.order.checkId.toNat).toList
      List.replicate (5 - ds.length) ' ' ++ ds
    | none => List.replicate 5 ' '
  let serial := match s.bem.current.serial with
    | some v => (bytesSerial v).map shownChar
    | none => []
  padLine (id ++ ' ' :: serial)

end Sys2Proof.Machine
end

