-- ==== Sys2Proof/Machine/Rail.lean ====
section
/-! DEFINITION. The Supply Unit (chapter 5): rail states, profiles, taking the rail off, faults, retries and SAFE. Its
reports to the CKR and the OI are delivered in Machine/Check.lean. -/

namespace Sys2Proof.Machine

/-- The output-enabled states (R94). -/
def RailState.outputOn : RailState → Bool
  | .ramping => true
  | .on => true
  | .slewing => true
  | .cranking => true
  | _ => false

/-- The output-off states in which the discharge path holds the output toward 0 mV; in the other two, OFF and
WAIT_INRUSH, nothing is applied to it (R94). -/
def RailState.pulledLow : RailState → Bool
  | .discharging => true
  | .faultOff => true
  | .safe => true
  | _ => false

/-- What the part does to the DUT's supply input (R94, R95, R102). -/
def Spu.drive (u : Spu) : RailDrive :=
  if u.rail.outputOn then .source u.effective u.cfg.limitMa else if u.rail.pulledLow then .pulledLow else .released

/-- A change of rail state: the effective setpoint is 0 with the output off (R95), the filters are set to 0 at each
entry to or from an output-off state (R102), and leaving the transmitting states stops the traffic (R121). -/
def railTo (r : RailState) (s : State) : State :=
  let keep := r.outputOn && s.spu.rail.outputOn
  let s1 := s.setSpu { s.spu with
    rail := r
    effective := if r.outputOn then s.spu.effective else 0
    crank := if r = .cranking then s.spu.crank else none
    shortCount := if keep then s.spu.shortCount else 0
    overCurrentCount := if keep then s.spu.overCurrentCount else 0
    overVoltageCount := if keep then s.spu.overVoltageCount else 0 }
  if s.spu.rail.transmits && !r.transmits then stopTraffic s1 else s1

/-- A level taken to a multiple of 10 mV by rounding down (R95). -/
def roundTo10 (mv : Nat) : Nat := mv / 10 * 10

/-! ## Power-up, slew and crank (R96 to R98) -/

/-- A power-up handed over in OFF. -/
def powerUp (target rate : Nat) (s : State) : State :=
  let s1 := s.setSpu { s.spu with setpoint := roundTo10 target, rate := rate }
  railTo .waitInrush s1

/-- The go: WAIT_INRUSH to RAMPING, ignored elsewhere. -/
def rampGo (s : State) : State := if s.spu.rail = .waitInrush then railTo .ramping s else s

/-- The effective setpoint has reached the setpoint: ON (R95). The last reading of the output stands (R101). DESIGN
CHOICE (log 6): where the event comes before the level is there, the source has held the output at the setpoint
meanwhile. -/
def arriveOn (s : State) : State :=
  railTo .on (s.setSpu { s.spu with
    effective := s.spu.setpoint
    outputMv := if s.spu.effective = s.spu.setpoint then s.spu.outputMv else s.spu.setpoint })

/-- A power-up ramp arrives: ON, the recovery timer, the schedule's zero (R96, R109, R117). -/
def rampArrive (s : State) : State :=
  let s1 := arriveOn s
  startTraffic (s1.setSpu { s1.spu with recovery := some Config.recoveryMs })

/-- A slew handed over; it arrives at once when there is nothing to move. -/
def slewTo (target rate : Nat) (s : State) : State :=
  let s1 := railTo .slewing (s.setSpu { s.spu with setpoint := roundTo10 target, rate := rate })
  if s1.spu.effective = s1.spu.setpoint then arriveOn s1 else s1

/-- A crank handed over: the step to the dip level, then the hold. -/
def crankTo (dip dipTime rate : Nat) (s : State) : State :=
  let d := min (roundTo10 dip) s.spu.setpoint
  let s1 := railTo .cranking s
  s1.setSpu { s1.spu with effective := d, crank := some ⟨d, some dipTime, rate⟩ }

/-- Whether a crank is in its hold phase, or in its recovery phase. -/
def Spu.crankHolds (u : Spu) : Bool :=
  u.rail == .cranking && (match u.crank with
    | some c => c.hold.isSome
    | none => false)

def Spu.crankRecovers (u : Spu) : Bool :=
  u.rail == .cranking && (match u.crank with
    | some c => c.hold.isNone
    | none => false)

/-- The dip time is over: the recovery begins. -/
def crankRecovery (s : State) : State :=
  s.setSpu { s.spu with crank := s.spu.crank.map fun c => { c with hold := none } }

/-! ## Taking the rail off (R99 to R101) -/

/-- The rail arrives at OFF from DISCHARGING (R101). -/
def arriveOff (s : State) : State :=
  let s1 := railTo .off s
  s1.setSpu { s1.spu with dischargeTimer := none }

/-- The rail enters DISCHARGING; it ends at once when the output already reads below 500 mV (R101). -/
def beginDischarge (s : State) : State :=
  let s1 := railTo .discharging s
  let s2 := s1.setSpu { s1.spu with dischargeTimer := some Config.dischargeMs, offTimer := none, recovery := none }
  if s2.spu.outputMv < Config.dischargedBelowMv then arriveOff s2 else s2

/-- A supply retry cancelled: its claim released, its flag cleared (R99, R107). -/
def cancelRetry (s : State) : State :=
  if s.spu.retry then
    let s1 := releaseClaim .spu .inrush s
    s1.setSpu { s1.spu with retry := false }
  else s

/-- SUPPLY_OFF and the OI's off request (R99). DESIGN CHOICE (log 38): a retry's claim is released, and the release
announced, before the rail leaves its state. -/
def offRequest (s : State) : State :=
  match s.spu.rail with
  | .off => s
  | .waitInrush => if s.spu.retry then beginDischarge (cancelRetry s) else railTo .off s
  | .ramping => beginDischarge (cancelRetry s)
  | .on => beginDischarge (cancelRetry s)
  | .slewing => beginDischarge (cancelRetry s)
  | .cranking => beginDischarge (cancelRetry s)
  | .discharging => s
  | .faultOff => beginDischarge (cancelRetry s)
  | .safe => s

/-- A power-up cancel of the CKR (R100); it never reaches a retry. Where it meets the arrival at ON, which of the two is
taken first is free (log 44): after the arrival the rail is ON, and its report finds the check ended. -/
def powerUpCancel (s : State) : State :=
  if s.spu.retry then s
  else
    match s.spu.rail with
    | .waitInrush => railTo .off s
    | .ramping =>
      if s.spu.effective = s.spu.setpoint then
        let c := takeFirst s
        if c.1 then rampArrive c.2 else beginDischarge c.2
      else beginDischarge s
    | _ => s

/-! ## Faults, retries and SAFE (R103 to R109) -/

/-- Whether the output can lie below half the effective setpoint: not while that half is 0 mV (R103, log 24). -/
def Spu.shortPossible (u : Spu) : Bool :=
  let level := if u.rail = .on || u.crankHolds then u.effective else max u.effective u.setpoint
  decide (level / 2 > 0)

/-- SHORT or OVERCURRENT read: steps 1 to 3 of R105. -/
def enterFaultOff (s : State) : State :=
  let s1 := railTo .faultOff s
  s1.setSpu { s1.spu with recovery := none, offTimer := some s1.spu.cfg.offMs, retry := true }

/-- Entry to SAFE at the SPU (R108), before its reports. DESIGN CHOICE (log 46): the rail moves first, the claim is
released and the release announced next, and SUPPLY_SAFE is raised after that. -/
def enterSafe (s : State) : State :=
  let s1 := railTo .safe s
  let s2 := s1.setSpu { s1.spu with offTimer := none, recovery := none, dischargeTimer := none }
  let s3 := releaseClaim .spu .inrush s2
  s3.setSpu { s3.spu with retry := false }

/-- CLEAR_HOLD at the SPU: SAFE to OFF, the count 0 (R35, R108). -/
def leaveSafe (s : State) : State :=
  if s.spu.rail = .safe then
    let s1 := railTo .off s
    s1.setSpu { s1.spu with retryCount := 0 }
  else s

/-- Whether the rail keeps a check from starting: DISCHARGING or in a supply retry (R21). -/
def Spu.blocksStart (u : Spu) : Bool := u.rail == .discharging || u.retry

/-- A SUPPLY section adjusted (R38, R111). -/
def adjustSupply (c : SupplyCfg) : SupplyCfg where
  limitMa := clampTo 100 5000 c.limitMa
  retryLimit := clampTo 0 7 c.retryLimit
  offMs := clampTo 50 2000 c.offMs

/-- A RACK section adjusted: the period is first rounded down to a multiple of 10 ms (R38, R39). -/
def adjustRack (c : RackCfg) : RackCfg where
  budget := clampTo 1 500 c.budget
  period := clampTo 20 200 (c.period / 10 * 10)
  claimWait := clampTo 1 120 c.claimWait
  presence := clampTo 1 60 c.presence
  inrush := clampTo 1 100 c.inrush

/-- An OPERATOR section adjusted; a seed of 0 is 1 (R192). -/
def adjustOperator (c : OperatorCfg) : OperatorCfg where
  errorLimit := clampTo 1 15 c.errorLimit
  lookMs := clampTo 300 3000 c.lookMs
  seed := if c.seed = 0 then 1 else c.seed
  slot := min c.slot 23
  start := min c.start 63

end Sys2Proof.Machine
end

