-- ==== Sys2Proof/Machine/Verdicts.lean ====
section
/-! DEFINITION. The Verdict Unit (chapter 9): limits, the verdict ring, the DUT summary and the answers to a QUERY and a
TAKE_SUMMARY. -/

namespace Sys2Proof.Machine

/-- A value against the limits (R165). -/
def judgeLimits (low high : Option Int) (v : Int) : Verdict :=
  if (low.map fun l => decide (v < l)).getD false then .failLow
  else if (high.map fun h => decide (v > h)).getD false then .failHigh
  else .pass

/-- A count raised by 1, saturating at 65535. -/
def raise16 (n : Nat) : Nat := min (n + 1) 65535

/-- A record merged into the summary (R171). -/
def Summary.merge (m : Summary) (id : Half) (v : Verdict) : Summary where
  judged := raise16 m.judged
  failed := if v.failing then raise16 m.failed else m.failed
  firstFailed := if v.failing then some (m.firstFailed.getD id) else m.firstFailed
  mask := m.mask ||| v.mark

/-- A record at the newest end of the ring, the oldest displaced when it is full (R169). -/
def joinRing (ring : List VerdictRecord) (r : VerdictRecord) : List VerdictRecord :=
  (if ring.length ≥ Config.ringSize then ring.drop (ring.length + 1 - Config.ringSize) else ring) ++ [r]

/-- The record that the VDU forms from content (R168). -/
def recordOf (c : VerdictContent) (s : State) : VerdictRecord := ⟨c, s.bem.current, s.vdu.seq + 1⟩

/-- The VDU forms a record and hands in its frame (R168, R170). -/
def formVerdict (c : VerdictContent) (s : State) : State :=
  let r := recordOf c s
  handInReply (.verdict r) (s.setVdu
    { ring := joinRing s.vdu.ring r
      summary := s.vdu.summary.merge c.checkId c.outcome
      seq := r.seq
      lastJudged := c.checkId })

/-- The newest record with a check id (R175). -/
def findRecord (ring : List VerdictRecord) (id : Half) : Option VerdictRecord :=
  ring.reverse.find? fun r => r.content.checkId == id

/-- The SUMMARY frame as it stands (R173). -/
def summaryFrame (s : State) : SummaryFrame := ⟨s.vdu.summary, s.bem.current, s.vdu.seq⟩

/-- The summary exchange: emptied when the frame is QUEUED (R173). -/
def takeSummary (s : State) : State :=
  let s1 := handInReply (.summary (summaryFrame s)) s
  if s.rli.hasRoom then s1.setVdu { s1.vdu with summary := .empty } else s1

/-- The summary emptied by BEGIN_DUT (R176). -/
def emptySummary (s : State) : State := s.setVdu { s.vdu with summary := .empty }

end Sys2Proof.Machine
end

