-- ==== Sys2Proof/Machine/Check.lean ====
section
/-! DEFINITION. The Check Runner and the Order Intake's part in it (chapters 2 and 4): a check's actions, stages and
ends, holds and flushes, the answers that reach a check, and what runs on at once when an event has been taken. -/

namespace Sys2Proof.Machine

/-! ## The record -/

/-- The record of the check in flight changed, if there is one. -/
def updateCheck (f : CheckRecord → CheckRecord) (s : State) : State := s.setCkr (s.ckr.map f)

/-- The action being carried out has finished (R71). -/
def CheckRecord.finishAction (c : CheckRecord) : CheckRecord := { c with index := c.index + 1, waitsOn := .none }

/-- The action being carried out. -/
def CheckRecord.action (c : CheckRecord) : Option Action := c.order.actions[c.index]?

/-- The verdict content of a check that passed through JUDGING (R83). -/
def CheckRecord.judgedContent (c : CheckRecord) : VerdictContent :=
  ⟨c.order.checkId, c.judged, c.value, c.order.kind, c.gain, c.aux, c.flags, c.attempts⟩

/-- The verdict content of a check that a terminating event ended (R83, R88). -/
def CheckRecord.endedContent (c : CheckRecord) (v : Verdict) : VerdictContent :=
  ⟨c.order.checkId, v, none, c.order.kind, c.gain, none, c.flags, none⟩

/-- Whether a slot's late flag is set (R121). -/
def anyLate (s : State) : Bool := s.bem.slots.toList.any (·.late)

/-- The record made for an order (R68). -/
def newRecord (o : OrderRec) (s : State) : CheckRecord where
  order := o
  stage := .stimulating
  stageTimer := none
  index := 0
  waitsOn := .none
  holdTimer := none
  flags := { clamped := o.clamped, busLate := anyLate s }
  value := none
  gain := none
  aux := none
  attempts := none
  judged := .done
  restore := []
  fifth := none

/-! ## The end of a check (R84 to R87) -/

/-- A light channel changed. -/
def updateChannel (n : Nat) (f : LightChannel → LightChannel) (s : State) : State :=
  s.setLtu (setEntry s.ltu n (f (entryAt s.ltu n .reset)))

/-- The CSU IDLE, its window discarded with a sample of it that waits (R161, R162). -/
def stopWindow (s : State) : State := dropArrived Instr.ofWindow (s.setCsu s.csu.toIdle)

/-- The measurement in progress stopped at its unit, with the samples of it that wait (R152, R162). -/
def stopMeasurement (m : Measurement) (s : State) : State :=
  match m with
  | .light l => dropArrived (Instr.ofChannel l.channel) (updateChannel l.channel LightChannel.stop s)
  | .current _ => stopWindow s
  | .sound _ _ _ => stopWindow s
  | .busfield _ => s

/-- The work in flight stopped (R87): a power-up cancelled, a measurement stopped, a prompt ended; slews, cranks and
discharges run on. -/
def stopWork (c : CheckRecord) (s : State) : State :=
  let s1 := powerUpCancel s
  let s2 :=
    match c.stage, c.order.meas with
    | .measuring, some m => stopMeasurement m s1
    | _, _ => s1
  if c.stage = .prompting then promptEnd s2 else s2

/-- The restore list applied: the fifth place first, then newest first (R84, R85). -/
def applyRestores (c : CheckRecord) (s : State) : State :=
  let s1 :=
    match c.fifth with
    | some e => applyRestore e s
    | none => s
  c.restore.foldl (fun s e => applyRestore e s) s1

/-- ENDED, with the verdict content unless the check ends without a verdict (R86). The OI's answer to the report of
step 6 is `settle`. -/
def endCheck (v : Option VerdictContent) (s : State) : State :=
  match s.ckr with
  | none => s
  | some c =>
    let s1 := applyRestores c (stopWork c s)
    let s2 := releaseAllOf .ckr (withdrawAudible s1)
    let s3 := clearNoisy s2
    let s4 :=
      match v with
      | some x => formVerdict x s3
      | none => s3
    s4.setCkr none

/-- A terminating event: the check in flight, if any, ends with the event's outcome and flags (R88, R89). -/
def terminate (v : Verdict) (mark : VerdictFlags → VerdictFlags) (s : State) : State :=
  match s.ckr with
  | none => s
  | some c => endCheck (some ({ c with flags := mark c.flags }.endedContent v)) s

/-- A check that has reached JUDGING ends with the content it formed (R70, R83). -/
def finishJudged (s : State) : State :=
  match s.ckr with
  | none => s
  | some c => if c.stage = .judging then endCheck (some c.judgedContent) s else s

/-! ## The queue, the station and holds (R20 to R22, R29, R34) -/

/-- The NOT_RUN content of a flushed order (R29, R167). -/
def notRunContent (o : OrderRec) (lineLost : Bool) : VerdictContent :=
  ⟨o.checkId, .notRun, none, o.kind, none, none, { clamped := o.clamped, lineLost := lineLost }, none⟩

/-- Records formed one at a time, in order (R168). -/
def formAll (xs : List VerdictContent) (s : State) : State := xs.foldl (fun s x => formVerdict x s) s

/-- Whether a TAKE_SUMMARY for this station waits at the front of the queue, its exchange not yet made. -/
def takeWaits (s : State) : Bool :=
  match s.pending with
  | .controlTakeSummary f :: _ =>
    !s.taken && !s.rli.contention.sending &&
      (match classify s.rli f with
        | .control _ p => parseControl p == some .takeSummary
        | _ => false)
  | _ => false

/-- The queue flushed, oldest first (R29). A TAKE_SUMMARY that waits may fall before any one of the flush's records, and
its exchange is then made there (R174, log 36). -/
def flushQueue (lineLost : Bool) (s : State) : State :=
  let xs := s.oi.queue.map (notRunContent · lineLost)
  let s1 := s.setOi { s.oi with queue := [] }
  if takeWaits s then
    let n := Config.takenAfter s.choices
    let s2 := formAll (xs.take n) (s1.setChoices (s.choices + 1))
    if n < xs.length then formAll (xs.drop n) ((takeSummary s2).setTaken true) else s2
  else formAll xs s1

/-- RUNNING with no check in flight becomes READY (R20). -/
def stationIdle (s : State) : State :=
  if s.oi.station = .running ∧ s.ckr.isNone then s.setOi { s.oi with station := .ready } else s

/-- The outcome of a check that a hold cause ends (R22). -/
def HoldCause.outcome : HoldCause → Verdict
  | .operatorLimit => .operatorFail
  | .supplySafe => .aborted

/-- A hold cause set. -/
def Oi.setCause (o : Oi) : HoldCause → Oi
  | .operatorLimit => { o with limitHold := true }
  | .supplySafe => { o with safeHold := true }

/-- A raised hold cause (R20, R22). -/
def raiseHold (h : HoldCause) (s : State) : State :=
  match s.oi.station with
  | .ready => enter s
  | .running => enter s
  | .hold => s.setOi (s.oi.setCause h)
  | .unconfigured => s
  | .silent => s
where
  /-- READY or RUNNING: HOLD, the check ended, the queue flushed, rail and messages off. -/
  enter (s : State) : State :=
    let s1 := s.setOi { s.oi.setCause h with station := .hold }
    let s2 := flushQueue false (terminate h.outcome id s1)
    clearMessages (offRequest s2)

/-- END_DUT as carried out, by the control or by the line presence timer (R34, R40). -/
def endDut (lineLost : Bool) (s : State) : State :=
  let s1 := terminate .aborted (fun f => if lineLost then { f with lineLost := true } else f) s
  clearMessages (offRequest (stationIdle (flushQueue lineLost s1)))

/-! ## Rail reports (R72 to R74, R88, R96, R107) -/

/-- The SPU reports ON: the action that waits for it finishes, after a power-up with the INRUSH hold begun. -/
def reportOn (isPowerUp : Bool) (s : State) : State :=
  match s.ckr with
  | some c =>
    if c.waitsOn = .rail then
      s.setCkr (some { c.finishAction with
        holdTimer := if isPowerUp then some Config.inrushHoldMs else c.holdTimer })
    else s
  | none => s

/-- The SPU reports OFF: a SUPPLY_OFF that waits for it finishes (R74, R101). -/
def reportOff (s : State) : State :=
  match s.ckr with
  | some c => if c.waitsOn = .rail ∧ c.action = some .supplyOff then s.setCkr (some c.finishAction) else s
  | none => s

/-- A ramp reaches its setpoint: a retry ends, or the check is told (R96, R107). -/
def rampDone (s : State) : State :=
  let s1 := rampArrive s
  if s1.spu.retry then
    let s2 := releaseClaim .spu .inrush s1
    s2.setSpu { s2.spu with retry := false }
  else reportOn true s1

/-- The go; a power-up to 0 mV is ON at once (R96). -/
def goAhead (s : State) : State :=
  if s.spu.rail = .waitInrush then
    let s1 := rampGo s
    if s1.spu.setpoint = 0 then rampDone s1 else s1
  else s

/-! ## Claim answers (R55, R60, R72, R78, R82, R107) -/

/-- The requester is told GRANTED. -/
def tellGranted (r : Resource) (who : Requester) (s : State) : State :=
  match who with
  | .spu => if s.spu.retry then goAhead s else s
  | .ckr =>
    match s.ckr with
    | none => s
    | some c =>
      if c.waitsOn = .claim r then
        match r with
        | .inrush => goAhead (s.setCkr (some { c with waitsOn := .rail }))
        | .quiet => s.setCkr (some { c with waitsOn := .none })
        | .operator => promptBegin (s.setCkr (some { c with waitsOn := .prompt }))
      else s

/-- A grant (R55): the requester is told, then an announcement is handed in (log 14). -/
def grantClaim (c : OwnClaim) (s : State) : State :=
  handIn (tellGranted c.resource c.requester
    (s.setClu { s.clu with claim := some { c with granted := true, wait := none } }))

/-- The grant condition of a PENDING own claim whose settle has PASSED evaluated (R55, R58). -/
def evaluateClaim (s : State) : State :=
  match s.clu.claim with
  | some c => if !c.granted && c.settle == .passed && grantCondition s c then grantClaim c s else s
  | none => s

/-- The rail has entered SAFE without an OVERVOLTAGE: SUPPLY_SAFE is raised (R106 to R108). -/
def retryToSafe (s : State) : State := raiseHold .supplySafe (enterSafe s)

/-- The requester is told RACK_BUSY. -/
def tellBusy (r : Resource) (who : Requester) (s : State) : State :=
  match who with
  | .spu => if s.spu.retry ∧ s.spu.rail = .waitInrush then retryToSafe s else s
  | .ckr =>
    match s.ckr with
    | none => s
    | some c =>
      if c.waitsOn = .claim r then
        if c.stage = .prompting then
          promptEnd (s.setCkr (some { c with stage := .judging, waitsOn := .none, judged := .rackBusy }))
        else terminate .rackBusy id s
      else s

/-- The claim wait limit runs out (R60): the removal is announced before the requester is told (log 47). -/
def withdrawClaim (s : State) : State :=
  match s.clu.claim with
  | some c => if c.granted then s else takeDeferred (tellBusy c.resource c.requester (removeClaim s))
  | none => s

/-! ## Field writes (R75, R76, R84) -/

/-- Whether the restore list has an entry for the same field. -/
def CheckRecord.hasEntry (c : CheckRecord) (w : FieldWrite) : Bool :=
  c.restore.any fun e => e.slot == w.slot && e.start == w.start && e.len == w.len

/-- The record after a FIELD_WRITE: CLAMPED, a restore entry, the action finished. DESIGN CHOICE (log 42): the entry
holds what this write returned, also where a write of the field without restore came before it in the check. -/
def CheckRecord.afterWrite (c : CheckRecord) (w : FieldWrite) (old : Payload) : CheckRecord :=
  { c.finishAction with
    flags := { c.flags with clamped := c.flags.clamped || decide (rawExact w ≠ rawClamped w) }
    restore := if w.restore && !c.hasEntry w then ⟨w.slot, w.start, w.len, old⟩ :: c.restore else c.restore }

/-- A FIELD_WRITE applied by the check in flight. -/
def applyWrite (w : FieldWrite) (s : State) : State :=
  let old := readSlot s w.slot w.start w.len
  writeSlot w.slot w.start w.len (patternOf (rawClamped w) w.len) (updateCheck (·.afterWrite w old) s)

/-- The audible request is answered CLEAR: the write it waits for is applied. -/
def audibleCleared (s : State) : State :=
  match s.ckr with
  | some c =>
    match c.waitsOn, c.action with
    | .audible, some (.fieldWrite w) => applyWrite w s
    | _, _ => s
  | none => s

/-- A waiting audible request re-examined (R63). -/
def reexamineAudible (s : State) : State :=
  if s.clu.audible.isSome && !peerWantsQuiet s then
    audibleCleared (setNoisy (s.setClu { s.clu with audible := none }))
  else s

/-! ## Measurement and prompt reports (R80 to R82) -/

/-- Whether the check in flight waits for a measurement. -/
def CheckRecord.measures (c : CheckRecord) : Bool := c.stage == .measuring && c.waitsOn == .measurement

/-- A reported value recorded and judged (R81). -/
def CheckRecord.measured (c : CheckRecord) (v : Int) : CheckRecord :=
  let o := judgeLimits c.order.low c.order.high v
  { c with
    value := some v
    judged := o
    waitsOn := .none
    stage := if o = .pass ∧ c.order.prompt.isSome then .prompting else .judging }

/-- A report without a value: UNRANGED, DISTURBED or NO_DATA (R81). -/
def CheckRecord.unmeasured (c : CheckRecord) (v : Verdict) : CheckRecord :=
  { c with value := none, judged := v, waitsOn := .none, stage := .judging }

/-- A report changes the record of the check that waits for it; a late one is dropped (R88). -/
def reportMeasurement (f : CheckRecord → CheckRecord) (s : State) : State :=
  updateCheck (fun c => if c.measures then f c else c) s

/-- The LTU reports a luminance (R81, R151). -/
def CheckRecord.lightReport (r : LightReport) (c : CheckRecord) : CheckRecord :=
  { c with
    gain := some r.gain
    flags := { c.flags with
      saturated := c.flags.saturated || r.saturated
      pinned := c.flags.pinned || r.pinned
      reranged := c.flags.reranged || r.reranged } }.measured r.value

/-- The CSU reports a sound window complete: QUIET is released first (R78, R159). -/
def soundReport (tones peak : Nat) (s : State) : State :=
  reportMeasurement (fun c => { c with aux := some peak }.measured tones) (releaseClaim .ckr .quiet s)

/-- A noisy-peer notice (R59, R79, R80, R160, R161). -/
def noisyNotice (s : State) : State :=
  if holdsQuiet s && (s.ckr.map fun c => c.measures && c.order.isSound).getD false then
    let n := s.csu.notice
    let s1 := s.setCsu n.1
    match n.2 with
    | .none => s1
    | .restarted => updateCheck (fun c => { c with flags := { c.flags with restarted := true } }) s1
    | .disturbed =>
      reportMeasurement (·.unmeasured .disturbed) (releaseClaim .ckr .quiet (dropArrived Instr.ofWindow s1))
  else s

/-- The OPU reports its result (R82). -/
def promptResult (r : Verdict × Option Nat) (s : State) : State :=
  match s.ckr with
  | some c =>
    if c.stage = .prompting ∧ c.waitsOn = .prompt then
      let s1 := releaseClaim .ckr .operator s
      s1.setCkr (some { c with attempts := r.2, judged := r.1, waitsOn := .none, stage := .judging })
    else s
  | none => s

/-- What the OPU tells in one step, taken; where a result and the hold meet, the order is open (R190, log 9). -/
def deliverNews (n : OpuNews) (s : State) : State :=
  match n.result, n.limit with
  | none, false => s
  | some r, false => promptResult r s
  | none, true => raiseHold .operatorLimit s
  | some r, true =>
    if s.ckr.isSome then
      let c := takeFirst s
      if c.1 then raiseHold .operatorLimit (finishJudged (promptResult r c.2))
      else promptResult r (raiseHold .operatorLimit c.2)
    else raiseHold .operatorLimit s

/-! ## Actions and stages (R70 to R82) -/

/-- The amount of a check's INRUSH claim (R50, R72). -/
def inrushAmount (c : CheckRecord) (s : State) : Nat := c.order.inrush.getD s.oi.rack.inrush

/-- A SUPPLY_SET in OFF: a running hold ends, the SPU enters WAIT_INRUSH, INRUSH is requested (R72, R73; log 47). -/
def startPowerUp (target rate : Nat) (c : CheckRecord) (s : State) : State :=
  let s1 := if c.holdTimer.isSome then releaseClaim .ckr .inrush s else s
  let s2 := powerUp target rate (s1.setCkr (some { c with holdTimer := none, waitsOn := .claim .inrush }))
  requestClaim ⟨.inrush, inrushAmount c s, .ckr⟩ s2

/-- The action carried out; `none` where the manual has it in no such rail state, and the action waits (log 19). -/
def performAction (a : Action) (c : CheckRecord) (s : State) : Option State :=
  let finished := s.setCkr (some c.finishAction)
  let waiting (w : OpenRequest) := s.setCkr (some { c with waitsOn := w })
  match a with
  | .supplySet target rate =>
    if s.spu.rail = .off then some (startPowerUp target rate c s)
    else if s.spu.rail.transmits then
      let s1 := slewTo target rate (waiting .rail)
      some (if s1.spu.rail = .on then reportOn false s1 else s1)
    else none
  | .supplyOff =>
    if s.spu.rail = .off then some finished
    else
      let s1 := offRequest (waiting .rail)
      some (if s1.spu.rail = .off then reportOff s1 else s1)
  | .crank dip dipTime rate =>
    if s.spu.rail = .off then some finished
    else if s.spu.rail.transmits then some (crankTo dip dipTime rate (waiting .rail))
    else none
  | .fieldWrite w =>
    if !w.audible then some (applyWrite w s)
    else if c.order.isSound && !holdsQuiet s then
      some (requestClaim ⟨.quiet, 0, .ckr⟩ (waiting (.claim .quiet)))
    else
      let r := audibleRequest s
      some (if r.1 then applyWrite w r.2 else r.2.setCkr (some { c with waitsOn := .audible }))
  | .messageOn n => some (messageOn n finished)
  | .messageOff n => some (messageOff n finished)

/-- Whether an order holds an audible FIELD_WRITE (R78). -/
def OrderRec.hasAudible (o : OrderRec) : Bool :=
  o.actions.any fun a =>
    match a with
    | .fieldWrite w => w.audible
    | _ => false

/-- Entry to SETTLING (R78, R79). -/
def enterSettling (c : CheckRecord) (s : State) : State :=
  let c1 := { c with
    stage := .settling
    stageTimer := if c.order.settle = 0 then none else some c.order.settle
    waitsOn := .none }
  let s1 :=
    match c.order.meas with
    | some (.busfield m) => clearFresh m.slot s
    | _ => s
  if c.order.isSound && !c.order.hasAudible then
    requestClaim ⟨.quiet, 0, .ckr⟩ (s1.setCkr (some { c1 with waitsOn := .claim .quiet }))
  else s1.setCkr (some c1)

/-- Whether SETTLING may be left (R70, R79). -/
def settled (c : CheckRecord) (s : State) : Bool := c.stageTimer.isNone && (!c.order.isSound || holdsQuiet s)

/-- Entry to MEASURING: the measurement handed to its unit; a BUSFIELD is read at once (R80). -/
def enterMeasuring (m : Measurement) (c : CheckRecord) (s : State) : State :=
  let waiting := s.setCkr (some { c with stage := .measuring, waitsOn := .measurement })
  match m with
  | .light l => updateChannel l.channel (·.handover l) waiting
  | .current n => waiting.setCsu (waiting.csu.startCurrent n)
  | .sound n t h => waiting.setCsu (waiting.csu.startSound n t h)
  | .busfield b =>
    match readBusField s b with
    | none => s.setCkr (some (c.unmeasured .noData))
    | some v => s.setCkr (some (c.measured v))

/-- SETTLING is left (R70). -/
def leaveSettling (c : CheckRecord) (s : State) : State :=
  match c.order.meas with
  | some m => enterMeasuring m c s
  | none =>
    match c.order.prompt with
    | some _ => s.setCkr (some { c with stage := .prompting, waitsOn := .none })
    | none => s.setCkr (some { c with stage := .judging, waitsOn := .none, judged := .done })

/-- Entry to PROMPTING: OPERATOR requested, the prompt handed over (R82). -/
def enterPrompting (p : Prompt) (c : CheckRecord) (s : State) : State :=
  promptHandover p (requestClaim ⟨.operator, 0, .ckr⟩ (s.setCkr (some { c with waitsOn := .claim .operator })))

/-- Whether the OI may start a check (R21). -/
def mayStart (s : State) : Bool :=
  (s.oi.station == .ready || s.oi.station == .running) && s.ckr.isNone && !s.spu.blocksStart

/-- The order at the head handed to the CKR (R21, R68). -/
def startCheck (o : OrderRec) (rest : List OrderRec) (s : State) : State :=
  (s.setOi { s.oi with queue := rest, station := .running }).setCkr (some (newRecord o s))

/-- The next thing that comes about by itself, `none` when the part waits for an event (R21, R70, R71). -/
def micro (s : State) : Option State :=
  match s.ckr with
  | some c =>
    match c.stage with
    | .stimulating =>
      if c.waitsOn = .none then
        match c.action with
        | none => some (enterSettling c s)
        | some a => performAction a c s
      else none
    | .settling => if settled c s then some (leaveSettling c s) else none
    | .measuring => none
    | .prompting =>
      match c.waitsOn, c.order.prompt with
      | .none, some p => some (enterPrompting p c s)
      | _, _ => none
    | .judging => some (finishJudged s)
  | none =>
    match s.oi.queue with
    | o :: rest =>
      if mayStart s then some (startCheck o rest s)
      else if s.oi.station = .running then some (stationIdle s)
      else none
    | [] => if s.oi.station = .running then some (stationIdle s) else none

/-- What comes about by itself, n things at most. -/
def runOn : Nat → State → State
  | 0, s => s
  | n + 1, s =>
    match micro s with
    | none => s
    | some s1 => runOn n s1

/-- Everything that comes about at once when an event has been taken (R21, R71, log 13): nine checks of at most eight
steps each, and one step to READY, are less than 100. -/
def settle (s : State) : State := runOn 100 s

/-! ## SILENT and RESTART (R17, R19, R23, R32) -/

/-- The whole station enters SILENT (R17, R23). -/
def goSilent (s : State) : State :=
  if s.rli.silent then s
  else
    let s1 := s.setRli s.rli.enterSilent
    let s2 := s1.setOi { s1.oi with station := .silent }
    let s3 := endCheck none s2
    let s4 := s3.setOi { s3.oi with queue := [], presence := none }
    let s5 := promptEnd (releaseEverything (clearMessages (offRequest s4)))
    let s6 := s5.setClu { s5.clu with announceTimer := none }
    s6.setOpu { s6.opu with lamp := false }

/-- RESTART after its RECEIPT: steps 3 to 8 (R32). -/
def restart (s : State) : State :=
  let s1 := stationIdle (flushQueue false (terminate .aborted id s))
  promptEnd (releaseEverything (clearMessages (offRequest s1)))

end Sys2Proof.Machine
end

