-- ==== Sys2Proof/Machine/Orders.lean ====
section
/-! DEFINITION. The Order Intake (chapter 2): a received frame handed on, the tests and clamps of an ORDER, receipts,
controls, queries and configuration. -/

namespace Sys2Proof.Machine

/-! ## A received frame -/

/-- The end of an intact frame that the RLI may not deliver (R7): GAP, and the fairness flag by its source (R9, R13). -/
def undelivered (src : BitVec 5) (s : State) : State :=
  s.setRli (s.rli.frameEnd (src != nestAddress s.rli.slot))

/-- A frame that ends while the station is not sending, as a command that names what it is. A frame that the filter
passes but the RLI may not deliver only ends (R7); one that is not what the command names changes nothing (log 11).
DESIGN CHOICE (log 37): the end is taken in SYNCING, GAP and WINDOW too, where no LINE_DOMINANT came before it. -/
def frameEvent {α : Type} (f : RxFrame) (pick : Received → Option α) (deliver : α → State → State) (s : State) :
    State :=
  if s.rli.contention.sending then s
  else
    match classify s.rli f with
    | .undelivered src => undelivered src s
    | c =>
      match pick c with
      | none => s
      | some a => deliver a (s.setRli (s.rli.frameEnd true))

/-- A frame that the OI carries out while the station sends one of its own (R19): its end was recognised before that
transmission began, so that the line's condition is not touched here. -/
def frameTaken {α : Type} (f : RxFrame) (pick : Received → Option α) (deliver : α → State → State) (s : State) :
    State :=
  match pick (classify s.rli f) with
  | none => s
  | some a => deliver a s

/-- A reply of another nest, which no block takes. -/
def pickPeerReply : Received → Option Unit
  | .peerReply => some ()
  | _ => none

/-- Every frame that reaches the OI reloads the line presence timer and clears LINE_LOST (R40). -/
def heard (s : State) : State :=
  s.setOi { s.oi with presence := some (s.oi.rack.presence * 1000), lineLost := false }

/-- What an ANNOUNCE command carries: the sender's slot and the payload. -/
def pickAnnounce : Received → Option (Nat × List Byte)
  | .announce src p => some (src.toNat, p)
  | _ => none

/-- The payload of an ORDER. -/
def pickOrder : Received → Option (List Byte)
  | .order p => some p
  | _ => none

/-- The payload of a QUERY. -/
def pickQuery : Received → Option (List Byte)
  | .query p => some p
  | _ => none

/-- A CONTROL of one kind: whether it is broadcast, its reference number and its data. -/
def pickControl {α : Type} (sel : Control → Option α) : Received → Option (Bool × Half × α)
  | .control b p => (parseControl p).bind fun c => (sel c).map fun a => (b, leadingHalf p, a)
  | _ => none

/-- A malformed CONTROL (R30). -/
def pickBadControl : Received → Option (Bool × Half)
  | .control b p => if (parseControl p).isNone then some (b, leadingHalf p) else none
  | _ => none

/-- A CONFIGURE of one section kind: its reference number and the section. -/
def pickConfigure {α : Type} (sel : ConfigSection → Option α) : Received → Option (Half × α)
  | .configure p => (parseConfigure p).bind fun c => (sel c).map fun a => (leadingHalf p, a)
  | _ => none

/-- A CONFIGURE that R38 answers INVALID. -/
def pickBadConfigure : Received → Option Half
  | .configure p => if (parseConfigure p).isNone then some (leadingHalf p) else none
  | _ => none

/-! ## Receipts (R28) -/

/-- The free place count as the queue stands. -/
def freePlaces (s : State) : Nat := Config.queueSize - s.oi.queue.length

/-- A RECEIPT handed in. -/
def receipt (kind : FrameKind) (reference : Half) (code : ReceiptCode) (free : Nat) (s : State) : State :=
  handInReply (.receipt ⟨kind, reference, code, free⟩) s

/-- A RECEIPT to a CONTROL, none to a broadcast one. -/
def answerControl (isBroadcast : Bool) (reference : Half) (code : ReceiptCode) (free : Nat) (s : State) : State :=
  if isBroadcast then s else receipt .control reference code free s

/-! ## Tests and clamps of an ORDER (R24 to R27) -/

/-- A bit run that a FIELD_WRITE or BUSFIELD may not name. -/
def badRun (start len : Nat) : Bool := decide (start > 63) || len == 0 || decide (len > 32) || decide (start + len > 64)

/-- An action that R25 calls malformed. -/
def Action.malformed : Action → Bool
  | .supplySet _ _ => false
  | .supplyOff => false
  | .crank _ t _ => t == 0 || decide (t > 10000)
  | .fieldWrite w =>
    decide (w.slot > 23) || badRun w.start w.len || w.num == 0 || w.den == 0 || (w.audible && !w.restore)
  | .messageOn n => decide (n > 23)
  | .messageOff n => decide (n > 23)

/-- A measurement that R25 calls malformed. -/
def Measurement.malformed : Measurement → Bool
  | .light m =>
    decide (m.channel > 7) || (m.target.map fun t => t == 0 || decide (t > 4094)).getD false
  | .current n => n == 0 || decide (n > 10000)
  | .sound n t h => n == 0 || decide (n > 60000) || decide (t > 4095) || decide (h > 4095)
  | .busfield m => decide (m.slot > 7) || badRun m.start m.len || m.num == 0 || m.den == 0

/-- An audible FIELD_WRITE. -/
def Action.isAudible : Action → Bool
  | .fieldWrite w => w.audible
  | _ => false

/-- A SUPPLY_SET. -/
def Action.isSupplySet : Action → Bool
  | .supplySet _ _ => true
  | _ => false

/-- A SUPPLY_SET later in the list than an audible FIELD_WRITE. -/
def supplyAfterAudible : List Action → Bool
  | [] => false
  | a :: rest => (a.isAudible && rest.any Action.isSupplySet) || supplyAfterAudible rest

/-- An order that R25 calls malformed, once its payload has the layout. -/
def OrderRec.malformed (o : OrderRec) : Bool :=
  o.checkId == 0 || decide (o.actions.length > 4) || o.actions.any Action.malformed ||
  (o.meas.map Measurement.malformed).getD false ||
  (o.inrush.map fun n => n == 0 || decide (n > 100)).getD false ||
  (o.prompt.map fun p => decide (p.text.length > 40)).getD false ||
  (o.isSound && o.prompt.isSome) ||
  (o.isSound && supplyAfterAudible o.actions) ||
  (match o.low, o.high with
    | some l, some h => decide (l > h)
    | _, _ => false)

/-- A field that a write may not touch in a slot: it runs beyond the payload, or shares a bit with the counter or the
checksum byte (R26). -/
def fieldForbidden (m : MessageSlot) (start len : Nat) : Bool :=
  decide (start + len > 8 * m.len) ||
  (m.counter.map fun c => overlaps start len c.1 c.2).getD false ||
  (m.checksum.map fun k => overlaps start len (8 * k) 8).getD false

/-- An action that is impossible in the configuration in force. -/
def actionImpossible (s : State) : Action → Bool
  | .fieldWrite w => !(slotAt s w.slot).defined || fieldForbidden (slotAt s w.slot) w.start w.len
  | .messageOn n => !(slotAt s n).defined
  | .messageOff n => !(slotAt s n).defined
  | _ => false

/-- Whether the challenge field cannot be written. -/
def challengeImpossible (s : State) : Bool :=
  let m := slotAt s s.opu.cfg.slot
  !m.defined || fieldForbidden m s.opu.cfg.start Config.challengeBits

/-- An order that R26 calls impossible. -/
def orderImpossible (s : State) (o : OrderRec) : Bool :=
  o.actions.any (actionImpossible s) ||
  (match o.meas with
    | some (.busfield m) => !(captureAt s m.slot).defined
    | _ => false) ||
  (match o.prompt with
    | some p => p.mode != .yesNo && challengeImpossible s
    | none => false)

/-- An action's values brought into range (R27). -/
def Action.clamp : Action → Action
  | .supplySet t r => .supplySet (min t 18000) (clampTo 1 2000 r)
  | .crank d t r => .crank (min d 18000) t (clampTo 1 2000 r)
  | a => a

/-- A measurement's values brought into range (R27). -/
def clampMeasurement (s : State) : Measurement → Measurement
  | .light m =>
    let cal := (entryAt s.ltu m.channel .reset).cal
    .light { m with
      override := m.override.map (clampTo cal.gmin cal.gmax)
      window := clampTo 16 4096 ((m.window + 15) / 16 * 16) }
  | m => m

/-- An accepted order's copy, CLAMPED when a value was changed (R27). -/
def clampOrder (s : State) (o : OrderRec) : OrderRec :=
  let c : OrderRec := { o with
    actions := o.actions.map Action.clamp
    settle := min o.settle 60000
    meas := o.meas.map (clampMeasurement s)
    prompt := o.prompt.map fun p => { p with timeout := clampTo 1 120 p.timeout } }
  { c with clamped := decide (c ≠ o) }

/-- Whether a check id is that of a queued order or of the check in flight. -/
def idTaken (s : State) (id : Half) : Bool :=
  s.oi.queue.any (·.checkId == id) || (s.ckr.map fun c => c.order.checkId == id).getD false

/-- The code that answers an ORDER, with the order when it is ACCEPTED (R24). -/
def orderTests (s : State) (p : List Byte) : ReceiptCode × Option OrderRec :=
  if s.oi.queue.length ≥ Config.queueSize then (.queueFull, none)
  else if idTaken s (leadingHalf p) then (.duplicate, none)
  else
    match parseOrder p with
    | none => (.invalid, none)
    | some o =>
      if o.malformed || orderImpossible s o then (.invalid, none)
      else if s.oi.station = .hold then (.held, none)
      else if s.oi.station = .unconfigured then (.unconfigured, none)
      else (.accepted, some (clampOrder s o))

/-- An ORDER taken: an accepted one joins the queue before its RECEIPT, and a check starts after it (R21, R24). -/
def takeOrder (p : List Byte) (s : State) : State :=
  let t := orderTests s p
  match t.2 with
  | some o =>
    let s1 := s.setOi { s.oi with queue := s.oi.queue ++ [o] }
    settle (receipt .order (leadingHalf p) t.1 (freePlaces s1) s1)
  | none => receipt .order (leadingHalf p) t.1 (freePlaces s) s

/-! ## Controls (R30 to R36) -/

/-- ABORT (R31); the next check's start is not counted in the receipt (log 16). -/
def controlAbort (isBroadcast : Bool) (reference : Half) (flush : Bool) (target : Option Half) (s : State) : State :=
  let s1 := answerControl isBroadcast reference .accepted (if flush then Config.queueSize else freePlaces s) s
  let ends := match s1.ckr, target with
    | some c, some t => c.order.checkId == t
    | some _, none => true
    | none, _ => false
  let s2 := if ends then terminate .aborted id s1 else s1
  settle (if flush then flushQueue false s2 else s2)

/-- RESTART (R32). -/
def controlRestart (isBroadcast : Bool) (reference : Half) (s : State) : State :=
  let s1 := s.setRli s.rli.emptyBuffers
  settle (restart (answerControl isBroadcast reference .accepted Config.queueSize s1))

/-- The refusal of a BEGIN_DUT, if any (R33). -/
def beginRefusal (s : State) : Option ReceiptCode :=
  if s.oi.station = .hold then some .held
  else if s.oi.station = .unconfigured then some .unconfigured
  else if s.ckr.isSome ∨ s.oi.queue ≠ [] ∨ s.spu.rail ≠ .off then some .busy
  else none

/-- BEGIN_DUT (R33). -/
def controlBeginDut (isBroadcast : Bool) (reference : Half) (variant : Half) (s : State) : State :=
  match beginRefusal s with
  | some code => answerControl isBroadcast reference code (freePlaces s) s
  | none => emptySummary (beginIdentity variant (answerControl isBroadcast reference .accepted (freePlaces s) s))

/-- END_DUT (R34). -/
def controlEndDut (isBroadcast : Bool) (reference : Half) (s : State) : State :=
  settle (endDut false (answerControl isBroadcast reference .accepted Config.queueSize s))

/-- The hold left: causes cleared, the error count 0, SAFE to OFF, HOLD to READY (R35). -/
def clearHold (s : State) : State :=
  let s1 := s.setOi { s.oi with
    limitHold := false
    safeHold := false
    station := if s.oi.station = .hold then .ready else s.oi.station }
  leaveSafe (s1.setOpu { s1.opu with errors := 0 })

/-- CLEAR_HOLD, by the level of the supervisor key-switch (R35). -/
def controlClearHold (isBroadcast : Bool) (reference : Half) (keyActive : Bool) (s : State) : State :=
  if keyActive then settle (clearHold (answerControl isBroadcast reference .accepted (freePlaces s) s))
  else answerControl isBroadcast reference .held (freePlaces s) s

/-! ## Queries (R37, R175) -/

/-- A QUERY answered by the OI or the VDU. -/
def answerQuery (p : List Byte) (s : State) : State :=
  match parseQuery p with
  | none => receipt .query (leadingHalf p) .invalid (freePlaces s) s
  | some id =>
    if id = 0 then receipt .query id .unknownId (freePlaces s) s
    else
      match findRecord s.vdu.ring id with
      | some r => handInReply (.verdict r) s
      | none => receipt .query id .unknownId (freePlaces s) s

/-! ## Configuration (R38, R39) -/

/-- Whether a CONFIGURE can be accepted now. -/
def canConfigure (s : State) : Bool :=
  (s.oi.station == .unconfigured || s.oi.station == .ready) && s.ckr.isNone && s.oi.queue.isEmpty &&
    s.spu.rail == .off

/-- A CONFIGURE that is not INVALID: BUSY, or ACCEPTED and the section taken. -/
def configure (reference : Half) (takeSection : State → State) (s : State) : State :=
  if canConfigure s then takeSection (receipt .configure reference .accepted (freePlaces s) s)
  else receipt .configure reference .busy (freePlaces s) s

/-- A RACK section: the five numbers, READY, and the reload with the new timeout (R39). -/
def configureRack (c : RackCfg) (s : State) : State :=
  let r := adjustRack c
  s.setOi { s.oi with rack := r, station := .ready, presence := some (r.presence * 1000) }

/-- A SUPPLY section (R111). -/
def configureSupply (c : SupplyCfg) (s : State) : State := s.setSpu { s.spu with cfg := adjustSupply c }

/-- A LIGHT section (R140). -/
def configureLight (channel : Nat) (c : LightCal) (s : State) : State :=
  updateChannel channel (·.calibrate (adjustLight c)) s

/-- An OPERATOR section: the generator takes the seed, and a count above the new limit raises the hold (R190, R192). -/
def configureOperator (c : OperatorCfg) (s : State) : State :=
  let cfg := adjustOperator c
  let s1 := s.setOpu { s.opu with cfg := cfg, generator := cfg.seed }
  if s1.opu.overLimit then raiseHold .operatorLimit s1 else s1

/-- A MESSAGE section (R115). -/
def configureMessage (m : MessageSection) (s : State) : State := setSlot m.slot (adjustMessage m) s

/-- A CAPTURE section (R128). -/
def configureCapture (c : CaptureSection) (s : State) : State := setCapture c.slot (adjustCapture c) s

end Sys2Proof.Machine
end

