-- ==== Sys2Proof/Machine/BusEvents.lean ====
section
/-! DEFINITION. The meanings of the Bus Emulator's events (chapter 6). -/

namespace Sys2Proof.Machine

/-- SLOT_DUE (R117): a periodic slot's due time in the running schedule. -/
def execSlotDue (slot : Fin 24) (s : State) : Result := act s fun s =>
  if s.bem.schedule.isSome && (slotAt s slot).period != 0 then fallDue slot s else s

/-- CAN_ATTEMPT_START (R121). -/
def execCanAttemptStart (s : State) : Result := act s attemptStart

/-- CAN_ATTEMPT_END (R121, R126): bus silence ends the check in flight with DUT_FAULT and the flag BUS (R91). -/
def execCanAttemptEnd (outcome : CanOutcome) (s : State) : Result := act s fun s =>
  let r := attemptEnd outcome s
  if r.2 then settle (terminate .dutFault (fun f => { f with bus := true }) r.1) else r.1

/-- WRONG_DUT and DUT_CHANGED at the check and the queue (R92, R133, R134). -/
def identityNews (e : Option IdentityEvent) (s : State) : State :=
  match e with
  | none => s
  | some .wrongDut => flushQueue false (terminate .wrongDut id s)
  | some .dutChanged => flushQueue false (terminate .dutChanged id s)

/-- An arrival offered to every capture slot, in slot order, and whether it raised an identity event (R129, log 30). -/
def captureAll (f : CanFrame) (s : State) : State × Bool :=
  (List.range 8).foldl
    (fun p n => let r := captureInto n f p.1; (identityNews r.2 r.1, p.2 || r.2.isSome)) (s, false)

/-- CLUSTER_FRAME_RECEIVED (R114, R127, R129). DESIGN CHOICE (log 45): a frame that ends bus silence ends it, with the
snapshots of the event-only slots, before it is offered to the capture table. -/
def execClusterFrameReceived (frame : CanFrame) (s : State) : Result := act s fun s =>
  let s1 := leaveBusSilent s
  if frame.extended || frame.remote then s1
  else
    let r := captureAll frame s1
    if r.2 then settle r.1 else r.1

end Sys2Proof.Machine
end

