-- ==== Sys2Proof/Machine/CheckEvents.lean ====
section
/-! DEFINITION. The meanings of the Check Runner's timers (chapter 4). -/

namespace Sys2Proof.Machine

/-- INRUSH_HOLD_EXPIRY (R73): the INRUSH claim is released. -/
def execInrushHoldExpiry (s : State) : Result := act s fun s =>
  match s.ckr with
  | some c =>
    if c.holdTimer.isSome then
      settle (releaseClaim .ckr .inrush (s.setCkr (some { c with holdTimer := none })))
    else s
  | none => s

/-- CHECK_SETTLE_EXPIRY (R79): SETTLING is left, once QUIET is held for a SOUND check. -/
def execCheckSettleExpiry (s : State) : Result := act s fun s =>
  match s.ckr with
  | some c =>
    if c.stage = .settling ∧ c.stageTimer.isSome then settle (s.setCkr (some { c with stageTimer := none })) else s
  | none => s

end Sys2Proof.Machine
end

