-- ==== Sys2Proof/Machine/ClaimEvents.lean ====
section
/-! DEFINITION. The meanings of the Claim Unit's events (chapter 3). -/

namespace Sys2Proof.Machine

/-- What follows a change of the view (R46, R47). -/
def viewChanged (s : State) : State := givePlace (reexamineAudible (evaluateClaim s))

/-- An ANNOUNCE taken: ignored, or the entry written and what follows (R46, R59). -/
def takeAnnounce (slot : Nat) (p : List Byte) (s : State) : State :=
  match parseAnnounce p with
  | none => s
  | some r =>
    let s1 := viewChanged (writePeer slot r s)
    settle (if r.noisy then noisyNotice s1 else s1)

/-- ANNOUNCE_RECEIVED (R46). -/
def execAnnounceReceived (frame : RxFrame) (s : State) : Result := act s
  (frameEvent frame pickAnnounce fun x s => takeAnnounce x.1 x.2 s)

/-- ANNOUNCE_TIMER_EXPIRY (R43). -/
def execAnnounceTimerExpiry (s : State) : Result := act s fun s =>
  if s.clu.announceTimer.isSome then
    let s1 := handIn s
    s1.setClu { s1.clu with announceTimer := some s1.oi.rack.period }
  else s

/-- PEER_STALE (R47). -/
def execPeerStale (slot : Fin 16) (s : State) : Result := act s fun s =>
  let e := entryAt s.clu.peers slot .reset
  if slot.val ≠ s.rli.slot.toNat ∧ e.liveness = .live then
    settle (viewChanged (s.setClu { s.clu with peers := setEntry s.clu.peers slot (staleEntry s e) }))
  else s

/-- CLAIM_SETTLE_EXPIRY (R54, R55). -/
def execClaimSettleExpiry (s : State) : Result := act s fun s =>
  match s.clu.claim with
  | some c =>
    match c.granted, c.settle with
    | false, .running _ => settle (evaluateClaim (s.setClu { s.clu with claim := some { c with settle := .passed } }))
    | _, _ => s
  | none => s

/-- CLAIM_WAIT_EXPIRY (R60). -/
def execClaimWaitExpiry (s : State) : Result := act s fun s =>
  match s.clu.claim with
  | some c => if c.wait.isSome ∧ c.granted = false then settle (withdrawClaim s) else s
  | none => s

/-- AUDIBLE_WAIT_EXPIRY (R64): RACK_BUSY ends the check (R76). -/
def execAudibleWaitExpiry (s : State) : Result := act s fun s =>
  if s.clu.audible.isSome then
    let s1 := s.setClu { s.clu with audible := none }
    if (s1.ckr.map fun c => c.waitsOn == .audible).getD false then settle (terminate .rackBusy id s1) else s1
  else s

end Sys2Proof.Machine
end

