-- ==== Sys2Proof/Machine/LineEvents.lean ====
section
/-! DEFINITION. The meanings of the rack line's own events (chapter 1): contention, transmission and frames that reach
no block. A frame's end is taken in every condition but TRANSMITTING (log 37). -/

namespace Sys2Proof.Machine

/-- A contention condition set. -/
def setContention (c : Contention) (s : State) : State := s.setRli { s.rli with contention := c }

/-- LINE_DOMINANT (R9): in any condition but TRANSMITTING a frame has started; from BUSY nothing is new. -/
def execLineDominant (s : State) : Result := act s fun s =>
  match s.rli.contention with
  | .transmitting _ => s
  | .busy => s
  | _ => s.setRli { s.rli with contention := .busy, drove := false }

/-- SYNC_IDLE_END (R9): 1,000 bit times of recessive line. -/
def execSyncIdleEnd (s : State) : Result := act s fun s =>
  if s.rli.contention = .syncing then setContention (.window 0) s else s

/-- IDLE_GAP_END (R9): 20 bit times after a frame end. -/
def execIdleGapEnd (s : State) : Result := act s fun s =>
  if s.rli.contention = .gap then setContention (.window 0) s else s

/-- POSITION_START (R10, R12, R13). -/
def execPositionStart (position : Fin 34) (s : State) : Result := act s fun s =>
  s.setRli (s.rli.positionStart position)

/-- WINDOW_END (R9, R13): the fairness flag is cleared, which a SILENT RLI keeps (R17); the next window begins. -/
def execWindowEnd (s : State) : Result := act s fun s =>
  match s.rli.contention with
  | .window _ =>
    s.setRli { s.rli with contention := .window 0, fairness := s.rli.fairness && s.rli.silent }
  | _ => s

/-- READBACK_DIFFERENCE (R14): the transmission is abandoned and counted; the third is a duplicate slot. -/
def execReadbackDifference (s : State) : Result := act s fun s =>
  if s.rli.contention.sending then
    let s1 := s.setRli s.rli.collide
    if s1.rli.collisions ≥ Config.collisionLimit then goSilent s1 else s1
  else s

/-- FRAME_SENT_IN_FULL (R13, R14, R15), and the CLU's notice of an ANNOUNCE (R54). -/
def execFrameSentInFull (s : State) : Result := act s fun s =>
  match s.rli.contention with
  | .transmitting tx =>
    let s1 := s.setRli (s.rli.sentInFull tx)
    match tx.frame with
    | .announce a => settleNotice a.claim s1
    | .reply _ => s1
  | _ => s

/-- FRAME_DISCARDED (R6): only the frame's end is left. -/
def execFrameDiscarded (frame : RxFrame) (s : State) : Result := act s fun s =>
  if s.rli.contention.sending then s
  else if classify s.rli frame = .discarded then s.setRli (s.rli.frameEnd false) else s

/-- OWN_SLOT_FRAME (R8): a duplicate slot; at a SILENT RLI, or behind bits that the station drove, only the frame's end
is left (R7, R9). -/
def execOwnSlotFrame (frame : RxFrame) (s : State) : Result := act s fun s =>
  if s.rli.contention.sending then s
  else
    match classify s.rli frame with
    | .ownSlot => goSilent (s.setRli (s.rli.frameEnd false))
    | .undelivered src => undelivered src s
    | _ => s

/-- PEER_REPLY_FRAME (R7): delivered to no block; the fairness flag is cleared (R13). -/
def execPeerReplyFrame (frame : RxFrame) (s : State) : Result := act s
  (frameEvent frame pickPeerReply fun _ s => s)

/-- ABANDONED_REMAINDER_END (R14, R19): the frame on the line during which the station drove bits ends; intact and of
another station, it clears the fairness flag. -/
def execAbandonedRemainderEnd (frame : RxFrame) (s : State) : Result := act s fun s =>
  if s.rli.contention.sending || !s.rli.drove then s
  else
    match rxFilter s.rli.slot frame with
    | none => s.setRli (s.rli.frameEnd false)
    | some i => s.setRli (s.rli.frameEnd (i.src != nestAddress s.rli.slot))

end Sys2Proof.Machine
end

