-- ==== Sys2Proof/Machine/MeasureEvents.lean ====
section
/-! DEFINITION. The meanings of the Light Unit's and the Current and Sound Unit's events (chapters 7 and 8). -/

namespace Sys2Proof.Machine

/-- Light channel n. -/
def channelAt (s : State) (n : Nat) : LightChannel := entryAt s.ltu n .reset

/-- RERANGED set on the check that measures (R149). -/
def noteReranged (s : State) : State :=
  reportMeasurement (fun c => { c with flags := { c.flags with reranged := true } }) s

/-- Samples at a channel, and the report they complete, if any (R143 to R151). -/
def lightSamples (n : Nat) (samples : List Code) (s : State) : State :=
  let r := (channelAt s n).samples samples
  let s1 := updateChannel n (fun _ => r.1) s
  let s2 := if r.1.reranged then noteReranged s1 else s1
  match r.2 with
  | some report => settle (reportMeasurement (·.lightReport report) s2)
  | none => s2

/-- Whether a channel takes blocks. -/
def takesBlocks (s : State) (n : Nat) : Bool :=
  (channelAt s n).state == .ranging || (channelAt s n).state == .locked

/-- The samples of a block in progress that wait are discarded with it (R147). -/
def discardBlock (s : State) (n : Nat) : State := if takesBlocks s n then dropArrived (Instr.ofChannel n) s else s

/-- LIGHT_BLOCK_COMPLETE (R143 to R146). -/
def execLightBlockComplete (channel : Fin 8) (samples : List Code) (s : State) : Result := act s fun s =>
  if takesBlocks s channel then lightSamples channel samples s else s

/-- RANGE_TIMER_EXPIRY (R147). -/
def execRangeTimerExpiry (channel : Fin 8) (s : State) : Result := act s fun s =>
  let c := channelAt s channel
  if c.rangeTimer.isSome then
    let r := c.rangeExpiry
    let s1 := updateChannel channel (fun _ => r.1) (discardBlock s channel)
    if r.2 then settle (reportMeasurement (fun k => { k with gain := some c.gain }.unmeasured .unranged) s1) else s1
  else s

/-- LIGHT_WINDOW_RERANGE (R149). -/
def execLightWindowRerange (channel : Fin 8) (samples : List Code) (s : State) : Result := act s fun s =>
  if (channelAt s channel).state = .window then lightSamples channel samples s else s

/-- LIGHT_WINDOW_COMPLETE (R150, R151). -/
def execLightWindowComplete (channel : Fin 8) (samples : List Code) (s : State) : Result := act s fun s =>
  if (channelAt s channel).state = .window then lightSamples channel samples s else s

/-- CURRENT_WINDOW_COMPLETE (R156). -/
def execCurrentWindowComplete (samples : List Nat) (s : State) : Result := act s fun s =>
  let r := s.csu.currentSamples samples
  let s1 := s.setCsu r.1
  match r.2 with
  | some v => settle (reportMeasurement (·.measured v) s1)
  | none => s1

/-- SOUND_WINDOW_COMPLETE (R159). -/
def execSoundWindowComplete (samples : List Code) (s : State) : Result := act s fun s =>
  let r := s.csu.soundSamples samples
  let s1 := s.setCsu r.1
  match r.2 with
  | some v => settle (soundReport v.1 v.2 s1)
  | none => s1

end Sys2Proof.Machine
end

