-- ==== Sys2Proof/Machine/OperatorEvents.lean ====
section
/-! DEFINITION. The meanings of the Operator Unit's events (chapter 10). -/

namespace Sys2Proof.Machine

/-- What a key or the prompt timer has the OPU tell, taken; with nothing to tell nothing else comes about. -/
def takeNews (r : State × OpuNews) : State :=
  if r.2.result.isNone && !r.2.limit then r.1 else settle (deliverNews r.2 r.1)

/-- KEY_DIGIT (R185 to R187). -/
def execKeyDigit (digit : Fin 10) (s : State) : Result := act s fun s => takeNews (digitKey digit s)

/-- KEY_CLEAR (R185). -/
def execKeyClear (s : State) : Result := act s clearKey

/-- KEY_PASS (R188). -/
def execKeyPass (s : State) : Result := act s fun s => takeNews (passKey s)

/-- KEY_FAIL (R187, R188). -/
def execKeyFail (s : State) : Result := act s fun s => takeNews (failKey s)

/-- LOOK_TIMER_EXPIRY (R185): digits count from now on. -/
def execLookTimerExpiry (s : State) : Result := act s fun s => s.setOpu { s.opu with lookTimer := none }

/-- PROMPT_TIMER_EXPIRY (R189). -/
def execPromptTimerExpiry (s : State) : Result := act s fun s =>
  if s.opu.promptTimer.isSome then takeNews (promptTimeout s) else s

end Sys2Proof.Machine
end

