-- ==== Sys2Proof/Machine/OrderEvents.lean ====
section
/-! DEFINITION. The meanings of the line station's frames and of the Order Intake's own events (chapter 2). -/

namespace Sys2Proof.Machine

/-- ORDER (R24). -/
def execOrder (frame : RxFrame) (s : State) : Result := act s
  (frameEvent frame pickOrder fun p s => takeOrder p (heard s))

/-- CONTROL_ABORT (R31). -/
def execControlAbort (frame : RxFrame) (s : State) : Result := act s
  (frameEvent frame
    (pickControl fun c => match c with
      | .abort flush target => some (flush, target)
      | _ => none)
    fun x s => controlAbort x.1 x.2.1 x.2.2.1 x.2.2.2 (heard s))

/-- CONTROL_RESTART (R32); carried out during a transmission, it abandons it (R19). -/
def execControlRestart (frame : RxFrame) (s : State) : Result := act s fun s =>
  (if s.rli.contention.sending then frameTaken else frameEvent) frame
    (pickControl fun c => match c with
      | .restart => some ()
      | _ => none)
    (fun x s => controlRestart x.1 x.2.1 (heard s)) s

/-- CONTROL_BEGIN_DUT (R33). -/
def execControlBeginDut (frame : RxFrame) (s : State) : Result := act s
  (frameEvent frame
    (pickControl fun c => match c with
      | .beginDut v => some v
      | _ => none)
    fun x s => controlBeginDut x.1 x.2.1 x.2.2 (heard s))

/-- CONTROL_END_DUT (R34). -/
def execControlEndDut (frame : RxFrame) (s : State) : Result := act s
  (frameEvent frame
    (pickControl fun c => match c with
      | .endDut => some ()
      | _ => none)
    fun x s => controlEndDut x.1 x.2.1 (heard s))

/-- CONTROL_CLEAR_HOLD (R35), with the level of the supervisor key-switch. -/
def execControlClearHold (frame : RxFrame) (keyActive : Bool) (s : State) : Result := act s
  (frameEvent frame
    (pickControl fun c => match c with
      | .clearHold => some ()
      | _ => none)
    fun x s => controlClearHold x.1 x.2.1 keyActive (heard s))

/-- CONTROL_TAKE_SUMMARY (R36, R173); where the flush of the command before it took the exchange in, none is left to
make (R174, log 36). -/
def execControlTakeSummary (frame : RxFrame) (s : State) : Result := act s fun s =>
  (frameEvent frame
    (pickControl fun c => match c with
      | .takeSummary => some ()
      | _ => none)
    (fun _ s => if s.taken then heard s else takeSummary (heard s)) s).setTaken false

/-- CONTROL_MALFORMED (R30). -/
def execControlMalformed (frame : RxFrame) (s : State) : Result := act s
  (frameEvent frame pickBadControl fun x s =>
    let s1 := heard s
    answerControl x.1 x.2 .invalid (freePlaces s1) s1)

/-- QUERY (R37). -/
def execQuery (frame : RxFrame) (s : State) : Result := act s
  (frameEvent frame pickQuery fun p s => answerQuery p (heard s))

/-- CONFIGURE_RACK (R39). -/
def execConfigureRack (frame : RxFrame) (s : State) : Result := act s
  (frameEvent frame
    (pickConfigure fun c => match c with
      | .rack r => some r
      | _ => none)
    fun x s => configure x.1 (configureRack x.2) (heard s))

/-- CONFIGURE_SUPPLY (R111). -/
def execConfigureSupply (frame : RxFrame) (s : State) : Result := act s
  (frameEvent frame
    (pickConfigure fun c => match c with
      | .supply r => some r
      | _ => none)
    fun x s => configure x.1 (configureSupply x.2) (heard s))

/-- CONFIGURE_LIGHT (R140). -/
def execConfigureLight (frame : RxFrame) (s : State) : Result := act s
  (frameEvent frame
    (pickConfigure fun c => match c with
      | .light n r => some (n, r)
      | _ => none)
    fun x s => configure x.1 (configureLight x.2.1 x.2.2) (heard s))

/-- CONFIGURE_OPERATOR (R192). -/
def execConfigureOperator (frame : RxFrame) (s : State) : Result := act s
  (frameEvent frame
    (pickConfigure fun c => match c with
      | .operator r => some r
      | _ => none)
    fun x s => configure x.1 (configureOperator x.2) (heard s))

/-- CONFIGURE_MESSAGE (R115). -/
def execConfigureMessage (frame : RxFrame) (s : State) : Result := act s
  (frameEvent frame
    (pickConfigure fun c => match c with
      | .message m => some m
      | _ => none)
    fun x s => configure x.1 (configureMessage x.2) (heard s))

/-- CONFIGURE_CAPTURE (R128). -/
def execConfigureCapture (frame : RxFrame) (s : State) : Result := act s
  (frameEvent frame
    (pickConfigure fun c => match c with
      | .capture m => some m
      | _ => none)
    fun x s => configure x.1 (configureCapture x.2) (heard s))

/-- CONFIGURE_INVALID (R38). -/
def execConfigureInvalid (frame : RxFrame) (s : State) : Result := act s
  (frameEvent frame pickBadConfigure fun reference s =>
    let s1 := heard s
    receipt .configure reference .invalid (freePlaces s1) s1)

/-- LINE_PRESENCE_EXPIRY (R40). -/
def execLinePresenceExpiry (s : State) : Result := act s fun s =>
  if s.oi.presence.isSome then
    let s1 := s.setOi { s.oi with presence := none }
    if s1.spu.rail ≠ .off ∨ s1.ckr.isSome ∨ s1.oi.queue ≠ [] then
      settle (endDut true (s1.setOi { s1.oi with lineLost := true }))
    else s1
  else s

/-- CHECK_START (R21). A check starts within the step that makes its conditions hold, so that this event finds them
only in a state given from outside (log 13). -/
def execCheckStart (s : State) : Result := act s fun s =>
  match s.oi.queue with
  | o :: rest => if mayStart s then settle (startCheck o rest s) else s
  | [] => s

end Sys2Proof.Machine
end

