-- ==== Sys2Proof/Machine/ResetEvents.lean ====
section
/-! DEFINITION. The meanings of the three resets (R18, R195). -/

namespace Sys2Proof.Machine

/-- Every block in reset with the straps as given; the inputs and the waiting commands are not the part's. -/
def resetTo (slot : BitVec 4) (group : BitVec 2) (s : State) : State :=
  State.resetWith slot group s.spu.outputMv s.clock s.choices s.pending

/-- POWER_ON_RESET (R18, R20, R41, R66, R93, R112, R135, R153, R164, R177, R193); a reset pin held low still holds the
part (log 21). -/
def execPowerOnReset (slot : BitVec 4) (group : BitVec 2) (s : State) : Result :=
  .next ((resetTo slot group s).setResetHeld s.resetHeld)

/-- RESET_PIN_LOW (R195): a low level of 10 µs or more holds every block in reset; a shorter one has no effect. -/
def execResetPinLow (lowUs : Nat) (s : State) : Result :=
  .next (if lowUs < Config.resetLowUs then s else (resetTo s.rli.slot s.rli.group s).setResetHeld true)

/-- RESET_PIN_RELEASE (R195): the straps are read and the part starts as after a power-on reset. -/
def execResetPinRelease (slot : BitVec 4) (group : BitVec 2) (s : State) : Result :=
  .next (if s.resetHeld then resetTo slot group s else s)

end Sys2Proof.Machine
end

