-- ==== Sys2Proof/Machine/SupplyEvents.lean ====
section
/-! DEFINITION. The meanings of the Supply Unit's events (chapter 5). -/

namespace Sys2Proof.Machine

/-- RAMP_COMPLETE (R96, R107, R109, R117). -/
def execRampComplete (s : State) : Result := act s fun s =>
  if s.spu.rail = .ramping then settle (rampDone s) else s

/-- SLEW_COMPLETE (R97). -/
def execSlewComplete (s : State) : Result := act s fun s =>
  if s.spu.rail = .slewing then settle (reportOn false (arriveOn s)) else s

/-- CRANK_DIP_END (R98): the recovery begins; it is over at once when the dip level is the setpoint. -/
def execCrankDipEnd (s : State) : Result := act s fun s =>
  if s.spu.crankHolds then
    let s1 := crankRecovery s
    if s1.spu.effective = s1.spu.setpoint then settle (reportOn false (arriveOn s1)) else s1
  else s

/-- CRANK_RECOVERY_COMPLETE (R98). -/
def execCrankRecoveryComplete (s : State) : Result := act s fun s =>
  if s.spu.crankRecovers then settle (reportOn false (arriveOn s)) else s

/-- DISCHARGE_BELOW_THRESHOLD (R101): a reading of the output below 500 mV. -/
def execDischargeBelowThreshold (outputMv : Nat) (s : State) : Result := act s fun s =>
  if s.spu.rail = .discharging then
    let s1 := s.setSpu { s.spu with outputMv := outputMv }
    if outputMv < Config.dischargedBelowMv then settle (reportOff (arriveOff s1)) else s1
  else s

/-- DISCHARGE_TIMER_EXPIRY (R101). -/
def execDischargeTimerExpiry (s : State) : Result := act s fun s =>
  if s.spu.rail = .discharging then settle (reportOff (arriveOff s)) else s

/-- The response to SHORT and OVERCURRENT (R105), its parts in the order of its numbers (log 47). -/
def supplyFault (s : State) : State :=
  settle (releaseClaim .spu .inrush (terminate .dutFault id (enterFaultOff s)))

/-- SHORT (R103): not while half the effective setpoint is 0 mV. -/
def execShort (s : State) : Result := act s fun s =>
  if s.spu.rail.outputOn && s.spu.shortPossible then supplyFault s else s

/-- OVERCURRENT (R103). -/
def execOvercurrent (s : State) : Result := act s fun s =>
  if s.spu.rail.outputOn then supplyFault s else s

/-- OVERVOLTAGE (R104, R108): SAFE, a retry's claim released before SUPPLY_SAFE is raised (log 46); which of the two
reports is taken first is open (R90, log 8). -/
def execOvervoltage (s : State) : Result := act s fun s =>
  if s.spu.rail.outputOn then
    let s1 := enterSafe s
    if s1.ckr.isSome then
      let c := takeFirst s1
      settle (raiseHold .supplySafe (if c.1 then terminate .dutFault id c.2 else c.2))
    else settle (raiseHold .supplySafe s1)
  else s

/-- OFF_TIMER_EXPIRY (R106): a retry, in WAIT_INRUSH before its claim is announced (log 47), or SAFE. -/
def execOffTimerExpiry (s : State) : Result := act s fun s =>
  if s.spu.rail = .faultOff ∧ s.spu.offTimer.isSome then
    let s1 := s.setSpu { s.spu with offTimer := none }
    if s1.spu.retryCount < s1.spu.cfg.retryLimit then
      let s2 := railTo .waitInrush (s1.setSpu { s1.spu with retryCount := s1.spu.retryCount + 1 })
      settle (requestClaim ⟨.inrush, s2.oi.rack.inrush, .spu⟩ s2)
    else settle (retryToSafe s1)
  else s

/-- RECOVERY_TIMER_EXPIRY (R109). -/
def execRecoveryTimerExpiry (s : State) : Result := act s fun s =>
  if s.spu.recovery.isSome then s.setSpu { s.spu with recovery := none, retryCount := 0 } else s

end Sys2Proof.Machine
end

