-- ==== Sys2Proof/Machine/Dispatch.lean ====
section
/-! DEFINITION. One arm per command, each one direct call of its meaning. -/

namespace Sys2Proof.Machine

def exec (i : Instr) (s : State) : Host.Outcome State Fault Refusal :=
  match i with
  | .powerOnReset slot group => Sys2Proof.Machine.execPowerOnReset slot group s
  | .resetPinLow lowUs => Sys2Proof.Machine.execResetPinLow lowUs s
  | .resetPinRelease slot group => Sys2Proof.Machine.execResetPinRelease slot group s
  | .lineDominant => Sys2Proof.Machine.execLineDominant s
  | .syncIdleEnd => Sys2Proof.Machine.execSyncIdleEnd s
  | .idleGapEnd => Sys2Proof.Machine.execIdleGapEnd s
  | .positionStart position => Sys2Proof.Machine.execPositionStart position s
  | .windowEnd => Sys2Proof.Machine.execWindowEnd s
  | .readbackDifference => Sys2Proof.Machine.execReadbackDifference s
  | .frameSentInFull => Sys2Proof.Machine.execFrameSentInFull s
  | .frameDiscarded frame => Sys2Proof.Machine.execFrameDiscarded frame s
  | .ownSlotFrame frame => Sys2Proof.Machine.execOwnSlotFrame frame s
  | .peerReplyFrame frame => Sys2Proof.Machine.execPeerReplyFrame frame s
  | .announceReceived frame => Sys2Proof.Machine.execAnnounceReceived frame s
  | .order frame => Sys2Proof.Machine.execOrder frame s
  | .controlAbort frame => Sys2Proof.Machine.execControlAbort frame s
  | .controlRestart frame => Sys2Proof.Machine.execControlRestart frame s
  | .controlBeginDut frame => Sys2Proof.Machine.execControlBeginDut frame s
  | .controlEndDut frame => Sys2Proof.Machine.execControlEndDut frame s
  | .controlClearHold frame keyActive => Sys2Proof.Machine.execControlClearHold frame keyActive s
  | .controlTakeSummary frame => Sys2Proof.Machine.execControlTakeSummary frame s
  | .controlMalformed frame => Sys2Proof.Machine.execControlMalformed frame s
  | .query frame => Sys2Proof.Machine.execQuery frame s
  | .configureRack frame => Sys2Proof.Machine.execConfigureRack frame s
  | .configureSupply frame => Sys2Proof.Machine.execConfigureSupply frame s
  | .configureLight frame => Sys2Proof.Machine.execConfigureLight frame s
  | .configureOperator frame => Sys2Proof.Machine.execConfigureOperator frame s
  | .configureMessage frame => Sys2Proof.Machine.execConfigureMessage frame s
  | .configureCapture frame => Sys2Proof.Machine.execConfigureCapture frame s
  | .configureInvalid frame => Sys2Proof.Machine.execConfigureInvalid frame s
  | .linePresenceExpiry => Sys2Proof.Machine.execLinePresenceExpiry s
  | .checkStart => Sys2Proof.Machine.execCheckStart s
  | .announceTimerExpiry => Sys2Proof.Machine.execAnnounceTimerExpiry s
  | .peerStale slot => Sys2Proof.Machine.execPeerStale slot s
  | .claimSettleExpiry => Sys2Proof.Machine.execClaimSettleExpiry s
  | .claimWaitExpiry => Sys2Proof.Machine.execClaimWaitExpiry s
  | .audibleWaitExpiry => Sys2Proof.Machine.execAudibleWaitExpiry s
  | .inrushHoldExpiry => Sys2Proof.Machine.execInrushHoldExpiry s
  | .checkSettleExpiry => Sys2Proof.Machine.execCheckSettleExpiry s
  | .rampComplete => Sys2Proof.Machine.execRampComplete s
  | .slewComplete => Sys2Proof.Machine.execSlewComplete s
  | .crankDipEnd => Sys2Proof.Machine.execCrankDipEnd s
  | .crankRecoveryComplete => Sys2Proof.Machine.execCrankRecoveryComplete s
  | .dischargeBelowThreshold outputMv => Sys2Proof.Machine.execDischargeBelowThreshold outputMv s
  | .dischargeTimerExpiry => Sys2Proof.Machine.execDischargeTimerExpiry s
  | .short => Sys2Proof.Machine.execShort s
  | .overcurrent => Sys2Proof.Machine.execOvercurrent s
  | .overvoltage => Sys2Proof.Machine.execOvervoltage s
  | .offTimerExpiry => Sys2Proof.Machine.execOffTimerExpiry s
  | .recoveryTimerExpiry => Sys2Proof.Machine.execRecoveryTimerExpiry s
  | .slotDue slot => Sys2Proof.Machine.execSlotDue slot s
  | .canAttemptStart => Sys2Proof.Machine.execCanAttemptStart s
  | .canAttemptEnd outcome => Sys2Proof.Machine.execCanAttemptEnd outcome s
  | .clusterFrameReceived frame => Sys2Proof.Machine.execClusterFrameReceived frame s
  | .lightBlockComplete channel samples => Sys2Proof.Machine.execLightBlockComplete channel samples s
  | .rangeTimerExpiry channel => Sys2Proof.Machine.execRangeTimerExpiry channel s
  | .lightWindowRerange channel samples => Sys2Proof.Machine.execLightWindowRerange channel samples s
  | .lightWindowComplete channel samples => Sys2Proof.Machine.execLightWindowComplete channel samples s
  | .currentWindowComplete samples => Sys2Proof.Machine.execCurrentWindowComplete samples s
  | .soundWindowComplete samples => Sys2Proof.Machine.execSoundWindowComplete samples s
  | .keyDigit digit => Sys2Proof.Machine.execKeyDigit digit s
  | .keyClear => Sys2Proof.Machine.execKeyClear s
  | .keyPass => Sys2Proof.Machine.execKeyPass s
  | .keyFail => Sys2Proof.Machine.execKeyFail s
  | .lookTimerExpiry => Sys2Proof.Machine.execLookTimerExpiry s
  | .promptTimerExpiry => Sys2Proof.Machine.execPromptTimerExpiry s
  | .abandonedRemainderEnd frame => Sys2Proof.Machine.execAbandonedRemainderEnd frame s

end Sys2Proof.Machine
end

