-- ==== Sys2Proof/Machine/Tick.lean ====
section
/-! DEFINITION. What a step does with no command waiting (log 3): an event that is due is put in the queue, one at a
time and in an order that is free (log 4); with none due one millisecond passes, in which timers, ages, profiles and
samples move on. An expired timer and a finished profile are due as long as the state says so, so that an event that
another one has overtaken is never taken late; the events that a millisecond's samples and due times bring are held in
`arrived`. -/

namespace Sys2Proof.Machine

/-! ## What is due -/

/-- An event when its timer has run out. -/
def whenOut (t : Option Nat) (e : Instr) : List Instr := if t = some 0 then [e] else []

/-- An event under a condition. -/
def whenTrue (b : Bool) (e : Instr) : List Instr := if b then [e] else []

/-- The own claim's timers (R54, R60). -/
def OwnClaim.due (c : OwnClaim) : List Instr :=
  if c.granted then []
  else whenTrue (c.settle == .running 0) .claimSettleExpiry ++ whenOut c.wait .claimWaitExpiry

/-- The entries that have grown too old to stay LIVE (R47). -/
def staleDue (s : State) : List Instr :=
  (List.finRange 16).flatMap fun (n : Fin 16) =>
    let e := entryAt s.clu.peers n .reset
    whenTrue (n.val != s.rli.slot.toNat && e.liveness == .live && tooOld s e.age) (.peerStale n)

/-- The CLU's timers (R43, R47, R54, R60, R64). -/
def cluDue (s : State) : List Instr :=
  whenOut s.clu.announceTimer .announceTimerExpiry ++ staleDue s ++ (s.clu.claim.map OwnClaim.due).getD [] ++
    whenOut s.clu.audible .audibleWaitExpiry

/-- The check record's timers (R73, R79). -/
def CheckRecord.due (c : CheckRecord) : List Instr :=
  whenOut c.holdTimer .inrushHoldExpiry ++
    if c.stage = .settling then whenOut c.stageTimer .checkSettleExpiry else []

/-- The profile that has arrived (R96 to R98). -/
def Spu.profileDue (u : Spu) : List Instr :=
  match u.rail with
  | .ramping => whenTrue (u.effective == u.setpoint) .rampComplete
  | .slewing => whenTrue (u.effective == u.setpoint) .slewComplete
  | .cranking =>
    match u.crank with
    | none => []
    | some c =>
      match c.hold with
      | some t => whenTrue (t == 0) .crankDipEnd
      | none => whenTrue (u.effective == u.setpoint) .crankRecoveryComplete
  | _ => []

/-- The fault whose filter has reached its time; OVERVOLTAGE is taken before SHORT or OVERCURRENT (R103, R104). DESIGN
CHOICE (log 41): 10, 20 and 200 samples reach 1, 2 and 20 ms, the first on which the condition holds counted as 100 µs.
-/
def Spu.faultDue (u : Spu) : List Instr :=
  if !u.rail.outputOn then []
  else if u.overVoltageCount ≥ 10 then [.overvoltage]
  else if u.shortCount ≥ 20 && u.shortPossible then [.short]
  else if u.overCurrentCount ≥ 200 then [.overcurrent]
  else []

/-- The SPU's profile, monitors and timers (R96 to R109). -/
def Spu.due (u : Spu) : List Instr :=
  u.profileDue ++ u.faultDue ++
    (if u.rail = .faultOff then whenOut u.offTimer .offTimerExpiry else []) ++
    (if u.rail = .discharging then whenOut u.dischargeTimer .dischargeTimerExpiry else []) ++
    whenOut u.recovery .recoveryTimerExpiry

/-- A channel's range timer (R147). -/
def LightChannel.due (c : LightChannel) (n : Fin 8) : List Instr :=
  if c.state = .ranging ∨ c.state = .locked then whenOut c.rangeTimer (.rangeTimerExpiry n) else []

/-- The OPU's timers (R185, R189). -/
def Opu.due (o : Opu) : List Instr :=
  whenOut o.lookTimer .lookTimerExpiry ++
    if o.state = .challenge ∨ o.state = .yesNo then whenOut o.promptTimer .promptTimerExpiry else []

/-- The events that the state says are due. -/
def dueEvents (s : State) : List Instr :=
  whenOut s.oi.presence .linePresenceExpiry ++ cluDue s ++ (s.ckr.map CheckRecord.due).getD [] ++ s.spu.due ++
    ((List.finRange 8).flatMap fun (n : Fin 8) => (entryAt s.ltu n .reset).due n) ++ s.opu.due

/-! ## One millisecond -/

/-- A running timer with one ms less. -/
def countDown (t : Option Nat) : Option Nat := t.map (· - 1)

/-- An age with one ms more (R47, R128). -/
def older (age : Nat) : Nat := min (age + 1) Config.ageMax

/-- A peer entry's ms (R47). -/
def PeerEntry.tick (e : PeerEntry) : PeerEntry :=
  if e.liveness = .absent then e else { e with age := older e.age }

/-- A capture slot's ms (R128). -/
def CaptureSlot.tick (c : CaptureSlot) : CaptureSlot := if c.defined then { c with age := older c.age } else c

/-- The settle with one ms less. -/
def Settle.tick : Settle → Settle
  | .running n => .running (n - 1)
  | x => x

/-- The own claim's ms (R54, R60). -/
def OwnClaim.tick (c : OwnClaim) : OwnClaim := { c with settle := c.settle.tick, wait := countDown c.wait }

/-- The CLU's ms (R43, R47, R54, R60, R64). -/
def Clu.tick (c : Clu) : Clu :=
  { c with
    peers := mapEntries PeerEntry.tick c.peers
    announceTimer := countDown c.announceTimer
    audible := countDown c.audible
    claim := c.claim.map OwnClaim.tick }

/-- The check record's ms (R73, R79). -/
def CheckRecord.tick (c : CheckRecord) : CheckRecord :=
  { c with holdTimer := countDown c.holdTimer, stageTimer := countDown c.stageTimer }

/-- A level moved toward another by a rate, not past it (R95). -/
def moveToward (rate target level : Nat) : Nat :=
  if level < target then min target (level + rate) else max target (level - rate)

/-- The ms of a profile (R95 to R98). -/
def Spu.profile (u : Spu) : Spu :=
  match u.rail with
  | .ramping => { u with effective := moveToward u.rate u.setpoint u.effective }
  | .slewing => { u with effective := moveToward u.rate u.setpoint u.effective }
  | .cranking =>
    match u.crank with
    | none => u
    | some c =>
      match c.hold with
      | some t => { u with crank := some { c with hold := some (t - 1) } }
      | none => { u with effective := moveToward c.rate u.setpoint u.effective }
  | _ => u

/-- The current delivered at a sample: at most the limit, 0 with the source disconnected (R102, R110). -/
def Spu.currentAt (u : Spu) (i : Nat) : Nat :=
  if u.rail.outputOn then min (Config.loadMaAt i u.drive) u.cfg.limitMa else 0

/-- A fault filter at one sample. -/
def filterStep (holds : Bool) (n : Nat) : Nat := if holds then n + 1 else 0

/-- One 100 µs sample of the fault monitors (R102 to R104). -/
def Spu.monitor (u : Spu) (i : Nat) : Spu :=
  if u.rail.outputOn then
    let v := Config.outputMvAt i u.drive
    let limited := u.currentAt i == u.cfg.limitMa
    { u with
      shortCount := filterStep (limited && decide (v < u.effective / 2)) u.shortCount
      overCurrentCount := filterStep limited u.overCurrentCount
      overVoltageCount := filterStep (decide (v > u.effective + 1000)) u.overVoltageCount }
  else u

/-- The samples of one ms, to the first that brings a fault about (log 33). -/
def Spu.monitors : List Nat → Spu → Spu
  | [], u => u
  | i :: is, u => if (u.monitor i).faultDue = [] then Spu.monitors is (u.monitor i) else u.monitor i

/-- The ten samples of the ms n. -/
def samplesOf (n : Nat) : List Nat := (List.range 10).map (10 * n + ·)

/-- The first output reading of the ms that ends a discharge (R101). -/
def dischargeEvents (u : Spu) (n : Nat) : List Instr :=
  if u.rail = .discharging then
    match (samplesOf n).find? fun i => decide (Config.outputMvAt i u.drive < Config.dischargedBelowMv) with
    | some i => [.dischargeBelowThreshold (Config.outputMvAt i u.drive)]
    | none => []
  else []

/-- The SPU's ms. DESIGN CHOICE (log 41): the profile moves first, and the ten samples are tested against the level that
it has reached. -/
def Spu.tick (u : Spu) (n : Nat) : Spu :=
  let m := Spu.monitors (samplesOf n) u.profile
  { m with
    offTimer := countDown u.offTimer
    dischargeTimer := countDown u.dischargeTimer
    recovery := countDown u.recovery
    outputMv := Config.outputMvAt (10 * n + 9) m.drive }

/-- The current sample handed over for the ms n: the mean of the ten readings of that ms, taken, as the fault monitors
take them, at the level that the profile has reached (R110; log 41). -/
def Spu.currentOf (u : Spu) (n : Nat) : Nat := roundHalfUp ((samplesOf n).map u.profile.currentAt).sum 10

/-- Whether a periodic slot falls due t ms after the schedule's zero (R117). -/
def MessageSlot.dueAt (m : MessageSlot) (t : Nat) : Bool :=
  m.defined && m.period != 0 && decide (m.phase ≤ t) && (t - m.phase) % m.period == 0

/-- The BEM's ms (R117, R128). -/
def Bem.tick (b : Bem) : Bem :=
  { b with schedule := b.schedule.map (· + 1), captures := mapEntries CaptureSlot.tick b.captures }

/-- The due times of the ms that the schedule has reached (R117). -/
def dueTimes (b : Bem) : List Instr :=
  match b.schedule with
  | none => []
  | some t =>
    (List.finRange 24).flatMap fun (n : Fin 24) => whenTrue ((entryAt b.slots n .undefined).dueAt t) (.slotDue n)

/-- The event that a sample at a channel brings about, if any; it carries the samples that follow in the same ms. -/
def LightChannel.eventOf (c : LightChannel) (n : Fin 8) (raw : Code) (later : List Code) : List Instr :=
  match c.state with
  | .held => []
  | .ranging => whenTrue (decide (c.blockCount + 1 ≥ 16)) (.lightBlockComplete n (raw :: later))
  | .locked => whenTrue (decide (c.blockCount + 1 ≥ 16)) (.lightBlockComplete n (raw :: later))
  | .window =>
    if raw.toNat == 4095 && !c.reranged && decide (c.gain > c.cal.gmin) then [.lightWindowRerange n (raw :: later)]
    else whenTrue (decide (c.count + 1 ≥ c.window)) (.lightWindowComplete n (raw :: later))

/-- The samples of the half ms in the list, each read at the gain that the ones before it have left (R138); they are
taken at once until one brings an event about, which then carries it and the rest. -/
def LightChannel.tickSamples (n : Fin 8) : List Nat → LightChannel → LightChannel × List Instr
  | [], c => (c, [])
  | i :: is, c =>
    let raw := Config.lightCodeAt i n c.gain
    let next := (c.sample raw).1
    match c.eventOf n raw (is.map fun j => Config.lightCodeAt j n next.gain) with
    | [] => LightChannel.tickSamples n is next
    | es => (c, es)

/-- A channel's ms: the range timer, and two samples (R138, R147). -/
def LightChannel.tick (c : LightChannel) (n : Fin 8) (ms : Nat) : LightChannel × List Instr :=
  LightChannel.tickSamples n [2 * ms, 2 * ms + 1] { c with rangeTimer := countDown c.rangeTimer }

/-- The LTU's ms. -/
def tickLtu (ltu : Vector LightChannel 8) (ms : Nat) : Vector LightChannel 8 × List Instr :=
  (List.finRange 8).foldl
    (fun p (n : Fin 8) =>
      let r := (entryAt p.1 n .reset).tick n ms
      (setEntry p.1 n r.1, p.2 ++ r.2))
    (ltu, [])

/-- The CSU's ms (R110, R155). -/
def Csu.tick (c : Csu) (ma : Nat) (sound : Code) : Csu × List Instr :=
  match c.window with
  | .idle => (c, [])
  | .current =>
    if c.count + 1 ≥ c.length then (c, [.currentWindowComplete [ma]]) else ((c.currentSample ma).1, [])
  | .sound =>
    if c.count + 1 ≥ c.length then (c, [.soundWindowComplete [sound]]) else ((c.soundSample sound).1, [])

/-- The OPU's ms (R185, R189). -/
def Opu.tick (o : Opu) : Opu := { o with lookTimer := countDown o.lookTimer, promptTimer := countDown o.promptTimer }

/-- Every block after one ms, with what its samples and due times brought. -/
def passMs (s : State) : State :=
  let ms := s.clock
  let bem := s.bem.tick
  let ltu := tickLtu s.ltu ms
  let csu := s.csu.tick (s.spu.currentOf ms) (Config.soundCodeAt ms)
  { s with
    oi := { s.oi with presence := countDown s.oi.presence }
    clu := s.clu.tick
    ckr := s.ckr.map CheckRecord.tick
    spu := s.spu.tick ms
    bem := bem
    ltu := ltu.1
    csu := csu.1
    opu := s.opu.tick
    clock := ms + 1
    arrived := dischargeEvents s.spu ms ++ dueTimes bem ++ ltu.2 ++ csu.2 }

/-! ## With no command waiting -/

/-- One of the events that wait put at the end of the queue, by a free choice; one that a ms brought then waits no more.
-/
def takeEvent (es : List Instr) (s : State) : State :=
  let i := Config.tickPick s.choices % es.length
  match es[i]? with
  | none => s
  | some c =>
    { s with choices := s.choices + 1, arrived := s.arrived.eraseIdx i, pending := s.pending ++ [c] }

/-- An event that waits is put in the queue, or one millisecond passes; a part held in reset only sees it pass (R195).
-/
def tick (s : State) : State :=
  if s.resetHeld then s.setClock (s.clock + 1)
  else if s.arrived ++ dueEvents s = [] then passMs s
  else takeEvent (s.arrived ++ dueEvents s) s

end Sys2Proof.Machine
end

