-- ==== Sys2Proof/Machine/Step.lean ====
section
/-! DEFINITION. The step: the command at the front of the queue is taken; with none waiting, an event that is due is put
there, or one millisecond passes. -/

namespace Sys2Proof.Machine

/-- The command at the front carried out on the state with the queue's rest; on an empty queue an event that is due is
put there, or a ms passes (log 3). -/
def step (s : State) : Host.Outcome State Fault Refusal :=
  match s.pending with
  | c :: rest => exec c (s.setPending rest)
  | [] => .next (tick s)

/-- The command that a word spells put at the front of the queue; no word spells one here (log 23). -/
def State.withFetchWord (s : State) (nbits w : Nat) : State :=
  match decodeTableWord nbits w with
  | some c => s.setPending (c :: s.pending)
  | none => s

end Sys2Proof.Machine
end

