-- ==== Sys2Proof/Safety.lean ====
section
/-! DEFINITION. What a claim may ask of every state: the bounds and the exclusions that the manual states of the whole
part. -/

namespace Sys2Proof.Machine

/-- The capacities: order queue, reply queue and verdict ring (R16, R29, R169). -/
def Capacities (s : State) : Prop :=
  s.oi.queue.length ≤ Config.queueSize ∧ s.rli.replies.length ≤ Config.replySize ∧
    s.vdu.ring.length ≤ Config.ringSize

/-- A failing class is marked exactly when the failed count is not 0 (R172). -/
def Summary.FailCounted (m : Summary) : Prop := m.mask &&& failingMarks ≠ 0 ↔ 1 ≤ m.failed

/-- No more failed than judged, and a first failed id exactly when some record failed (R171, R172). -/
def Summary.Consistent (m : Summary) : Prop :=
  m.FailCounted ∧ m.failed ≤ m.judged ∧ m.judged ≤ 65535 ∧ (m.firstFailed.isSome ↔ 1 ≤ m.failed)

/-- A station off the line holds no frame to send (R17). -/
def Rli.SilentEmpty (r : Rli) : Prop :=
  r.silent = true → r.buffer = none ∧ r.replies = [] ∧ r.contention.sending = false

/-- The error count lies within 0 to 16 (R190). -/
def Opu.CountBounded (o : Opu) : Prop := o.errors ≤ Config.errorMax

/-- With the output off the effective setpoint is 0 mV (R94, R95). -/
def Spu.OffIsZero (u : Spu) : Prop := u.rail.outputOn = false → u.effective = 0

/-! ## Words that the claims share -/

/-- An outcome that is a next state for which P holds. -/
def Reaches (o : Result) (P : State → Prop) : Prop := ∃ t, o = .next t ∧ P t

/-- A frame ends at a station that is not sending and not held in reset, and the RLI takes it as x (R6 to R8); in the
conditions other than BUSY by the model's choice (log 37). -/
def Ends (s : State) (f : RxFrame) (x : Received) : Prop :=
  s.resetHeld = false ∧ s.rli.contention.sending = false ∧ classify s.rli f = x

/-- An intact frame of another station has ended: GAP, the fairness flag clear (R9, R13). -/
def ended (s : State) : State := s.setRli (s.rli.frameEnd true)

/-- A frame of the line station has ended and reached the OI: the presence timer reloaded, LINE_LOST clear (R40). -/
def heardFrame (s : State) : State := heard (ended s)

/-- The check that was in flight in s has ended in t with one verdict record of this content (R83, R86, R168 to R171).
-/
def Judged (s t : State) (x : VerdictContent) : Prop :=
  t.ckr = none ∧ t.vdu.ring = joinRing s.vdu.ring ⟨x, s.bem.current, s.vdu.seq + 1⟩ ∧
    t.vdu.summary = s.vdu.summary.merge x.checkId x.outcome ∧ t.vdu.seq = s.vdu.seq + 1 ∧
    t.vdu.lastJudged = x.checkId ∧ t.clu.noisy = false

/-- The records that the VDU forms from contents, in order, after the sequence number n (R168). -/
def recordsOf (identity : Identity) : Half → List VerdictContent → List VerdictRecord
  | _, [] => []
  | n, x :: xs => ⟨x, identity, n + 1⟩ :: recordsOf identity (n + 1) xs

/-- No TAKE_SUMMARY stands at the front of the queue. -/
def NoTakeNext (s : State) : Prop := ∀ f rest, s.pending ≠ .controlTakeSummary f :: rest

/-- Between s and t the VDU has formed a record from each of these contents, in order, and merged them into the summary;
a TAKE_SUMMARY next in the queue may fall between two of them (R29, R168, R169, R171, R174). -/
def Formed (s t : State) (xs : List VerdictContent) : Prop :=
  t.vdu.ring = (recordsOf s.bem.current s.vdu.seq xs).foldl joinRing s.vdu.ring ∧
    t.vdu.seq = s.vdu.seq + BitVec.ofNat 16 xs.length ∧
    t.vdu.lastJudged = (xs.getLast?.map (·.checkId)).getD s.vdu.lastJudged ∧
    (NoTakeNext s → t.vdu.summary = xs.foldl (fun m x => m.merge x.checkId x.outcome) s.vdu.summary)

/-- The content of the NOT_RUN record of a flushed order: no value, gain, auxiliary or attempts, the measurement kind of
the order, CLAMPED as the order record has it, LINE_LOST in a flush by the presence timer (R29, R167). -/
def OrderRec.contentFlushed (o : OrderRec) (lineLost : Bool) : VerdictContent :=
  ⟨o.checkId, .notRun, none, o.kind, none, none, { clamped := o.clamped, lineLost := lineLost }, none⟩

/-- The NOT_RUN contents of the whole queue, oldest first. -/
def State.flushed (s : State) (lineLost : Bool) : List VerdictContent := s.oi.queue.map (·.contentFlushed lineLost)

/-- The content of a check that an event ends: no value, no auxiliary, no attempts; the gain it has (R83). -/
def CheckRecord.contentEndedBy (k : CheckRecord) (v : Verdict) (flags : VerdictFlags) : VerdictContent :=
  ⟨k.order.checkId, v, none, k.order.kind, k.gain, none, flags, none⟩

/-- A check waits for something that only an event brings (R70, R71). -/
def CheckRecord.Waits (c : CheckRecord) : Prop :=
  c.stage = .measuring ∨ (c.stage = .stimulating ∧ c.waitsOn ≠ .none) ∨
    (c.stage = .prompting ∧ c.waitsOn ≠ .none) ∨ (c.stage = .settling ∧ c.stageTimer.isSome = true)

/-- No check is in flight, none is queued, and the station is not RUNNING. -/
def AtRest (s : State) : Prop := s.ckr = none ∧ s.oi.queue = [] ∧ s.oi.station ≠ .running

/-- Nothing comes about by itself: the station is at rest, or its check waits. -/
def Still (s : State) : Prop := AtRest s ∨ ∃ c, s.ckr = some c ∧ c.Waits

/-- The transmit queue stands in order of identifier and slot, with at most one instance of a slot (R120). -/
def Bem.QueueOrdered (b : Bem) : Prop := b.queue.Pairwise fun x y => x.before y = true ∧ x.slot ≠ y.slot

/-- A channel's gain code lies within Gmin to Gmax, and these within 0 to 47 (R139, R140). -/
def LightChannel.GainInRange (c : LightChannel) : Prop := c.cal.gmin ≤ c.gain ∧ c.gain ≤ c.cal.gmax ∧ c.cal.gmax ≤ 47

/-- An error count above the limit in force stands only in HOLD with OPERATOR_LIMIT, or in SILENT (R190); an
UNCONFIGURED station has no order, no prompt and no error to count (R20, R24, R193). -/
def ErrorsHeld (s : State) : Prop :=
  (s.opu.cfg.errorLimit < s.opu.errors →
    (s.oi.station = .hold ∧ s.oi.limitHold = true) ∨ s.oi.station = .silent) ∧
  (s.oi.station = .unconfigured → s.ckr = none ∧ s.oi.queue = [] ∧ s.opu.state = .idle ∧ s.opu.errors = 0)

/-- The capacities, counts, orders and ranges of the whole part, which every step keeps. -/
def Bounded (s : State) : Prop :=
  Capacities s ∧ s.vdu.summary.Consistent ∧ s.opu.CountBounded ∧ s.bem.QueueOrdered ∧
    s.bem.unacked ≤ Config.unackedLimit ∧ (∀ n : Fin 8, s.ltu[n].GainInRange) ∧ ErrorsHeld s

/-- No SUPPLY_SET of an order asks for more than 18000 mV (R27). -/
def OrderRec.LevelsBounded (o : OrderRec) : Prop := ∀ target rate, .supplySet target rate ∈ o.actions → target ≤ 18000

/-- The setpoint and the effective setpoint never exceed 18000 mV, nor does a level that an order holds (R27, R94). -/
def LevelsBounded (s : State) : Prop :=
  s.spu.setpoint ≤ 18000 ∧ s.spu.effective ≤ 18000 ∧ (∀ o ∈ s.oi.queue, o.LevelsBounded) ∧
    ∀ k, s.ckr = some k → k.order.LevelsBounded

/-- A light channel out of HELD serves the LIGHT measurement of the check in flight on that channel, so that there is at
most one (R137), and an open window the CURRENT or SOUND measurement (R155). -/
def OneMeasurement (s : State) : Prop :=
  (∀ n : Fin 8, s.ltu[n].state ≠ .held → ∃ k l, s.ckr = some k ∧ k.stage = .measuring ∧ k.waitsOn = .measurement ∧
    k.order.meas = some (.light l) ∧ l.channel = n.val) ∧
  (s.csu.window ≠ .idle → ∃ k, s.ckr = some k ∧ k.stage = .measuring ∧ k.waitsOn = .measurement ∧
    ((∃ n, k.order.meas = some (.current n)) ∨ ∃ n th hy, k.order.meas = some (.sound n th hy)))

/-- A station off the line sends nothing, a rail whose output is off asks for 0 mV and none for more than 18000 mV, and
a channel or a window that no check measures with is off; every step keeps all of it. -/
def OffMeansOff (s : State) : Prop := s.rli.SilentEmpty ∧ s.spu.OffIsZero ∧ LevelsBounded s ∧ OneMeasurement s

/-- The rail has arrived at its setpoint (R94, R95). The last output reading stands; where the report came before the
level was there, it is the setpoint by the model's choice (log 6). -/
def Spu.arrived (u : Spu) : Spu :=
  { u with
    rail := .on, effective := u.setpoint, crank := none
    outputMv := if u.effective = u.setpoint then u.outputMv else u.setpoint }

/-- The rail has entered this output-off state: 0 mV, no profile, the filters at 0 (R95, R102). -/
def Spu.sourceOff (u : Spu) (r : RailState) : Spu :=
  { u with rail := r, effective := 0, crank := none, shortCount := 0, overCurrentCount := 0, overVoltageCount := 0 }

/-- The rail has entered DISCHARGING, or OFF where the output already read below 500 mV; off and recovery timers
stopped, no retry (R99 to R101; the reading is the model's, log 6). -/
def Spu.dischargeBegun (u : Spu) : Spu :=
  let d := { u.sourceOff .discharging with offTimer := none, recovery := none, retry := false }
  if u.outputMv < 500 then { d with rail := .off, dischargeTimer := none } else { d with dischargeTimer := some 20 }

/-- The table of R99: what an off request makes of a rail. -/
def Spu.OffAsked (u t : Spu) : Prop :=
  (u.rail = .off ∨ u.rail = .discharging ∨ u.rail = .safe → t = u) ∧
  (u.rail = .waitInrush → u.retry = false → t = u.sourceOff .off) ∧
  (u.rail = .waitInrush ∧ u.retry = true ∨ u.rail = .ramping ∨ u.rail = .on ∨ u.rail = .slewing ∨ u.rail = .cranking ∨
    u.rail = .faultOff → t = u.dischargeBegun)

/-- A check's power-up stands at its setpoint, its arrival not yet taken: the end of the check meets it (R100). -/
def State.ArrivalMeets (s : State) : Prop :=
  s.spu.retry = false ∧ s.spu.rail = .ramping ∧ s.spu.effective = s.spu.setpoint

/-- What the end of a check makes of a rail: its power-up is cancelled, everything else runs on (R87); a ramp that
stands at its setpoint may arrive first, and is then ON (R100). -/
def Spu.PowerUpCancelled (u t : Spu) : Prop :=
  (u.retry = false → u.rail = .waitInrush → t = u.sourceOff .off) ∧
  (u.retry = false → u.rail = .ramping →
    t = u.dischargeBegun ∨ (u.effective = u.setpoint ∧ t = { u.arrived with recovery := some 1000 })) ∧
  (u.retry = true ∨ (u.rail ≠ .waitInrush ∧ u.rail ≠ .ramping) → t = u)

/-- The measurement of a check that ended has been stopped at its unit: the channel HELD at its gain, the CSU IDLE, and
a sample of it that still waited is passed over (R152, R162; what the idle CSU keeps: log 39). -/
def MeasurementStopped (k : CheckRecord) (s t : State) : Prop :=
  k.stage = .measuring →
    (∀ (l : LightMeas) (n : Fin 8), k.order.meas = some (.light l) → l.channel = n.val →
      t.ltu[n].state = .held ∧ t.ltu[n].gain = s.ltu[n].gain ∧ t.ltu[n].cal = s.ltu[n].cal ∧
      (s.ltu[n].state ≠ .held → t.ltu[n].rangeTimer = none) ∧ (∀ i : Fin 8, i ≠ n → t.ltu[i] = s.ltu[i]) ∧
      t.csu = s.csu ∧ t.arrived = s.arrived.filter fun e => !Instr.ofChannel n e) ∧
    ((∃ n, k.order.meas = some (.current n)) ∨ (∃ n th hy, k.order.meas = some (.sound n th hy)) →
      t.csu = { s.csu with
        window := .idle, count := 0, currentSum := 0, armed := false, tones := 0, peak := 0, disturbances := 0 } ∧
      t.ltu = s.ltu ∧ t.arrived = s.arrived.filter fun e => !Instr.ofWindow e)

/-- No check waits for a report of the rail (R88). -/
def NoneWaitsForRail (s : State) : Prop := ∀ k, s.ckr = some k → k.waitsOn ≠ .rail

/-- A check waits for the rail with its last action, and then settles for more than 0 ms with no message to clear and
no claim to take at the entry (R70, R71, R78, R79). -/
def CheckRecord.OnLastRailAction (k : CheckRecord) : Prop :=
  k.stage = .stimulating ∧ k.waitsOn = .rail ∧ k.index + 1 = k.order.actions.length ∧ k.order.settle ≠ 0 ∧
    (∀ b, k.order.meas ≠ some (.busfield b)) ∧ ∀ n t h, k.order.meas ≠ some (.sound n t h)

/-- The record after its last action has finished (R70, R71, R79). -/
def CheckRecord.settlingNow (k : CheckRecord) : CheckRecord :=
  { k with index := k.index + 1, waitsOn := .none, stage := .settling, stageTimer := some k.order.settle }

/-- A check in flight, RUNNING, with no order behind it. -/
def RunsAlone (s : State) (k : CheckRecord) : Prop :=
  s.ckr = some k ∧ s.oi.queue = [] ∧ s.oi.station = .running

/-- The check measures. -/
def CheckRecord.Measures (k : CheckRecord) : Prop := k.stage = .measuring ∧ k.waitsOn = .measurement

/-- The check measures, and goes to JUDGING when its value is judged v: it has no prompt, or v is not PASS (R70, R81).
-/
def CheckRecord.MeasuresLast (k : CheckRecord) (v : Verdict) : Prop :=
  k.Measures ∧ (k.order.prompt = none ∨ v ≠ .pass)

/-- The judgement of a value against limits (R165). -/
def LimitVerdict (low high : Option Int) (v : Int) (o : Verdict) : Prop :=
  ((∃ l, low = some l ∧ v < l) ∧ o = .failLow) ∨
  ((∀ l, low = some l → l ≤ v) ∧ (∃ h, high = some h ∧ h < v) ∧ o = .failHigh) ∨
  ((∀ l, low = some l → l ≤ v) ∧ (∀ h, high = some h → v ≤ h) ∧ o = .pass)

/-- The step of a light block by the four cases of R144. -/
def BlockStep (saturated : Bool) (mean target : Nat) (d : Int) : Prop :=
  (saturated = true ∧ d = -8) ∨ (saturated = false ∧ mean = 0 ∧ d = 8) ∨
  (saturated = false ∧ 0 < mean ∧ mean < target ∧ ∃ k : Nat, k ≤ 8 ∧ d = k ∧
    mean * stepTable k ≤ target * 256 ∧ ∀ j, k < j → j ≤ 8 → target * 256 < mean * stepTable j) ∨
  (saturated = false ∧ 0 < mean ∧ target ≤ mean ∧ ∃ k : Nat, k ≤ 8 ∧ d = -k ∧
    target * stepTable k ≤ mean * 256 ∧ ∀ j, k < j → j ≤ 8 → mean * 256 < target * stepTable j)

/-- x is n divided by d, rounded half away from zero (section 5.3). -/
def RoundsAway (n d x : Int) : Prop :=
  2 * n.natAbs < (2 * x.natAbs + 1) * d.natAbs ∧ 2 * x.natAbs * d.natAbs ≤ 2 * n.natAbs + d.natAbs ∧
    0 ≤ n * d * x

/-- A message slot whose length, counter and checksum lie as a MESSAGE section leaves them (R115). -/
def MessageSlot.Proper (m : MessageSlot) : Prop :=
  m.len ≤ 8 ∧ (∀ k, m.checksum = some k → k < m.len) ∧
    ∀ a l, m.counter = some (a, l) → 1 ≤ l ∧ a + l ≤ 64 ∧ ∀ k, m.checksum = some k → a + l ≤ 8 * k ∨ 8 * k + 8 ≤ a

/-- A snapshot's payload: the counter raised by 1 modulo 2 to its length, then the checksum byte the sum of the other
bytes and the low 8 bits of the identifier; every other bit as it was (R119). -/
def SnapshotOf (m : MessageSlot) (p : Payload) : Prop :=
  (∀ a l, m.counter = some (a, l) → (p >>> a).toNat % 2 ^ l = ((m.payload >>> a).toNat % 2 ^ l + 1) % 2 ^ l) ∧
  (∀ k, m.checksum = some k → (payloadByte p k).toNat =
    ((((List.range m.len).filter (· ≠ k)).map fun i => (payloadByte p i).toNat).sum + m.id) % 256) ∧
  ∀ i, (¬ ∃ a l, m.counter = some (a, l) ∧ a ≤ i ∧ i < a + l) →
    (¬ ∃ k, m.checksum = some k ∧ 8 * k ≤ i ∧ i < 8 * k + 8) → p.getLsbD i = m.payload.getLsbD i

/-- A pattern, bit by bit, has been written into a field of slot n: it is in the payload, every other bit and slot as it
was; an event-only slot that may transmit gives a snapshot of it (R118, R119, R123). -/
def FieldWritten (s t : State) (n : Fin 24) (start len : Nat) (bit : Nat → Bool) : Prop :=
  let m := s.bem.slots[n]
  let mayTransmit := m.period = 0 ∧ m.enabled = true ∧ s.spu.rail.transmits = true ∧ s.bem.silent = false
  (∀ i : Fin 24, i ≠ n → t.bem.slots[i] = s.bem.slots[i]) ∧ ∃ p : Payload,
    (∀ i, i < 64 → p.getLsbD i = if start ≤ i ∧ i < start + len then bit (i - start) else m.payload.getLsbD i) ∧
    (¬ mayTransmit → t.bem = { s.bem with slots := t.bem.slots } ∧ t.bem.slots[n] = { m with payload := p }) ∧
    (mayTransmit → m.Proper → ∃ q, SnapshotOf { m with payload := p } q ∧ t.bem.slots[n].payload = q ∧
      ⟨n, m.id, m.len, q⟩ ∈ t.bem.queue)

/-- The raw value of a FIELD_WRITE before and after it is brought into the range of the field (R122). -/
def FieldWrite.Raw (w : FieldWrite) (exact raw : Int) : Prop :=
  RoundsAway ((w.value - w.offset) * w.num) w.den exact ∧
    raw = if w.signed then max (-2 ^ (w.len - 1)) (min (2 ^ (w.len - 1) - 1) exact)
      else max 0 (min (2 ^ w.len - 1) exact)

/-- A check's record after its FIELD_WRITE (the entry of a field first written without restore: log 42): CLAMPED when
the raw value was changed; where it is to be restored, an entry of the old pattern at the newest end of the list, unless
the field has one (R75, R84). -/
def CheckRecord.wrote (k : CheckRecord) (w : FieldWrite) (clamped : Bool) (old : Payload) : CheckRecord :=
  { k with
    flags := { k.flags with clamped := k.flags.clamped || clamped }
    restore := if w.restore = true ∧ ∀ e ∈ k.restore, ¬ (e.slot = w.slot ∧ e.start = w.start ∧ e.len = w.len) then
      ⟨w.slot, w.start, w.len, old⟩ :: k.restore else k.restore }

/-- BUS_LATE on a record, when a report of it came in the step (R69, R120). -/
def CheckRecord.noted (late : Bool) (k : CheckRecord) : CheckRecord :=
  { k with flags := { k.flags with busLate := k.flags.busLate || late } }

/-- The FIELD_WRITE that a check carries out with its last action has landed in slot n, and the check settles: the field
written, and the record with what the write leaves in it (R71, R75, R84; BUS_LATE, when a report of it came in the
step). -/
def Landed (s t : State) (k : CheckRecord) (w : FieldWrite) (n : Fin 24) : Prop :=
  ∃ exact raw : Int, w.Raw exact raw ∧ FieldWritten s t n w.start w.len (BitVec.ofInt 64 raw).getLsbD ∧
    ∃ late : Bool, t.ckr = some ((k.settlingNow.wrote w (decide (raw ≠ exact))
      (readField s.bem.slots[n].payload w.start w.len)).noted late)

/-- A FIELD_WRITE of a field that message slot n can hold (R25). -/
def FieldWrite.Fits (w : FieldWrite) (s : State) (n : Fin 24) : Prop :=
  w.slot = n.val ∧ s.bem.slots[n].defined = true ∧ 1 ≤ w.len ∧ w.start + w.len ≤ 64 ∧ w.den ≠ 0

/-- A SOUND check waits for QUIET with an audible FIELD_WRITE of slot n, its last action, and settles for more than 0 ms
after it (R78, R79). -/
def CheckRecord.AsksQuietFor (k : CheckRecord) (w : FieldWrite) (s : State) (n : Fin 24) : Prop :=
  k.stage = .stimulating ∧ k.waitsOn = .claim .quiet ∧ (∃ v th hy, k.order.meas = some (.sound v th hy)) ∧
    k.order.actions[k.index]? = some (.fieldWrite w) ∧ w.audible = true ∧ k.index + 1 = k.order.actions.length ∧
    k.order.settle ≠ 0 ∧ w.Fits s n

/-- The fifth restore place and then the restore list, newest first, have been put back (R84, R85); said where no
event-only slot can transmit and no power-up arrives in the step. -/
def Restored (k : CheckRecord) (s t : State) : Prop :=
  ¬ s.ArrivalMeets → (∀ n : Fin 24, s.bem.slots[n].period ≠ 0 ∨ s.bem.slots[n].enabled = false) →
    ∀ n : Fin 24, s.bem.slots[n].defined = true → t.bem.slots[n].payload = (k.fifth.toList ++ k.restore).foldl
      (fun p e => if e.slot = n.val then writeField p e.start e.len e.pattern else p) s.bem.slots[n].payload

/-- The record of a check that has just started (R68); the outcome it carries before it is judged is the model's. -/
def OrderRec.newCheck (o : OrderRec) (late : Bool) : CheckRecord where
  order := o
  stage := .stimulating
  stageTimer := none
  index := 0
  waitsOn := .none
  holdTimer := none
  flags := { clamped := o.clamped, busLate := late }
  value := none
  gain := none
  aux := none
  attempts := none
  judged := .done
  restore := []
  fifth := none

/-- With its last action finished, a check settles for more than 0 ms with no message to clear and no claim to take at
the entry (R70, R78, R79). -/
def CheckRecord.SettlesNext (k : CheckRecord) : Prop :=
  k.index + 1 = k.order.actions.length ∧ k.order.settle ≠ 0 ∧ (∀ b, k.order.meas ≠ some (.busfield b)) ∧
    ∀ n t h, k.order.meas ≠ some (.sound n t h)

/-- A saturated light sample (R138). -/
def saturatedCode (x : Code) : Bool := x.toNat == 4095

/-- The sum of light samples after dark correction (R148). -/
def darkSum (dark : Nat) (xs : List Code) : Nat := (xs.map fun x => x.toNat - dark).sum

/-- RERANGED on the record of a check that measures (R149). -/
def CheckRecord.reported (reranged : Bool) (k : CheckRecord) : CheckRecord :=
  if reranged && k.measures then { k with flags := { k.flags with reranged := true } } else k

/-- A key that makes the attempt fail: too fast, or the fourth digit of a wrong code (R185, R187). -/
def Opu.Fails (o : Opu) (d : Fin 10) : Prop :=
  o.lookTimer.isSome = true ∨
    (o.lookTimer = none ∧ o.entry.length = 3 ∧ digitsToNat (o.entry ++ [d.val]) ≠ o.code)

/-- The OPU has reported a result: timers stopped, lamp dark, the entry and the place discarded (R186 to R189). -/
def Opu.reportedDone (o : Opu) (v : Verdict) : Opu :=
  { o with state := .done, place := none, entry := [], promptTimer := none, lookTimer := none, lamp := false, result := v }

/-- The content of a check whose prompt has given its result (R82, R83). -/
def CheckRecord.contentAnswered (k : CheckRecord) (v : Verdict) (attempts : Option Nat) : VerdictContent :=
  ⟨k.order.checkId, v, k.value, k.order.kind, k.gain, k.aux, k.flags, attempts⟩

/-- A check, its record k, has entered PROMPTING: the prompt is handed to the OPU, which waits for the operator, and
OPERATOR is requested: taken as a PENDING claim with a new ticket and announced, or kept as the deferred request behind
an own claim (R50 to R52, R57, R82, R180). -/
def Prompted (s t : State) (k : CheckRecord) (p : Prompt) : Prop :=
  t.ckr = some { k with stage := .prompting, waitsOn := .claim .operator } ∧
  t.opu = { s.opu with
    state := .waiting, prompt := some p, attempts := 0, entry := [], shown := [], place := t.opu.place } ∧
  t.oi = s.oi ∧ t.vdu = s.vdu ∧ t.spu = s.spu ∧ t.bem = s.bem ∧ t.rli.replies = s.rli.replies ∧
  (s.clu.claim = none →
    let c : OwnClaim := ⟨.operator, newTicket s .operator, false, 0, .ckr, .notBegun, some (s.oi.rack.claimWait * 1000)⟩
    t.clu = { s.clu with claim := some c, lastOperator := newTicket s .operator } ∧
    t.opu.place = some (1 + ((peerClaims s .operator).filter (ahead s c)).length) ∧
    (s.rli.silent = false → ∃ a cls, t.rli.buffer = some (a, cls) ∧ a.claim = some ⟨.operator, c.ticket, false, 0⟩)) ∧
  (∀ c, s.clu.claim = some c → s.clu.deferred = none →
    t.clu = { s.clu with deferred := some ⟨.operator, 0, .ckr⟩ } ∧ t.opu.place = s.opu.place ∧ t.rli = s.rli)

/-- The station of a check that has ended alone is READY (R20). -/
def State.oiReady (s : State) : Oi := { s.oi with station := .ready }

/-! ## Identity halves (R132) -/

/-- The data of a good half 0: byte 0 is 0, then a variant and serial bytes 0 to 3, low bytes first, then the sum. -/
def IsHalf0 (data : List Byte) (h : HeldHalf) : Prop :=
  ∃ a b c d e g : Byte, data = [0, a, b, c, d, e, g, 0 + a + b + c + d + e + g] ∧ h = ⟨b ++ a, g ++ e ++ d ++ c⟩

/-- The data of a good half 1: byte 0 is 1, then serial bytes 4 to 9, then the sum. -/
def IsHalf1 (data : List Byte) : Prop :=
  ∃ a b c d e g : Byte, data = [1, a, b, c, d, e, g, 1 + a + b + c + d + e + g]

/-- The data of a bad half: neither of the good ones. -/
def IsBadHalf (data : List Byte) : Prop := (∀ h, ¬ IsHalf0 data h) ∧ ¬ IsHalf1 data

/-! ## What follows a change of the peer view -/

/-- In the view v, just changed, the command's outcome is what R46, R47, R55, R58 and R63 say. A PENDING own claim whose
settle has PASSED is evaluated: where its condition holds it is GRANTED, its requester goes on and the grant is
announced; a QUIET grant lets the audible write of a SOUND check land with NOISY as it was;
where it fails, and before its settle is over, the claim waits on, and the OPU has the new place of an
OPERATOR claim. A GRANTED claim stands. A waiting audible request waits on while a LIVE peer QUIET claim is in view, and
is answered CLEAR at the first change that leaves none: NOISY is set and announced, and the check's write lands. -/
def ViewActedOn (v : State) (o : Result) : Prop :=
  (∀ c, v.clu.claim = some c → v.clu.audible = none →
    (c.granted = false → c.settle ≠ .passed ∨ grantCondition v c = false → Still v →
      o = .next (if c.resource = .operator then v.setOpu { v.opu with
        place := some (1 + ((peerClaims v .operator).filter (ahead v c)).length) } else v)) ∧
    (c.granted = true → Still v → (c.resource = .quiet → ∀ k, v.ckr = some k → k.stage ≠ .measuring) → o = .next v) ∧
    (c.granted = false → c.settle = .passed → grantCondition v c = true →
      let granted (t : State) : Prop :=
        t.clu = { v.clu with claim := some { c with granted := true, wait := none } } ∧ t.oi = v.oi ∧ t.vdu = v.vdu ∧
        (v.rli.silent = false → ∃ a cls, t.rli.buffer = some (a, cls) ∧
          a.claim = some ⟨c.resource, c.ticket, true, if c.resource = .inrush then c.amount else 0⟩)
      (c.resource = .inrush → v.spu.rail = .waitInrush → 0 < v.spu.setpoint →
        ((c.requester = .spu ∧ v.spu.retry = true ∧ Still v) ∨
          (c.requester = .ckr ∧ ∃ k, v.ckr = some k ∧ k.stage = .stimulating ∧ k.waitsOn = .claim .inrush)) →
        Reaches o fun t => granted t ∧ t.spu.rail = .ramping ∧ t.spu.effective = v.spu.effective ∧
          t.spu.setpoint = v.spu.setpoint ∧ t.opu = v.opu ∧ (c.requester = .spu → t.ckr = v.ckr) ∧
          (∀ k, c.requester = .ckr → v.ckr = some k → t.ckr = some { k with waitsOn := .rail })) ∧
      (∀ k m, c.resource = .quiet → c.requester = .ckr → v.ckr = some k → k.stage = .settling →
        k.waitsOn = .claim .quiet → k.stageTimer = some m →
        Reaches o fun t => granted t ∧ t.ckr = some { k with waitsOn := .none } ∧ t.csu = v.csu ∧ t.opu = v.opu ∧
          t.spu = v.spu ∧ t.bem = v.bem) ∧
      (∀ k w th hy, c.resource = .quiet → c.requester = .ckr → v.ckr = some k → k.stage = .settling →
        k.waitsOn = .claim .quiet → k.stageTimer = none → k.order.meas = some (.sound w th hy) →
        Reaches o fun t => granted t ∧ t.ckr = some { k with stage := .measuring, waitsOn := .measurement } ∧
          t.csu = { v.csu with
            window := .sound, length := w, count := 0, threshold := th, hysteresis := hy, rearm := th - hy
            armed := false, tones := 0, peak := 0, disturbances := 0 } ∧
          t.opu = v.opu ∧ t.spu = v.spu ∧ t.bem = v.bem) ∧
      (∀ k w (n : Fin 24), c.resource = .quiet → c.requester = .ckr → v.ckr = some k → k.AsksQuietFor w v n →
        Reaches o fun t => granted t ∧ Landed v t k w n ∧ t.csu = v.csu ∧ t.opu = v.opu ∧ t.spu = v.spu) ∧
      (∀ k p, c.resource = .operator → c.requester = .ckr → v.ckr = some k → k.stage = .prompting →
        k.waitsOn = .claim .operator → v.opu.state = .waiting → v.opu.prompt = some p →
        Reaches o fun t => granted t ∧ t.opu.shown = p.text ∧ t.opu.lamp = true ∧
          t.opu.promptTimer = some (p.timeout * 1000) ∧ (p.mode = .yesNo → t.opu.state = .yesNo) ∧
          (p.mode ≠ .yesNo → t.opu.state = .challenge) ∧ t.spu = v.spu ∧
          ∃ k', t.ckr = some k' ∧ k'.stage = .prompting ∧ k'.waitsOn = .prompt ∧ k'.order = k.order))) ∧
  (∀ m k, v.clu.claim = none → v.clu.audible = some m → v.ckr = some k → k.stage = .stimulating →
    k.waitsOn = .audible →
    (peerClaims v .quiet ≠ [] → o = .next v) ∧
    (∀ (w : FieldWrite) (n : Fin 24), peerClaims v .quiet = [] → k.order.actions[k.index]? = some (.fieldWrite w) →
      k.SettlesNext → w.Fits v n → Reaches o fun t => Landed v t k w n ∧
        t.clu = { v.clu with audible := none, noisy := true } ∧ t.oi = v.oi ∧ t.spu = v.spu ∧ t.vdu = v.vdu ∧
        t.opu = v.opu ∧ t.rli.replies = v.rli.replies ∧
        (v.clu.noisy = false → v.rli.silent = false → ∃ a cls, t.rli.buffer = some (a, cls) ∧ a.noisy = true)))

/-! ## With no command waiting (log 3) -/

/-- What the state makes due: each timer that has run out, each profile that has arrived, each fault filter that has
reached its time (10, 20 and 200 samples: log 41; OVERVOLTAGE before SHORT before OVERCURRENT: log 33; SHORT in a moving
phase: log 24), each peer entry too old to stay LIVE; all of it as long as the state says so (log 2). -/
inductive DueNow (s : State) : Instr → Prop
  | presence : s.oi.presence = some 0 → DueNow s .linePresenceExpiry
  | announce : s.clu.announceTimer = some 0 → DueNow s .announceTimerExpiry
  | stale (n : Fin 16) : n.val ≠ s.rli.slot.toNat → s.clu.peers[n].liveness = .live →
      4 * s.oi.rack.period < s.clu.peers[n].age → DueNow s (.peerStale n)
  | claimSettle (c : OwnClaim) : s.clu.claim = some c → c.granted = false → c.settle = .running 0 →
      DueNow s .claimSettleExpiry
  | claimWait (c : OwnClaim) : s.clu.claim = some c → c.granted = false → c.wait = some 0 → DueNow s .claimWaitExpiry
  | audible : s.clu.audible = some 0 → DueNow s .audibleWaitExpiry
  | inrushHold (k : CheckRecord) : s.ckr = some k → k.holdTimer = some 0 → DueNow s .inrushHoldExpiry
  | checkSettle (k : CheckRecord) : s.ckr = some k → k.stage = .settling → k.stageTimer = some 0 →
      DueNow s .checkSettleExpiry
  | ramp : s.spu.rail = .ramping → s.spu.effective = s.spu.setpoint → DueNow s .rampComplete
  | slew : s.spu.rail = .slewing → s.spu.effective = s.spu.setpoint → DueNow s .slewComplete
  | dip (p : Crank) : s.spu.rail = .cranking → s.spu.crank = some p → p.hold = some 0 → DueNow s .crankDipEnd
  | crank (p : Crank) : s.spu.rail = .cranking → s.spu.crank = some p → p.hold = none →
      s.spu.effective = s.spu.setpoint → DueNow s .crankRecoveryComplete
  | overvoltage : s.spu.rail.outputOn = true → 10 ≤ s.spu.overVoltageCount → DueNow s .overvoltage
  | short : s.spu.rail.outputOn = true → s.spu.overVoltageCount < 10 → 20 ≤ s.spu.shortCount →
      s.spu.shortPossible = true → DueNow s .short
  | overcurrent : s.spu.rail.outputOn = true → s.spu.overVoltageCount < 10 →
      s.spu.shortCount < 20 ∨ s.spu.shortPossible = false → 200 ≤ s.spu.overCurrentCount → DueNow s .overcurrent
  | offTimer : s.spu.rail = .faultOff → s.spu.offTimer = some 0 → DueNow s .offTimerExpiry
  | discharge : s.spu.rail = .discharging → s.spu.dischargeTimer = some 0 → DueNow s .dischargeTimerExpiry
  | recovery : s.spu.recovery = some 0 → DueNow s .recoveryTimerExpiry
  | range (n : Fin 8) : s.ltu[n].state = .ranging ∨ s.ltu[n].state = .locked → s.ltu[n].rangeTimer = some 0 →
      DueNow s (.rangeTimerExpiry n)
  | look : s.opu.lookTimer = some 0 → DueNow s .lookTimerExpiry
  | prompt : s.opu.state = .challenge ∨ s.opu.state = .yesNo → s.opu.promptTimer = some 0 →
      DueNow s .promptTimerExpiry

/-- A level moved toward another by a rate, and not past it (R95). -/
def Moved (rate target before after : Nat) : Prop :=
  (before < target → after = min target (before + rate)) ∧ (target ≤ before → after = max target (before - rate))

/-- A filter after samples: one more at each on which the condition holds, 0 at each on which it fails (R102). -/
def filtered (holds : Nat → Bool) (samples : List Nat) (n : Nat) : Nat :=
  samples.foldl (fun n i => if holds i then n + 1 else 0) n

/-- The fault filters of an SPU after the first j of the ten samples of the millisecond n (R102 to R104). -/
def Spu.filteredTo (n j : Nat) (u : Spu) : Spu :=
  let taken := (List.range j).map (10 * n + ·)
  let atLimit (i : Nat) := decide (u.cfg.limitMa ≤ Config.loadMaAt i u.drive)
  let volts (i : Nat) := Config.outputMvAt i u.drive
  { u with
    shortCount := filtered (fun i => atLimit i && decide (volts i < u.effective / 2)) taken u.shortCount
    overCurrentCount := filtered atLimit taken u.overCurrentCount
    overVoltageCount := filtered (fun i => decide (u.effective + 1000 < volts i)) taken u.overVoltageCount }

/-- A fault filter has reached its number of samples (R102 to R104; log 41; SHORT in a moving phase: log 24). -/
def Spu.FilterReached (u : Spu) : Prop :=
  10 ≤ u.overVoltageCount ∨ (20 ≤ u.shortCount ∧ u.shortPossible = true) ∨ 200 ≤ u.overCurrentCount

/-- The SPU after the millisecond n (R95, R101 to R104): timers, one move of a profile, and the fault filters over the
samples up to the first that brings a fault about (log 33). Level first, samples after: log 41; the output reading: log
6. -/
def Spu.PassedMs (n : Nat) (u t : Spu) : Prop :=
  t = { u with
    effective := t.effective, crank := t.crank, shortCount := t.shortCount, overCurrentCount := t.overCurrentCount
    overVoltageCount := t.overVoltageCount, offTimer := u.offTimer.map (· - 1)
    dischargeTimer := u.dischargeTimer.map (· - 1), recovery := u.recovery.map (· - 1)
    outputMv := Config.outputMvAt (10 * n + 9) t.drive } ∧
  (u.rail = .ramping ∨ u.rail = .slewing → Moved u.rate u.setpoint u.effective t.effective ∧ t.crank = u.crank) ∧
  (∀ p m, u.rail = .cranking → u.crank = some p → p.hold = some m →
    t.effective = u.effective ∧ t.crank = some { p with hold := some (m - 1) }) ∧
  (∀ p, u.rail = .cranking → u.crank = some p → p.hold = none →
    Moved p.rate u.setpoint u.effective t.effective ∧ t.crank = u.crank) ∧
  (u.rail ≠ .ramping → u.rail ≠ .slewing → u.rail ≠ .cranking ∨ u.crank = none →
    t.effective = u.effective ∧ t.crank = u.crank) ∧
  (u.rail.outputOn = false → t.shortCount = u.shortCount ∧ t.overCurrentCount = u.overCurrentCount ∧
    t.overVoltageCount = u.overVoltageCount) ∧
  (u.rail.outputOn = true → ∃ j, 1 ≤ j ∧ j ≤ 10 ∧
    let after (i : Nat) := Spu.filteredTo n i { u with effective := t.effective, crank := t.crank }
    t.shortCount = (after j).shortCount ∧ t.overCurrentCount = (after j).overCurrentCount ∧
    t.overVoltageCount = (after j).overVoltageCount ∧
    (∀ i, 1 ≤ i → i < j → ¬(after i).FilterReached) ∧
    (j < 10 → (after j).FilterReached))

/-- The mean of the ten current readings that an SPU takes in the millisecond n, rounded half up (R110). -/
def Spu.MeanCurrent (n : Nat) (u : Spu) (q : Nat) : Prop :=
  let sum := ((List.range 10).map fun i =>
    if u.rail.outputOn then min (Config.loadMaAt (10 * n + i) u.drive) u.cfg.limitMa else 0).sum
  (2 * (sum % 10) < 10 ∧ q = sum / 10) ∨ (10 ≤ 2 * (sum % 10) ∧ q = sum / 10 + 1)

/-- The first of the ten output readings of the millisecond n that lies below 500 mV (R101). -/
def Spu.FirstReadingBelow (n : Nat) (u : Spu) (mv : Nat) : Prop :=
  let reading (i : Nat) := Config.outputMvAt (10 * n + i) u.drive
  mv < 500 ∧ ∃ i, i < 10 ∧ reading i = mv ∧ ∀ j, j < i → 500 ≤ reading j

/-- The detector before and after a sound sample that is not the last of its window (R157, R158). -/
def Csu.Heard (c d : Csu) (code : Nat) : Prop :=
  let more := { c with count := c.count + 1, peak := max c.peak code }
  (c.count = 0 ∧ d = { c with count := 1, armed := decide (code < c.rearm), peak := code }) ∨
  (c.count ≠ 0 ∧ c.armed = true ∧ c.threshold ≤ code ∧ d = { more with tones := c.tones + 1, armed := false }) ∨
  (c.count ≠ 0 ∧ c.armed = true ∧ code < c.threshold ∧ d = more) ∨
  (c.count ≠ 0 ∧ c.armed = false ∧ d = { more with armed := decide (code < c.rearm) })

/-- Samples taken into a block that they do not complete (R143). -/
def LightChannel.tookBlock (c : LightChannel) (xs : List Code) : LightChannel :=
  { c with
    blockSum := c.blockSum + (xs.map (·.toNat)).sum
    blockCount := c.blockCount + xs.length
    blockSaturated := c.blockSaturated || xs.any saturatedCode }

/-- Samples taken into a window that they neither complete nor re-range (R148, R149). -/
def LightChannel.tookWindow (c : LightChannel) (xs : List Code) : LightChannel :=
  { c with
    sum := c.sum + darkSum c.cal.dark xs
    count := c.count + xs.length
    saturated := c.saturated || xs.any saturatedCode }

/-- The gain code that the block of a channel in RANGING or LOCKED steps to where the sample x completes it: R144's
step, in LOCKED the reduced one, brought into Gmin to Gmax (R139). -/
def LightChannel.StepsTo (c : LightChannel) (x : Code) (gain : Nat) : Prop :=
  ∃ d, BlockStep (c.blockSaturated || saturatedCode x) ((c.blockSum + x.toNat) / 16) c.target d ∧
    let step := if c.state = .locked then d.tdiv (2 ^ c.cal.shift) else d
    gain = (max (c.cal.gmin : Int) (min (c.cal.gmax : Int) (c.gain + step))).toNat

/-- The two samples of the millisecond ms at a channel in RANGING or LOCKED: the one that completes a block waits with
its event, and so does one that follows it, read at the gain that the block steps to (R138, R143; log 27). -/
def LightChannel.BlockMs (c d : LightChannel) (n : Fin 8) (ms : Nat) (arrived : List Instr) : Prop :=
  let x := Config.lightCodeAt (2 * ms) n c.gain
  let y := Config.lightCodeAt (2 * ms + 1) n c.gain
  if c.blockCount + 2 < 16 then d = c.tookBlock [x, y]
  else if c.blockCount + 1 < 16 then d = c.tookBlock [x] ∧ .lightBlockComplete n [y] ∈ arrived
  else d = c ∧ ∃ g, c.StepsTo x g ∧ .lightBlockComplete n [x, Config.lightCodeAt (2 * ms + 1) n g] ∈ arrived

/-- The two samples of the millisecond ms at a channel in WINDOW: the one that re-ranges or completes the window waits
with its event, and so does one that follows it, read at the gain that the re-range leaves (R138, R148, R149; log 27).
-/
def LightChannel.WindowMs (c d : LightChannel) (n : Fin 8) (ms : Nat) (arrived : List Instr) : Prop :=
  let x := Config.lightCodeAt (2 * ms) n c.gain
  let y := Config.lightCodeAt (2 * ms + 1) n c.gain
  let lowered := Config.lightCodeAt (2 * ms + 1) n (max c.cal.gmin (min c.cal.gmax (c.gain - 8)))
  let reranges (z : Code) := saturatedCode z && !c.reranged && decide (c.cal.gmin < c.gain)
  if reranges x then d = c ∧ .lightWindowRerange n [x, lowered] ∈ arrived
  else if c.window ≤ c.count + 1 then d = c ∧ .lightWindowComplete n [x, y] ∈ arrived
  else if reranges y then d = c.tookWindow [x] ∧ .lightWindowRerange n [y] ∈ arrived
  else if c.window ≤ c.count + 2 then d = c.tookWindow [x] ∧ .lightWindowComplete n [y] ∈ arrived
  else d = c.tookWindow [x, y]

end Sys2Proof.Machine
end

