-- ==== Sys2Proof/WellFormed.lean ====
section
/-! DEFINITION. Well-formed commands: what an event of each kind can bring with it. A meaning takes any operand; a
command that is not well formed is one that no station, pin or unit can give. -/

namespace Sys2Proof

open Machine

/-- A frame whose end the RLI can recognise has at least one character (R2). -/
def RxFrame.wf (f : RxFrame) : Bool := !f.isEmpty

/-- An identifier within its width and at most 8 data bytes (R113). -/
def CanFrame.wf (f : CanFrame) : Bool :=
  decide (f.id < (if f.extended then 2 ^ 29 else 2 ^ 11)) && decide (f.data.length ≤ 8) &&
    !(f.remote && !f.data.isEmpty)

/-- A frame that the filter of some slot passes as a kind that its source sends (R6). -/
def frameOfKind (f : RxFrame) (kind : FrameKind) (test : List Byte → Bool) : Bool :=
  (List.range 16).any fun n =>
    match rxFilter (BitVec.ofNat 4 n) f with
    | some i => i.kind == kind && test i.payload
    | none => false

/-- Whether a payload is a CONTROL of the kind a test names. -/
def controlIs (test : Control → Bool) (p : List Byte) : Bool := ((parseControl p).map test).getD false

/-- Whether a payload is a CONFIGURE of the section kind a test names. -/
def configIs (test : ConfigSection → Bool) (p : List Byte) : Bool := ((parseConfigure p).map test).getD false

/-- A command that some station, pin or unit can give. -/
def Instr.wf : Instr → Bool
  | .powerOnReset _ _ => true
  | .resetPinLow _ => true
  | .resetPinRelease _ _ => true
  | .lineDominant => true
  | .syncIdleEnd => true
  | .idleGapEnd => true
  | .positionStart _ => true
  | .windowEnd => true
  | .readbackDifference => true
  | .frameSentInFull => true
  | .frameDiscarded f => f.wf
  | .ownSlotFrame f => (List.range 16).any fun n =>
      match rxFilter (BitVec.ofNat 4 n) f with
      | some i => i.src == nestAddress (BitVec.ofNat 4 n)
      | none => false
  | .peerReplyFrame f =>
    frameOfKind f .receipt (fun _ => true) || frameOfKind f .verdict (fun _ => true) ||
      frameOfKind f .summary (fun _ => true)
  | .announceReceived f => frameOfKind f .announce fun _ => true
  | .order f => frameOfKind f .order fun _ => true
  | .controlAbort f => frameOfKind f .control (controlIs fun c => match c with
      | .abort _ _ => true
      | _ => false)
  | .controlRestart f => frameOfKind f .control (controlIs (· == .restart))
  | .controlBeginDut f => frameOfKind f .control (controlIs fun c => match c with
      | .beginDut _ => true
      | _ => false)
  | .controlEndDut f => frameOfKind f .control (controlIs (· == .endDut))
  | .controlClearHold f _ => frameOfKind f .control (controlIs (· == .clearHold))
  | .controlTakeSummary f => frameOfKind f .control (controlIs (· == .takeSummary))
  | .controlMalformed f => frameOfKind f .control fun p => (parseControl p).isNone
  | .query f => frameOfKind f .query fun _ => true
  | .configureRack f => frameOfKind f .configure (configIs fun c => match c with
      | .rack _ => true
      | _ => false)
  | .configureSupply f => frameOfKind f .configure (configIs fun c => match c with
      | .supply _ => true
      | _ => false)
  | .configureLight f => frameOfKind f .configure (configIs fun c => match c with
      | .light _ _ => true
      | _ => false)
  | .configureOperator f => frameOfKind f .configure (configIs fun c => match c with
      | .operator _ => true
      | _ => false)
  | .configureMessage f => frameOfKind f .configure (configIs fun c => match c with
      | .message _ => true
      | _ => false)
  | .configureCapture f => frameOfKind f .configure (configIs fun c => match c with
      | .capture _ => true
      | _ => false)
  | .configureInvalid f => frameOfKind f .configure fun p => (parseConfigure p).isNone
  | .linePresenceExpiry => true
  | .checkStart => true
  | .announceTimerExpiry => true
  | .peerStale _ => true
  | .claimSettleExpiry => true
  | .claimWaitExpiry => true
  | .audibleWaitExpiry => true
  | .inrushHoldExpiry => true
  | .checkSettleExpiry => true
  | .rampComplete => true
  | .slewComplete => true
  | .crankDipEnd => true
  | .crankRecoveryComplete => true
  | .dischargeBelowThreshold mv => decide (mv < Config.dischargedBelowMv)
  | .dischargeTimerExpiry => true
  | .short => true
  | .overcurrent => true
  | .overvoltage => true
  | .offTimerExpiry => true
  | .recoveryTimerExpiry => true
  | .slotDue _ => true
  | .canAttemptStart => true
  | .canAttemptEnd _ => true
  | .clusterFrameReceived f => f.wf
  | .lightBlockComplete _ xs => !xs.isEmpty
  | .rangeTimerExpiry _ => true
  | .lightWindowRerange _ xs => !xs.isEmpty
  | .lightWindowComplete _ xs => !xs.isEmpty
  | .currentWindowComplete xs => !xs.isEmpty && xs.all fun x => decide (x ≤ 5000)
  | .soundWindowComplete xs => !xs.isEmpty
  | .keyDigit _ => true
  | .keyClear => true
  | .keyPass => true
  | .keyFail => true
  | .lookTimerExpiry => true
  | .promptTimerExpiry => true
  | .abandonedRemainderEnd f => f.wf

end Sys2Proof
end

