-- ==== Sys2Proof/Certificates/Slice0/Obligations.lean ====
section
/-! DEFINITION. The statements for the provers. A docstring names the rules that its statement comes from, whole or in
part; OBLIGATIONS.json cites by number those alone that it states whole. -/

open Sys2Proof Sys2Proof.Machine

/-! ## The step -/

/-- The command at the front of the queue is the one the step carries out, on the state with the queue's rest. -/
def Obligations.StepTakesFrontCommand : Prop :=
  ∀ (c : Instr) (rest : List Instr) (s : State), s.pending = c :: rest → step s = exec c (s.setPending rest)

/-- With no command waiting (the model's choice, log 3): an event that waits from the last millisecond, or that the
state makes due (log 2), is put in the queue, one at a time, which is free (log 4); with none, a millisecond passes.
R40, R43, R47, R54, R60, R64, R73, R79, R147, R185, R189: each timer that runs has one ms less, each age one more, up to
65535. R95: a ramp, slew or recovery moves by its rate. R101: in DISCHARGING the first reading of the ms below 500 mV
brings DISCHARGE_BELOW_THRESHOLD, and nothing else does; the output reading that is kept is the last of the ms (log 6).
R102 to R104: the fault filters take the ms's samples up to the first that brings a fault about, OVERVOLTAGE before
SHORT before OVERCURRENT (log 33), SHORT in a moving phase by the larger level (log 24), each at its number of samples
(log 41). R110, R155: the current sample is the mean of the ten readings of the ms, at the level that the profile has
reached (log 41), and a current window takes it. R157, R158: a sound window takes one sample. R117: the slots whose due
time has come fall due. R138, R143, R144, R148, R149: a channel in RANGING, LOCKED or WINDOW takes two samples, each
read at the gain that the one before it leaves (the streams: log 5). A sample that completes or re-ranges something
waits with its event (log 27). No register of the rack line or of the verdicts, and no message slot, changes. A part
held in reset sees nothing but the clock (logs 3 and 21). -/
def Obligations.EmptyQueueIsOneMillisecond : Prop :=
  ∀ s : State, s.pending = [] →
    (s.resetHeld = true → step s = .next (s.setClock (s.clock + 1))) ∧
    (s.resetHeld = false → s.arrived ++ dueEvents s ≠ [] → ∃ i c, (s.arrived ++ dueEvents s)[i]? = some c ∧
      step s = .next { s with choices := s.choices + 1, arrived := s.arrived.eraseIdx i, pending := [c] }) ∧
    (∀ c, c ∈ dueEvents s ↔ DueNow s c) ∧
    (s.resetHeld = false → s.arrived = [] → dueEvents s = [] → Reaches (step s) fun t =>
      t.clock = s.clock + 1 ∧ t.pending = [] ∧ t.resetHeld = false ∧ t.rli = s.rli ∧ t.vdu = s.vdu ∧
      t.oi = { s.oi with presence := s.oi.presence.map (· - 1) } ∧
      t.clu = { s.clu with
        peers := t.clu.peers, announceTimer := s.clu.announceTimer.map (· - 1)
        audible := s.clu.audible.map (· - 1), claim := t.clu.claim } ∧
      (∀ n : Fin 16, t.clu.peers[n] = if s.clu.peers[n].liveness = .absent then s.clu.peers[n]
        else { s.clu.peers[n] with age := min (s.clu.peers[n].age + 1) 65535 }) ∧
      (s.clu.claim = none → t.clu.claim = none) ∧
      (∀ c, s.clu.claim = some c → t.clu.claim = some { c with
        wait := c.wait.map (· - 1)
        settle := match c.settle with | .running n => .running (n - 1) | x => x }) ∧
      t.ckr = s.ckr.map (fun k => { k with
        holdTimer := k.holdTimer.map (· - 1), stageTimer := k.stageTimer.map (· - 1) }) ∧
      t.opu = { s.opu with lookTimer := s.opu.lookTimer.map (· - 1), promptTimer := s.opu.promptTimer.map (· - 1) } ∧
      Spu.PassedMs s.clock s.spu t.spu ∧
      t.bem = { s.bem with schedule := s.bem.schedule.map (· + 1), captures := t.bem.captures } ∧
      (∀ n : Fin 8, t.bem.captures[n] = if s.bem.captures[n].defined then
        { s.bem.captures[n] with age := min (s.bem.captures[n].age + 1) 65535 } else s.bem.captures[n]) ∧
      (∀ n : Fin 24, .slotDue n ∈ t.arrived ↔ ∃ z, s.bem.schedule = some z ∧ s.bem.slots[n].defined = true ∧
        s.bem.slots[n].period ≠ 0 ∧ s.bem.slots[n].phase ≤ z + 1 ∧
        (z + 1 - s.bem.slots[n].phase) % s.bem.slots[n].period = 0) ∧
      (∀ mv, .dischargeBelowThreshold mv ∈ t.arrived ↔
        s.spu.rail = .discharging ∧ s.spu.FirstReadingBelow s.clock mv) ∧
      (s.csu.window = .idle → t.csu = s.csu) ∧
      (∀ q, s.csu.window = .current → Spu.MeanCurrent s.clock t.spu q →
        (s.csu.count + 1 < s.csu.length →
          t.csu = { s.csu with count := s.csu.count + 1, currentSum := s.csu.currentSum + q }) ∧
        (s.csu.length ≤ s.csu.count + 1 → t.csu = s.csu ∧ .currentWindowComplete [q] ∈ t.arrived)) ∧
      (s.csu.window = .sound → let x := Config.soundCodeAt s.clock
        (s.csu.count + 1 < s.csu.length → s.csu.Heard t.csu x.toNat) ∧
        (s.csu.length ≤ s.csu.count + 1 → t.csu = s.csu ∧ .soundWindowComplete [x] ∈ t.arrived)) ∧
      ∀ n : Fin 8, let c := s.ltu[n]
        t.ltu[n].rangeTimer = c.rangeTimer.map (· - 1) ∧ t.ltu[n].gain = c.gain ∧ t.ltu[n].state = c.state ∧
        let c' := { c with rangeTimer := t.ltu[n].rangeTimer }
        (c.state = .held → t.ltu[n] = c') ∧
        (c.state = .ranging ∨ c.state = .locked → c'.BlockMs t.ltu[n] n s.clock t.arrived) ∧
        (c.state = .window → c'.WindowMs t.ltu[n] n s.clock t.arrived))

/-! ## Resets (R18, R20, R41, R66, R112, R135, R153, R155, R177, R193, R195) -/

/-- R18, R195: what a power-on reset, and a release of the held reset pin, leave in the RLI; a reset pin low for 10 µs
or more puts every block in reset and holds it there, a shorter level has no effect. The model's choice (log 21): a part
held in reset stands at its reset values, and no command but a reset changes it. -/
def Obligations.ResetsReadStrapsAndClearLine : Prop :=
  ∀ (slot : BitVec 4) (group : BitVec 2) (s : State),
    let cleared (t : State) : Prop :=
      t.rli.slot = slot ∧ t.rli.group = group ∧ t.rli.silent = false ∧ t.rli.buffer = none ∧ t.rli.replies = [] ∧
      t.rli.collisions = 0 ∧ t.rli.fairness = false ∧ t.rli.lastSentClaim = none ∧ t.rli.lastSentNoisy = false ∧
      t.rli.contention = .syncing
    Reaches (exec (.powerOnReset slot group) s) cleared ∧
    (s.resetHeld = true → Reaches (exec (.resetPinRelease slot group) s) fun t => cleared t ∧ t.resetHeld = false) ∧
    (s.resetHeld = false → exec (.resetPinRelease slot group) s = .next s) ∧
    (∀ us, us < 10 → exec (.resetPinLow us) s = .next s) ∧
    (∀ us, 10 ≤ us → exec (.resetPinLow us) s = .next
      ((State.resetWith s.rli.slot s.rli.group s.spu.outputMv s.clock s.choices s.pending).setResetHeld true)) ∧
    (s.resetHeld = true → ∀ c : Instr, (∀ a b, c ≠ .powerOnReset a b) → (∀ n, c ≠ .resetPinLow n) →
      (∀ a b, c ≠ .resetPinRelease a b) → exec c s = .next s)

/-- R66, R135, R153; of R20, R41, R112, R155, R177, R193 the values: what a power-on reset, and the release of a held
reset pin, leave in the other blocks. -/
def Obligations.ResetValuesOfBlocks : Prop :=
  ∀ (c : Instr) (slot : BitVec 4) (group : BitVec 2) (s : State),
    (c = .powerOnReset slot group ∨ (c = .resetPinRelease slot group ∧ s.resetHeld = true)) →
    Reaches (exec c s) fun t =>
      t.oi = ⟨.unconfigured, false, false, [], ⟨80, 50, 30, 10, 15⟩, some 10000, false⟩ ∧
      (∀ n : Fin 16, t.clu.peers[n] = ⟨.absent, 65535, 0, false, none⟩) ∧
      t.clu.claim = none ∧ t.clu.deferred = none ∧ t.clu.noisy = false ∧ t.clu.lastInrush = 0 ∧
      t.clu.lastQuiet = 0 ∧ t.clu.lastOperator = 0 ∧ t.clu.announceTimer = some 50 ∧ t.clu.audible = none ∧
      t.ckr = none ∧
      t.spu = ⟨.off, 0, 0, 1, none, 0, 0, 0, none, none, 0, false, none, ⟨2000, 3, 200⟩, t.spu.outputMv⟩ ∧
      (∀ n : Fin 24, t.bem.slots[n].defined = false ∧ t.bem.slots[n].enabled = false ∧ t.bem.slots[n].late = false) ∧
      (∀ n : Fin 8, t.bem.captures[n].defined = false) ∧
      t.bem.queue = [] ∧ t.bem.sending = none ∧ t.bem.schedule = none ∧ t.bem.silent = false ∧
      t.bem.unacked = 0 ∧ t.bem.given = none ∧ t.bem.received = none ∧ t.bem.current = ⟨none, none⟩ ∧
      (∀ n : Fin 8, t.ltu[n].state = .held ∧ t.ltu[n].gain = 24 ∧ t.ltu[n].cal = ⟨1024, 0, 0, 47, 24, 128, 1, 7⟩ ∧
        t.ltu[n].lock = .none ∧ t.ltu[n].rangeTimer = none ∧ t.ltu[n].reranged = false ∧ t.ltu[n].saturated = false ∧
        t.ltu[n].inBand = 0 ∧ t.ltu[n].pinned = 0 ∧ t.ltu[n].outOfBand = 0 ∧ t.ltu[n].blockSum = 0 ∧
        t.ltu[n].blockCount = 0 ∧ t.ltu[n].blockSaturated = false ∧ t.ltu[n].sum = 0 ∧ t.ltu[n].count = 0) ∧
      t.csu = ⟨.idle, 0, 0, 0, 0, 0, 0, false, 0, 0, 0⟩ ∧
      t.vdu = ⟨[], ⟨0, 0, none, 0⟩, 0, 0⟩ ∧
      t.opu.state = .idle ∧ t.opu.prompt = none ∧ t.opu.place = none ∧ t.opu.entry = [] ∧ t.opu.attempts = 0 ∧
      t.opu.promptTimer = none ∧ t.opu.lookTimer = none ∧ t.opu.lamp = false ∧ t.opu.shown = [] ∧
      t.opu.generator = 0xACE1#16 ∧ t.opu.errors = 0 ∧ t.opu.cfg = ⟨3, 800, 0xACE1#16, 0, 0⟩

/-! ## The rack line (chapter 1) -/

/-- R9, R13, R17: SYNCING and GAP end in WINDOW, position 0; a dominant level starts a frame in every condition but
TRANSMITTING, and is nothing new in BUSY; a window that stayed recessive clears the fairness flag, which a SILENT RLI
keeps, and the next window begins. -/
def Obligations.ContentionConditions : Prop :=
  ∀ s : State, s.resetHeld = false →
    (s.rli.contention = .syncing →
      exec .syncIdleEnd s = .next (s.setRli { s.rli with contention := .window 0 })) ∧
    (s.rli.contention = .gap → exec .idleGapEnd s = .next (s.setRli { s.rli with contention := .window 0 })) ∧
    (s.rli.contention = .syncing ∨ s.rli.contention = .gap ∨ (∃ p, s.rli.contention = .window p) →
      exec .lineDominant s = .next (s.setRli { s.rli with contention := .busy, drove := false })) ∧
    (s.rli.contention = .busy ∨ (∃ tx, s.rli.contention = .transmitting tx) → exec .lineDominant s = .next s) ∧
    (∀ q, s.rli.contention = .window q → exec .windowEnd s = .next (s.setRli { s.rli with
      contention := .window 0, fairness := if s.rli.silent then s.rli.fairness else false }))

/-- R10, R12, R13: at its own position of a class the station sends the waiting announcement of that class, else the
head of the reply queue if it is of that class, else nothing; nothing either at its NORMAL position with the fairness
flag set, nor at any other position. -/
def Obligations.PositionStartOffersOneFrame : Prop :=
  ∀ (s : State) (q : Nat) (p : Fin 34), s.resetHeld = false → s.rli.silent = false → s.rli.contention = .window q →
    let starts (f : TxFrame) (cls : FrameClass) := s.setRli { s.rli with
      contention := .transmitting ⟨f, cls, lineLevels (f.bytes s.rli.slot), false⟩ }
    let passes := s.setRli { s.rli with contention := .window p }
    let own (cls : FrameClass) := (match cls with | .urgent => 0 | .normal => 17) + s.rli.slot.toNat
    (∀ cls, p.val = own cls → (cls = .normal → s.rli.fairness = false) →
      (∀ a, s.rli.buffer = some (a, cls) → exec (.positionStart p) s = .next (starts (.announce a) cls)) ∧
      (∀ x xs, (∀ a, s.rli.buffer ≠ some (a, cls)) → s.rli.replies = x :: xs → x.cls = cls →
        exec (.positionStart p) s = .next (starts (.reply x) cls)) ∧
      ((∀ a, s.rli.buffer ≠ some (a, cls)) → (∀ x xs, s.rli.replies = x :: xs → x.cls ≠ cls) →
        exec (.positionStart p) s = .next passes)) ∧
    (p.val = own .normal → s.rli.fairness = true → exec (.positionStart p) s = .next passes) ∧
    (p.val ≠ own .urgent → p.val ≠ own .normal → exec (.positionStart p) s = .next passes)

/-- R14: a read-back difference with a count below 2 abandons the transmission, keeps the frame where it was, raises the
count by 1 and leaves the line BUSY. -/
def Obligations.ReadbackDifferenceIsCounted : Prop :=
  ∀ (s : State) (tx : Tx), s.resetHeld = false → s.rli.contention = .transmitting tx → s.rli.collisions < 2 →
    exec .readbackDifference s = .next (s.setRli { s.rli with
      contention := .busy, drove := true, collisions := s.rli.collisions + 1 })

/-- R8, R14, R17, R23, R99: an intact own-slot frame, and the third collision, make the whole station SILENT. -/
def Obligations.DuplicateSlotSilencesStation : Prop :=
  ∀ (c : Instr) (s : State), s.rli.silent = false →
    ((c = .readbackDifference ∧ s.resetHeld = false ∧ (∃ tx, s.rli.contention = .transmitting tx) ∧
        s.rli.collisions = 2) ∨ (∃ f, c = .ownSlotFrame f ∧ Ends s f .ownSlot)) →
    Reaches (exec c s) fun t =>
      t.rli.silent = true ∧ t.rli.buffer = none ∧ t.rli.replies = [] ∧ t.rli.contention.sending = false ∧
      t.rli.fairness = s.rli.fairness ∧ t.rli.slot = s.rli.slot ∧
      t.oi = { s.oi with station := .silent, queue := [], presence := none } ∧ t.ckr = none ∧
      t.clu.claim = none ∧ t.clu.deferred = none ∧ t.clu.noisy = false ∧ t.clu.audible = none ∧
      t.clu.announceTimer = none ∧ t.clu.peers = s.clu.peers ∧ t.vdu = s.vdu ∧
      s.spu.OffAsked t.spu ∧ t.bem.queue = [] ∧
      (∀ n : Fin 24, t.bem.slots[n].enabled = false) ∧ t.opu.state = .idle ∧ t.opu.lamp = false ∧
      t.opu.errors = s.opu.errors

/-- R11, R13 to R15, R54: a frame sent in full leaves GAP, the count at 0, and the fairness flag set when it was NORMAL.
A reply leaves the head of the queue. An announcement empties the buffer, or leaves the rewritten frame with its class
decided anew; its claim and NOISY fields are kept as last sent; a PENDING own claim that it carried begins its settle
with twice the announce period, and any other notice leaves the CLU as it was. -/
def Obligations.FrameSentInFull : Prop :=
  ∀ (s : State) (tx : Tx), s.resetHeld = false → s.rli.contention = .transmitting tx →
    (∀ x, tx.frame = .reply x → exec .frameSentInFull s = .next (s.setRli { s.rli with
      contention := .gap, drove := false, collisions := 0, replies := s.rli.replies.tail
      fairness := s.rli.fairness || tx.cls == .normal })) ∧
    ∀ a : Announcement, tx.frame = .announce a →
      let line := s.setRli { s.rli with
        contention := .gap, drove := false, collisions := 0
        fairness := s.rli.fairness || tx.cls == .normal
        lastSentClaim := a.claim, lastSentNoisy := a.noisy
        buffer := if tx.rewritten then s.rli.buffer.map fun b =>
          (b.1, if b.1.claim ≠ a.claim ∨ b.1.noisy ≠ a.noisy then FrameClass.urgent else FrameClass.normal) else none }
      (∀ c m, s.clu.claim = some c → a.claim = some m → m.resource = c.resource → m.ticket = c.ticket →
        m.granted = false → c.granted = false → c.settle = .notBegun →
        exec .frameSentInFull s = .next (line.setClu { s.clu with
          claim := some { c with settle := .running (2 * s.oi.rack.period) } })) ∧
      ((∀ c m, s.clu.claim = some c → a.claim = some m → m.resource ≠ c.resource ∨ m.ticket ≠ c.ticket ∨
        m.granted = true ∨ c.granted = true ∨ c.settle ≠ .notBegun) → exec .frameSentInFull s = .next line)

/-- R6, R7, R9, R13, R14, R17: a discarded frame leaves only the frame end; a reply of another nest clears the fairness
flag; at a SILENT RLI, which keeps the flag, only the frame end is left of it and of an own-slot frame; of the remainder
after an abandoned attempt, only an intact frame of another station clears the flag. The end leaves GAP in every
condition but TRANSMITTING: in those other than BUSY that is the model's choice (log 37). -/
def Obligations.FramesForNoBlock : Prop :=
  ∀ (s : State) (f : RxFrame), s.resetHeld = false → s.rli.contention.sending = false →
    let gap (fair : Bool) := s.setRli { s.rli with contention := .gap, drove := false, fairness := fair }
    (rxFilter s.rli.slot f = none → exec (.frameDiscarded f) s = .next (gap s.rli.fairness)) ∧
    (classify s.rli f = .peerReply → exec (.peerReplyFrame f) s = .next (gap false)) ∧
    (∀ i, rxFilter s.rli.slot f = some i → s.rli.silent = true →
      ∀ c, c = .peerReplyFrame f ∨ c = .ownSlotFrame f → exec c s = .next (gap s.rli.fairness)) ∧
    (s.rli.drove = true → rxFilter s.rli.slot f = none →
      exec (.abandonedRemainderEnd f) s = .next (gap s.rli.fairness)) ∧
    (∀ i, s.rli.drove = true → s.rli.silent = false → rxFilter s.rli.slot f = some i →
      exec (.abandonedRemainderEnd f) s =
        .next (gap (s.rli.fairness && i.src == nestAddress s.rli.slot)))

/-! ## Peer view and claims (chapter 3) -/

/-- R46: an announcement with a fault in its payload changes no entry; any other writes the sender's entry whole, LIVE
with age 0. With no own claim and no waiting audible request nothing else follows. R55 to R58: a PENDING own claim whose
settle has PASSED is evaluated in the new view, of any resource; a GRANTED one stands. R63, R75, R76: a waiting audible
request goes on waiting while a LIVE peer QUIET claim is in view; the first announcement that leaves none has it
answered CLEAR: NOISY is set and announced, and the check's write lands. R59, R79, R160, R161: under the own QUIET grant
a NOISY announcement has the sound window of a check that measures start again, RESTARTED, twice; the third ends the
check DISTURBED, with QUIET released (what the idle CSU keeps is the model's choice, log 39). -/
def Obligations.AnnounceReceivedWritesEntry : Prop :=
  ∀ (s : State) (f : RxFrame) (src : BitVec 5) (p : List Byte), Ends s f (.announce src p) →
    (parseAnnounce p = none → exec (.announceReceived f) s = .next (ended s)) ∧
    ∀ r, parseAnnounce p = some r →
    let view := (ended s).setClu { s.clu with
      peers := s.clu.peers.setIfInBounds src.toNat ⟨.live, 0, r.group, r.noisy, r.claim⟩ }
    (s.clu.claim = none → s.clu.audible = none → Still s → exec (.announceReceived f) s = .next view) ∧
    ViewActedOn view (exec (.announceReceived f) s) ∧
    (∀ c k n th hy, s.clu.claim = some c → c.resource = .quiet → c.granted = true → c.requester = .ckr →
      s.clu.audible = none → s.ckr = some k → k.stage = .measuring → k.waitsOn = .measurement →
      k.order.meas = some (.sound n th hy) → s.csu.window = .sound →
      (r.noisy = false → exec (.announceReceived f) s = .next view) ∧
      (r.noisy = true → s.csu.disturbances < 2 → exec (.announceReceived f) s = .next
        ((view.setCsu { s.csu with
          disturbances := s.csu.disturbances + 1, count := 0, tones := 0, peak := 0, armed := false }).setCkr
          (some { k with flags := { k.flags with restarted := true } }))) ∧
      (r.noisy = true → 2 ≤ s.csu.disturbances → s.clu.deferred = none → RunsAlone s k →
        Reaches (exec (.announceReceived f) s) fun t =>
          t.csu = { s.csu with
            window := .idle, count := 0, currentSum := 0, armed := false, tones := 0, peak := 0, disturbances := 0 } ∧
          t.clu = { view.clu with claim := none, noisy := false } ∧ t.oi = { s.oi with station := .ready } ∧
          Judged s t ⟨k.order.checkId, .disturbed, none, k.order.kind, k.gain, k.aux, k.flags, k.attempts⟩))

/-- R42, R43, R11: the announcement timer's expiry hands in content read from the blocks at that moment, decides its
class, and starts the timer again with the period in force. -/
def Obligations.AnnounceTimerHandsIn : Prop :=
  ∀ (s : State) (n : Nat), s.resetHeld = false → s.clu.announceTimer = some n → s.rli.silent = false →
    Reaches (exec .announceTimerExpiry s) fun t =>
      t.clu = { s.clu with announceTimer := some s.oi.rack.period } ∧ t.oi = s.oi ∧ t.ckr = s.ckr ∧
      t.vdu = s.vdu ∧ t.spu = s.spu ∧ t.bem = s.bem ∧ t.opu = s.opu ∧ t.rli.replies = s.rli.replies ∧
      ∃ a cls, t.rli.buffer = some (a, cls) ∧ a.slot = s.rli.slot ∧ a.group = s.rli.group ∧
        a.station = s.oi.station ∧ a.limitHold = s.oi.limitHold ∧ a.safeHold = s.oi.safeHold ∧
        a.rail = s.spu.rail ∧ a.noisy = s.clu.noisy ∧ a.lineLost = s.oi.lineLost ∧ a.seq = s.vdu.seq ∧
        a.lastJudged = s.vdu.lastJudged ∧ (s.ckr = none → a.checkId = 0) ∧
        (∀ c, s.ckr = some c → a.checkId = c.order.checkId) ∧ (s.clu.claim = none → a.claim = none) ∧
        (∀ c, s.clu.claim = some c → a.claim = some ⟨c.resource, c.ticket, c.granted,
          if c.resource = .inrush then c.amount else 0⟩) ∧
        (cls = .urgent ↔ a.claim ≠ s.rli.lastSentClaim ∨ a.noisy ≠ s.rli.lastSentNoisy)

/-- R47: a LIVE entry of another slot becomes STALE and keeps the fields last written into it (its age is past the limit
then, log 25). With no own claim and no waiting audible request nothing else follows. R55 to R58, R63: this staleness
change has a PENDING own claim whose settle has PASSED evaluated in the new view, leaves a GRANTED one as it is, and
answers a waiting audible request CLEAR when no LIVE peer QUIET claim is left. -/
def Obligations.PeerBecomesStale : Prop :=
  ∀ (s : State) (n : Fin 16), s.resetHeld = false → n.val ≠ s.rli.slot.toNat → s.clu.peers[n].liveness = .live →
    let view := s.setClu { s.clu with
      peers := s.clu.peers.setIfInBounds n ⟨.stale, max s.clu.peers[n].age (4 * s.oi.rack.period + 1),
        s.clu.peers[n].group, s.clu.peers[n].noisy, s.clu.peers[n].claim⟩ }
    (s.clu.claim = none → s.clu.audible = none → Still s → exec (.peerStale n) s = .next view) ∧
    ViewActedOn view (exec (.peerStale n) s)

/-- R53, R56, R57: of two claims on one resource the ticket's distance decides, at 0 and 128 the slot; of two claims
from different slots exactly one precedes; the claims compared are those that LIVE peers announced on the resource, for
OPERATOR in the own group. A grant condition asks this of the view as it stands: QUIET wants no NOISY peer, QUIET and
OPERATOR no peer claim that is GRANTED or precedes, INRUSH that those claims leave room in the budget. -/
def Obligations.TicketPrecedence : Prop :=
  (∀ (a b : Byte) (x y : Nat), 1 ≤ (b - a).toNat → (b - a).toNat ≤ 127 → precedes a x b y = true) ∧
  (∀ (a b : Byte) (x y : Nat), (b - a).toNat = 0 ∨ (b - a).toNat = 128 → (precedes a x b y = true ↔ x < y)) ∧
  (∀ (a b : Byte) (x y : Nat), x ≠ y → precedes a x b y = !precedes b y a x) ∧
  ∀ s : State,
    let peer (n : Fin 16) := n.val ≠ s.rli.slot.toNat ∧ s.clu.peers[n].liveness = .live
    let before (c : OwnClaim) (p : Nat × AnnClaim) := p.2.granted || precedes p.2.ticket p.1 c.ticket s.rli.slot.toNat
    (∀ (r : Resource) (n : Fin 16) (x : AnnClaim), (n.val, x) ∈ peerClaims s r ↔
      peer n ∧ s.clu.peers[n].claim = some x ∧ x.resource = r ∧
        (r = .operator → s.clu.peers[n].group = s.rli.group)) ∧
    (∀ c : OwnClaim, c.resource ≠ .inrush → (grantCondition s c = true ↔
      (c.resource = .quiet → ∀ n, peer n → s.clu.peers[n].noisy = false) ∧
        ∀ p ∈ peerClaims s c.resource, before c p = false)) ∧
    ∀ c : OwnClaim, c.resource = .inrush → (grantCondition s c = true ↔
      c.amount + (((peerClaims s .inrush).filter (before c)).map (·.2.amount)).sum ≤ s.oi.rack.budget)

/-- R54 to R56, R72, R96, R107: at the end of settle the claim is evaluated. Where the condition fails it stays PENDING
with its settle PASSED; an INRUSH claim whose condition holds is GRANTED, its wait timer stops, the requester's power-up
goes (RAMPING from 0 mV), and the grant is announced. R57, R78, R79, R80: a QUIET claim whose condition holds is GRANTED
to the SOUND check that settles: it goes on settling, or, with its time over, opens its window. R63, R76: granted to one
that waits with an audible FIELD_WRITE, it has the write land at once, with NOISY as it was. -/
def Obligations.ClaimSettleExpiryEvaluates : Prop :=
  ∀ (s : State) (c : OwnClaim) (n : Nat), s.resetHeld = false → s.clu.claim = some c → c.granted = false →
    c.settle = .running n →
    (grantCondition s c = false → Still s →
      exec .claimSettleExpiry s = .next (s.setClu { s.clu with claim := some { c with settle := .passed } })) ∧
    (c.resource = .inrush → c.amount + countedInrush s c ≤ s.oi.rack.budget → s.spu.rail = .waitInrush →
      0 < s.spu.setpoint →
      ((c.requester = .spu ∧ s.spu.retry = true ∧ Still s) ∨
        (c.requester = .ckr ∧ ∃ k, s.ckr = some k ∧ k.stage = .stimulating ∧ k.waitsOn = .claim .inrush)) →
      Reaches (exec .claimSettleExpiry s) fun t =>
        t.clu = { s.clu with claim := some { c with granted := true, wait := none, settle := .passed } } ∧
        t.spu.rail = .ramping ∧ t.spu.effective = s.spu.effective ∧ t.spu.setpoint = s.spu.setpoint ∧
        t.oi = s.oi ∧ t.vdu = s.vdu ∧ t.opu = s.opu ∧ t.ltu = s.ltu ∧ t.csu = s.csu ∧
        (c.requester = .spu → t.ckr = s.ckr) ∧
        (∀ k, c.requester = .ckr → s.ckr = some k → t.ckr = some { k with waitsOn := .rail }) ∧
        (s.rli.silent = false → ∃ a cls, t.rli.buffer = some (a, cls) ∧
          a.claim = some ⟨.inrush, c.ticket, true, c.amount⟩)) ∧
    (∀ k w th hy, c.resource = .quiet → c.requester = .ckr → grantCondition s c = true → s.ckr = some k →
      k.stage = .settling → k.waitsOn = .claim .quiet → k.order.meas = some (.sound w th hy) →
      Reaches (exec .claimSettleExpiry s) fun t =>
        t.clu = { s.clu with claim := some { c with granted := true, wait := none, settle := .passed } } ∧
        t.oi = s.oi ∧ t.vdu = s.vdu ∧ t.opu = s.opu ∧ t.ltu = s.ltu ∧ t.spu = s.spu ∧ t.bem = s.bem ∧
        (s.rli.silent = false → ∃ a cls, t.rli.buffer = some (a, cls) ∧ a.claim = some ⟨.quiet, c.ticket, true, 0⟩) ∧
        (∀ m, k.stageTimer = some m → t.ckr = some { k with waitsOn := .none } ∧ t.csu = s.csu) ∧
        (k.stageTimer = none → t.ckr = some { k with stage := .measuring, waitsOn := .measurement } ∧
          t.csu = { s.csu with
            window := .sound, length := w, count := 0, threshold := th, hysteresis := hy, rearm := th - hy
            armed := false, tones := 0, peak := 0, disturbances := 0 })) ∧
    (∀ k w (m : Fin 24), c.resource = .quiet → c.requester = .ckr → grantCondition s c = true → s.ckr = some k →
      k.AsksQuietFor w s m → Reaches (exec .claimSettleExpiry s) fun t =>
        t.clu = { s.clu with claim := some { c with granted := true, wait := none, settle := .passed } } ∧
        Landed s t k w m ∧ t.oi = s.oi ∧ t.vdu = s.vdu ∧ t.opu = s.opu ∧ t.ltu = s.ltu ∧ t.spu = s.spu ∧
        t.csu = s.csu ∧ (s.rli.silent = false → ∃ a cls, t.rli.buffer = some (a, cls) ∧
          a.claim = some ⟨.quiet, c.ticket, true, 0⟩))

/-- R55, R57, R181, R183, R184: an OPERATOR claim granted at the end of settle begins the prompt: the text is shown, the
lamp lit and the prompt timer started; a YESNO prompt waits for PASS or FAIL, an attended one shows its challenge, whose
code is the generator after 16 steps modulo 10000, and starts the look timer. R85, R124, R192: the pattern that the
challenge field held goes to the fifth restore place when that is empty, which else keeps what it has, and the code is
written into the field, 14 bits from the configured start bit of the configured slot. -/
def Obligations.OperatorGrantBeginsPrompt : Prop :=
  ∀ (s : State) (c : OwnClaim) (n : Nat) (k : CheckRecord) (p : Prompt), s.resetHeld = false →
    s.clu.claim = some c → c.granted = false → c.settle = .running n → c.resource = .operator →
    c.requester = .ckr → (peerClaims s .operator).any (ahead s c) = false → s.ckr = some k →
    k.stage = .prompting → k.waitsOn = .claim .operator → s.opu.state = .waiting → s.opu.prompt = some p →
    Reaches (exec .claimSettleExpiry s) fun t =>
      t.clu = { s.clu with claim := some { c with granted := true, wait := none, settle := .passed } } ∧
      t.opu.shown = p.text ∧ t.opu.lamp = true ∧ t.opu.promptTimer = some (p.timeout * 1000) ∧
      t.opu.attempts = s.opu.attempts ∧ t.opu.errors = s.opu.errors ∧ t.opu.prompt = some p ∧
      t.oi = s.oi ∧ t.vdu = s.vdu ∧ t.spu = s.spu ∧ t.ltu = s.ltu ∧ t.csu = s.csu ∧
      (∃ k', t.ckr = some k' ∧ k'.stage = .prompting ∧ k'.waitsOn = .prompt ∧ k'.order = k.order) ∧
      (p.mode = .yesNo → t.opu.state = .yesNo ∧ t.opu.generator = s.opu.generator ∧ t.bem = s.bem) ∧
      (p.mode ≠ .yesNo → t.opu.state = .challenge ∧ t.opu.generator = generatorSteps 16 s.opu.generator ∧
        t.opu.code = (generatorSteps 16 s.opu.generator).toNat % 10000 ∧ t.opu.entry = [] ∧
        t.opu.lookTimer = some s.opu.cfg.lookMs ∧
        (∀ k', t.ckr = some k' → (∀ e, k.fifth = some e → k'.fifth = some e) ∧
          (k.fifth = none → k'.fifth = some ⟨s.opu.cfg.slot, s.opu.cfg.start, 14,
            readField (slotAt s s.opu.cfg.slot).payload s.opu.cfg.start 14⟩)) ∧
        (∀ n : Fin 24, n.val = s.opu.cfg.slot → s.bem.slots[n].defined = true →
          FieldWritten s t n s.opu.cfg.start 14 ((generatorSteps 16 s.opu.generator).toNat % 10000).testBit) ∧
        (∀ n : Fin 24, n.val = s.opu.cfg.slot → s.bem.slots[n].defined = false → t.bem = s.bem))

/-- R60, R72, R78: at the claim wait limit a PENDING claim is removed and the check that waits for it ends with
RACK_BUSY; with no order queued the station is READY. R107, R108: a supply retry that waits for it ends in SAFE: the
station is in HOLD with SUPPLY_SAFE, and the queue is flushed. R82, R83, R180, R182: a check in PROMPTING keeps its
measured value in the verdict RACK_BUSY, and its prompt is ended. -/
def Obligations.ClaimWaitExpiryEndsCheck : Prop :=
  ∀ (s : State) (c : OwnClaim) (n : Nat), s.resetHeld = false → s.clu.claim = some c → c.granted = false →
    c.wait = some n → s.clu.deferred = none →
    (∀ k, c.requester = .ckr → s.ckr = some k → k.waitsOn = .claim c.resource → k.stage ≠ .prompting →
      s.oi.queue = [] → s.oi.station = .running → Reaches (exec .claimWaitExpiry s) fun t =>
        Judged s t (k.contentEndedBy .rackBusy k.flags) ∧ t.clu.claim = none ∧ t.clu.peers = s.clu.peers ∧
        t.oi = { s.oi with station := .ready } ∧
        (s.spu.rail = .waitInrush → s.spu.retry = false → t.spu.rail = .off)) ∧
    (∀ k, c.resource = .operator → c.requester = .ckr → RunsAlone s k → k.stage = .prompting →
      k.waitsOn = .claim .operator → Reaches (exec .claimWaitExpiry s) fun t =>
        Judged s t (k.contentAnswered .rackBusy k.attempts) ∧ t.clu.claim = none ∧ t.clu.peers = s.clu.peers ∧
        t.oi = s.oiReady ∧ t.opu.errors = s.opu.errors ∧ t.opu.cfg = s.opu.cfg ∧
        t.opu.generator = s.opu.generator ∧ t.opu.state = .idle ∧ (s.opu.state ≠ .idle →
          t.opu.prompt = none ∧ t.opu.place = none ∧ t.opu.entry = [] ∧ t.opu.attempts = 0 ∧
          t.opu.promptTimer = none ∧ t.opu.lookTimer = none ∧ t.opu.lamp = false ∧ t.opu.shown = [])) ∧
    (c.requester = .spu → s.spu.retry = true → s.spu.rail = .waitInrush → s.ckr = none → s.oi.station = .ready →
      Reaches (exec .claimWaitExpiry s) fun t =>
        t.spu = { s.spu.sourceOff .safe with
          offTimer := none, recovery := none, dischargeTimer := none, retry := false } ∧
        t.clu = { s.clu with claim := none } ∧ t.oi = { s.oi with queue := [], station := .hold, safeHold := true } ∧
        t.ckr = none ∧ Formed s t (s.flushed false) ∧ t.bem.queue = [] ∧
        (∀ n : Fin 24, t.bem.slots[n].enabled = false) ∧
        (s.rli.silent = false → ∃ a cls, t.rli.buffer = some (a, cls) ∧ a.claim = none))

/-- R64, R76: at the audible wait limit the waiting request is gone; the check that sent it ends with RACK_BUSY, and
with no such check nothing else follows. -/
def Obligations.AudibleWaitExpiryEndsCheck : Prop :=
  ∀ (s : State) (n : Nat), s.resetHeld = false → s.clu.audible = some n →
    (s.ckr = none → exec .audibleWaitExpiry s = .next (s.setClu { s.clu with audible := none })) ∧
    (∀ k, s.ckr = some k → k.waitsOn = .audible → s.oi.queue = [] → s.oi.station = .running →
      Reaches (exec .audibleWaitExpiry s) fun t =>
        Judged s t (k.contentEndedBy .rackBusy k.flags) ∧ t.clu.audible = none ∧
        t.oi = { s.oi with station := .ready })

/-- R51, R61, R73: at the end of the INRUSH hold the claim is released and the change announced; a deferred request is
taken then as a new PENDING claim with a new ticket and the full wait limit. -/
def Obligations.InrushHoldExpiryReleases : Prop :=
  ∀ (s : State) (c : OwnClaim) (k : CheckRecord) (n : Nat), s.resetHeld = false → s.clu.claim = some c →
    c.resource = .inrush → c.requester = .ckr → s.ckr = some k → k.holdTimer = some n → k.Waits →
    (s.clu.deferred = none → Reaches (exec .inrushHoldExpiry s) fun t =>
      t.clu = { s.clu with claim := none } ∧ t.ckr = some { k with holdTimer := none } ∧ t.oi = s.oi ∧
      t.spu = s.spu ∧ t.bem = s.bem ∧ t.vdu = s.vdu ∧ t.opu = s.opu ∧ t.rli.replies = s.rli.replies ∧
      (s.rli.silent = false → ∃ a cls, t.rli.buffer = some (a, cls) ∧ a.claim = none)) ∧
    (∀ q, s.clu.deferred = some q → (q.requester ≠ .ckr ∨ q.resource ≠ .inrush) →
      Reaches (exec .inrushHoldExpiry s) fun t =>
        t.clu.deferred = none ∧ t.ckr = some { k with holdTimer := none } ∧
        t.clu.claim = some ⟨q.resource, newTicket s q.resource, false, q.amount, q.requester, .notBegun,
          some (s.oi.rack.claimWait * 1000)⟩ ∧ t.clu.lastTicket q.resource = newTicket s q.resource)

/-! ## Running a check (chapter 4) -/

/-- R70, R79, R80, R141, R155: when the settle time is over the measurement is handed to its unit: a CURRENT window
opens; a SOUND window opens when QUIET is held; a light channel ranges from its present gain, with its range timer
started; under a gain override (R142) it opens its window at once at that gain, brought into Gmin to Gmax, with lock
BAND. R82, R83: with neither measurement nor prompt the check ends DONE; with a prompt alone it enters PROMPTING. R79,
R130, R163: a BUSFIELD is read at once: NO_DATA where the slot is not fresh or the field goes beyond the last payload,
else the raw value of the field, in two's complement where it is signed, times the denominator over the numerator,
rounded half away from zero, plus the offset, brought into 32 bits; the check then ends with the verdict of its limits,
or, with a prompt and judged PASS, enters PROMPTING. -/
def Obligations.CheckSettleExpiryHandsMeasurementOver : Prop :=
  ∀ (s : State) (k : CheckRecord) (m : Nat), s.resetHeld = false → s.ckr = some k → k.stage = .settling →
    k.stageTimer = some m →
    let measuring := s.setCkr (some { k with stageTimer := none, stage := .measuring, waitsOn := .measurement })
    (∀ n, k.order.meas = some (.current n) →
      exec .checkSettleExpiry s = .next (measuring.setCsu { s.csu with
        window := .current, length := n, count := 0, currentSum := 0 })) ∧
    (∀ n th hy, k.order.meas = some (.sound n th hy) → holdsQuiet s = true →
      exec .checkSettleExpiry s = .next (measuring.setCsu { s.csu with
        window := .sound, length := n, count := 0, threshold := th, hysteresis := hy, rearm := th - hy
        armed := false, tones := 0, peak := 0, disturbances := 0 })) ∧
    (∀ n th hy, k.order.meas = some (.sound n th hy) → holdsQuiet s = false →
      exec .checkSettleExpiry s = .next (s.setCkr (some { k with stageTimer := none }))) ∧
    (∀ (n : Fin 8) t w, k.order.meas = some (.light ⟨n, t, none, w⟩) →
      Reaches (exec .checkSettleExpiry s) fun u =>
        u.ckr = measuring.ckr ∧ u.ltu[n].state = .ranging ∧ u.ltu[n].gain = s.ltu[n].gain ∧
        u.ltu[n].target = t.getD 2048 ∧ u.ltu[n].window = w ∧ u.ltu[n].cal = s.ltu[n].cal ∧
        u.ltu[n].lock = .none ∧ u.ltu[n].rangeTimer = some (20 * (1 + s.ltu[n].cal.timeoutIndex)) ∧
        u.ltu[n].override = false ∧ u.ltu[n].reranged = false ∧
        (∀ i : Fin 8, i ≠ n → u.ltu[i] = s.ltu[i]) ∧ u.csu = s.csu ∧ u.clu = s.clu ∧ u.vdu = s.vdu) ∧
    (∀ (n : Fin 8) t g w, k.order.meas = some (.light ⟨n, t, some g, w⟩) →
      Reaches (exec .checkSettleExpiry s) fun u =>
        u.ckr = measuring.ckr ∧ u.ltu[n].state = .window ∧
        u.ltu[n].gain = max s.ltu[n].cal.gmin (min s.ltu[n].cal.gmax g) ∧ u.ltu[n].lock = .band ∧
        u.ltu[n].override = true ∧ u.ltu[n].reranged = false ∧ u.ltu[n].rangeTimer = none ∧ u.ltu[n].sum = 0 ∧
        u.ltu[n].count = 0 ∧ u.ltu[n].saturated = false ∧ u.ltu[n].target = t.getD 2048 ∧ u.ltu[n].window = w ∧
        u.ltu[n].cal = s.ltu[n].cal ∧
        (∀ i : Fin 8, i ≠ n → u.ltu[i] = s.ltu[i]) ∧ u.csu = s.csu ∧ u.clu = s.clu ∧ u.vdu = s.vdu) ∧
    (k.order.meas = none → k.order.prompt = none → k.value = none → RunsAlone s k →
      Reaches (exec .checkSettleExpiry s) fun t => t.oi = s.oiReady ∧
        Judged s t ⟨k.order.checkId, .done, none, k.order.kind, k.gain, k.aux, k.flags, k.attempts⟩) ∧
    (∀ p, k.order.meas = none → k.order.prompt = some p → Reaches (exec .checkSettleExpiry s) fun t =>
      Prompted s t { k with stageTimer := none } p) ∧
    ∀ (b : BusField) (n : Fin 8), k.order.meas = some (.busfield b) → b.slot = n.val → RunsAlone s k →
      let c := s.bem.captures[n]
      let there := c.fresh = true ∧ b.start + b.len ≤ 8 * c.lastLen
      (¬ there → Reaches (exec .checkSettleExpiry s) fun t => t.oi = s.oiReady ∧ t.bem.captures = s.bem.captures ∧
        Judged s t ⟨k.order.checkId, .noData, none, .busfield, k.gain, k.aux, k.flags, k.attempts⟩) ∧
      (∀ (u : Nat) (raw x : Int) (v : Verdict), there → 1 ≤ b.len → b.num ≠ 0 →
        u = c.last.toNat / 2 ^ b.start % 2 ^ b.len →
        raw = (if b.signed = true ∧ 2 ^ (b.len - 1) ≤ u then (u : Int) - 2 ^ b.len else u) →
        RoundsAway (raw * b.den) b.num x →
        let value := max (-2147483648) (min 2147483647 (x + b.offset))
        LimitVerdict k.order.low k.order.high value v →
        (k.order.prompt = none ∨ v ≠ .pass → Reaches (exec .checkSettleExpiry s) fun t => t.oi = s.oiReady ∧
          t.bem.captures = s.bem.captures ∧ (s.clu.deferred = none → t.opu = s.opu) ∧
          Judged s t ⟨k.order.checkId, v, some value, .busfield, k.gain, k.aux, k.flags, k.attempts⟩) ∧
        (∀ p, k.order.prompt = some p → v = .pass → Reaches (exec .checkSettleExpiry s) fun t =>
          Prompted s t { k with stageTimer := none, value := some value, judged := .pass } p))

/-- R21, R24, R50, R68, R72, R96: a check that may start is taken from the head of the queue; its SUPPLY_SET from OFF
puts the rail in WAIT_INRUSH with the setpoint rounded down to 10 mV, and takes an INRUSH claim, PENDING, with a new
ticket, the order's amount or the configured default, and the full wait limit. -/
def Obligations.CheckStartRequestsInrush : Prop :=
  ∀ (s : State) (o : OrderRec) (rest : List OrderRec) (target rate : Nat) (as : List Action), s.resetHeld = false →
    s.oi.queue = o :: rest → s.oi.station = .ready → s.ckr = none → s.spu.rail = .off → s.spu.retry = false →
    s.clu.claim = none → o.actions = .supplySet target rate :: as →
    Reaches (exec .checkStart s) fun t =>
      t.oi = { s.oi with queue := rest, station := .running } ∧
      t.spu = { s.spu with
        rail := .waitInrush, setpoint := target / 10 * 10, rate := rate, effective := 0, crank := none
        shortCount := 0, overCurrentCount := 0, overVoltageCount := 0 } ∧
      t.clu.claim = some ⟨.inrush, newTicket s .inrush, false, o.inrush.getD s.oi.rack.inrush, .ckr, .notBegun,
        some (s.oi.rack.claimWait * 1000)⟩ ∧ t.clu.lastInrush = newTicket s .inrush ∧
      t.clu.peers = s.clu.peers ∧ t.vdu = s.vdu ∧ t.bem = s.bem ∧ t.rli.replies = s.rli.replies ∧
      ∃ k, t.ckr = some k ∧ k.order = o ∧ k.stage = .stimulating ∧ k.index = 0 ∧ k.waitsOn = .claim .inrush ∧
        k.restore = [] ∧ k.flags = { clamped := o.clamped, busLate := s.bem.slots.toList.any (·.late) }

/-- R71, R74 to R79, R84, R97 to R99, R116, R118, R122 to R124, R130: the first action of a check that starts, where it
is the only one and a settle follows; where the first is done at once, the next is carried out in the same step. A
SUPPLY_SET in ON, SLEWING or CRANKING starts a slew from the present level, done at once where the level is there
already, with the output reading as it stands (the model's field, log 6); a CRANK steps to the dip level, no higher than
the setpoint; a SUPPLY_OFF goes by the table of R99; a CRANK or SUPPLY_OFF in OFF is done at once. MESSAGE_ON and
MESSAGE_OFF set and clear the enabled flag; an event-only slot gives a snapshot when it is enabled while it may
transmit, and a waiting instance goes with MESSAGE_OFF. A FIELD_WRITE puts its raw value, rounded and brought into
range, into the field, marks CLAMPED and notes what to restore; an audible one does so with NOISY set and announced,
unless a LIVE peer QUIET claim is in view, for which it waits, and asks for QUIET first in a SOUND check. Where a
BUSFIELD is to be read, its slot is no longer fresh. What a write has put into a field, writing back what the field held
takes out again. The entry of a field written before without restore holds what this write found by the model's choice
(log 42). -/
def Obligations.CheckStartCarriesOutAction : Prop :=
  (∀ (s : State) (o : OrderRec) (rest : List OrderRec), s.resetHeld = false → s.oi.queue = o :: rest →
    s.oi.station = .ready → s.ckr = none → s.spu.rail ≠ .discharging → s.spu.retry = false →
    let k := o.newCheck (s.bem.slots.toList.any (·.late))
    let started := s.setOi { s.oi with queue := rest, station := .running }
    let waiting (w : OpenRequest) := started.setCkr (some { k with waitsOn := w })
    let finished := started.setCkr (some k.settlingNow)
    let transmits := s.spu.rail = .on ∨ s.spu.rail = .slewing ∨ s.spu.rail = .cranking
    (∀ target rate, o.actions = [.supplySet target rate] → k.SettlesNext → transmits →
      let level := target / 10 * 10
      (s.spu.effective ≠ level → exec .checkStart s = .next ((waiting .rail).setSpu { s.spu with
        rail := .slewing, setpoint := level, rate := rate, crank := none })) ∧
      (s.spu.effective = level → exec .checkStart s = .next (finished.setSpu
        { s.spu with setpoint := level, rate := rate }.arrived))) ∧
    (∀ dip time rate, o.actions = [.crank dip time rate] → k.SettlesNext →
      let level := min (dip / 10 * 10) s.spu.setpoint
      (s.spu.rail = .off → exec .checkStart s = .next finished) ∧
      (transmits → exec .checkStart s = .next ((waiting .rail).setSpu { s.spu with
        rail := .cranking, effective := level, crank := some ⟨level, some time, rate⟩ }))) ∧
    (∀ (n : Fin 24) target rate, o.actions = [.messageOff n, .supplySet target rate] →
      s.bem.slots[n].enabled = false → transmits → s.spu.effective ≠ target / 10 * 10 →
      exec .checkStart s = .next ((started.setCkr (some { k with index := 1, waitsOn := .rail })).setSpu { s.spu with
        rail := .slewing, setpoint := target / 10 * 10, rate := rate, crank := none })) ∧
    (o.actions = [.supplyOff] → k.SettlesNext →
      (s.spu.rail = .off → exec .checkStart s = .next finished) ∧
      (transmits → Reaches (exec .checkStart s) fun t => s.spu.OffAsked t.spu ∧ t.oi = started.oi ∧
        t.clu = s.clu ∧ t.rli = s.rli ∧ t.vdu = s.vdu ∧ t.bem.queue = [] ∧ t.bem.schedule = none ∧
        t.ckr = if s.spu.outputMv < 500 then finished.ckr else (waiting .rail).ckr)) ∧
    (∀ n : Fin 24, k.SettlesNext → let m := s.bem.slots[n]
      let with_ (m' : MessageSlot) := finished.setBem { s.bem with slots := s.bem.slots.setIfInBounds n m' }
      let may := m.period = 0 ∧ transmits ∧ s.bem.silent = false
      (o.actions = [.messageOn n] →
        (m.defined = false ∨ m.enabled = true → exec .checkStart s = .next finished) ∧
        (m.defined = true → m.enabled = false → ¬ may →
          exec .checkStart s = .next (with_ { m with enabled := true })) ∧
        (m.defined = true → m.enabled = false → may → m.Proper → Reaches (exec .checkStart s) fun t =>
          ∃ p, SnapshotOf m p ∧ ⟨n, m.id, m.len, p⟩ ∈ t.bem.queue ∧ t.bem.slots[n].payload = p ∧
            t.bem.slots[n].enabled = true ∧ ∃ late : Bool, t.ckr = some (k.settlingNow.noted late))) ∧
      (o.actions = [.messageOff n] →
        (m.enabled = false → exec .checkStart s = .next finished) ∧
        (m.enabled = true → exec .checkStart s = .next (finished.setBem { s.bem with
          queue := s.bem.queue.filter (·.slot ≠ n.val)
          slots := s.bem.slots.setIfInBounds n { m with
            enabled := false, late := m.late && !s.bem.queue.any (·.slot == n.val) } })))) ∧
    (∀ (w : FieldWrite) (n : Fin 24), o.actions = [.fieldWrite w] → w.Fits s n →
      let landed (t : State) :=
        Landed s t k w n ∧ t.oi = started.oi ∧ t.spu = s.spu ∧ t.vdu = s.vdu ∧ t.opu = s.opu
      (w.audible = false → k.SettlesNext → Reaches (exec .checkStart s) fun t =>
        landed t ∧ t.clu = s.clu ∧ t.rli = s.rli) ∧
      (w.audible = true → k.SettlesNext → holdsQuiet s = false → peerClaims s .quiet = [] →
        Reaches (exec .checkStart s) fun t => landed t ∧ t.clu = { s.clu with noisy := true } ∧
          t.rli.replies = s.rli.replies ∧ (s.clu.noisy = false → s.rli.silent = false →
            ∃ a cls, t.rli.buffer = some (a, cls) ∧ a.noisy = true)) ∧
      (w.audible = true → k.SettlesNext → holdsQuiet s = false → peerClaims s .quiet ≠ [] →
        exec .checkStart s = .next ((waiting .audible).setClu { s.clu with
          audible := some (s.oi.rack.claimWait * 1000) })) ∧
      (∀ v th hy, w.audible = true → o.meas = some (.sound v th hy) → s.clu.claim = none →
        Reaches (exec .checkStart s) fun t => t.ckr = (waiting (.claim .quiet)).ckr ∧ t.oi = started.oi ∧
          t.bem = s.bem ∧ t.spu = s.spu ∧ t.vdu = s.vdu ∧ t.clu.claim = some ⟨.quiet, newTicket s .quiet, false, 0,
            .ckr, .notBegun, some (s.oi.rack.claimWait * 1000)⟩ ∧ t.clu.noisy = s.clu.noisy)) ∧
    (∀ (b : BusField) (n : Fin 8), o.actions = [] → o.settle ≠ 0 → o.meas = some (.busfield b) → b.slot = n.val →
      exec .checkStart s = .next ((started.setCkr (some { k with
        stage := .settling, stageTimer := some o.settle })).setBem { s.bem with
          captures := s.bem.captures.setIfInBounds n { s.bem.captures[n] with fresh := false } }))) ∧
  ∀ (p q : Payload) (start len : Nat), start + len ≤ 64 →
    writeField (writeField p start len q) start len (readField p start len) = p

/-! ## Orders, receipts and controls (chapter 2) -/

/-- R24, R28: an ORDER that a test refuses is dropped and answered with the code of the first test that holds, with the
free place count of the queue as it stands; the frame has reloaded the presence timer all the same (R40). R25, R26: the
faults that make an order with the right layout malformed, and those that make it impossible in the configuration in
force, one by one. -/
def Obligations.OrderRefusedByFirstTest : Prop :=
  ∀ (s : State) (f : RxFrame) (p : List Byte) (code : ReceiptCode), Ends s f (.order p) →
    let full := 8 ≤ s.oi.queue.length
    let taken := idTaken s (leadingHalf p) = true
    let bad := parseOrder p = none ∨ ∃ o, parseOrder p = some o ∧ (o.malformed = true ∨ orderImpossible s o = true)
    (((full ∧ code = .queueFull) ∨ (¬ full ∧ taken ∧ code = .duplicate) ∨
      (¬ full ∧ ¬ taken ∧ bad ∧ code = .invalid) ∨
      (¬ full ∧ ¬ taken ∧ ¬ bad ∧ s.oi.station = .hold ∧ code = .held) ∨
      (¬ full ∧ ¬ taken ∧ ¬ bad ∧ s.oi.station = .unconfigured ∧ code = .unconfigured)) →
    exec (.order f) s = .next ((heardFrame s).setRli ((heardFrame s).rli.handInReply
      (.receipt ⟨.order, leadingHalf p, code, 8 - s.oi.queue.length⟩)))) ∧
    (∀ o : OrderRec, o.malformed = true ↔
      let badRun (start len : Nat) := 63 < start ∨ len = 0 ∨ 32 < len ∨ 64 < start + len
      let isSound := ∃ n t h, o.meas = some (.sound n t h)
      o.checkId = 0 ∨ 4 < o.actions.length ∨
      (∃ d t r, .crank d t r ∈ o.actions ∧ (t = 0 ∨ 10000 < t)) ∨
      (∃ w, .fieldWrite w ∈ o.actions ∧ (23 < w.slot ∨ badRun w.start w.len ∨ w.num = 0 ∨ w.den = 0 ∨
        (w.audible = true ∧ w.restore = false))) ∨
      (∃ n, (.messageOn n ∈ o.actions ∨ .messageOff n ∈ o.actions) ∧ 23 < n) ∨
      (∃ m, o.meas = some (.light m) ∧ (7 < m.channel ∨ m.target = some 0 ∨ ∃ t, m.target = some t ∧ 4094 < t)) ∨
      (∃ n, o.meas = some (.current n) ∧ (n = 0 ∨ 10000 < n)) ∨
      (∃ n t h, o.meas = some (.sound n t h) ∧ (n = 0 ∨ 60000 < n ∨ 4095 < t ∨ 4095 < h)) ∨
      (∃ m, o.meas = some (.busfield m) ∧ (7 < m.slot ∨ badRun m.start m.len ∨ m.num = 0 ∨ m.den = 0)) ∨
      (∃ n, o.inrush = some n ∧ (n = 0 ∨ 100 < n)) ∨ (∃ q, o.prompt = some q ∧ 40 < q.text.length) ∨
      (isSound ∧ o.prompt ≠ none) ∨
      (isSound ∧ ∃ (i j : Nat) (w : FieldWrite) (t r : Nat), i < j ∧ o.actions[i]? = some (.fieldWrite w) ∧
        w.audible = true ∧ o.actions[j]? = some (.supplySet t r)) ∨
      (∃ l h, o.low = some l ∧ o.high = some h ∧ h < l)) ∧
    ∀ o : OrderRec, orderImpossible s o = true ↔
      let barred (n start len : Nat) :=
        (slotAt s n).defined = false ∨ 8 * (slotAt s n).len < start + len ∨
        (∃ a l, (slotAt s n).counter = some (a, l) ∧ start < a + l ∧ a < start + len) ∨
        (∃ k, (slotAt s n).checksum = some k ∧ start < 8 * k + 8 ∧ 8 * k < start + len)
      (∃ w, .fieldWrite w ∈ o.actions ∧ barred w.slot w.start w.len) ∨
      (∃ n, (.messageOn n ∈ o.actions ∨ .messageOff n ∈ o.actions) ∧ (slotAt s n).defined = false) ∨
      (∃ m, o.meas = some (.busfield m) ∧ (captureAt s m.slot).defined = false) ∨
      (∃ q, o.prompt = some q ∧ q.mode ≠ .yesNo ∧ barred s.opu.cfg.slot s.opu.cfg.start 14)

/-- R24, R27, R28: an accepted ORDER joins the tail of the queue as its clamped copy; the RECEIPT carries the free
places after it has joined. With a check in flight that waits, and while the rail keeps checks from starting, nothing
else follows. R21, R68, R71, R79: in READY with no check in flight and an empty queue it starts at once; an order
without actions settles then. -/
def Obligations.OrderAcceptedJoinsQueue : Prop :=
  ∀ (s : State) (f : RxFrame) (p : List Byte) (o : OrderRec), Ends s f (.order p) →
    s.oi.queue.length < 8 → idTaken s (leadingHalf p) = false → parseOrder p = some o → o.malformed = false →
    orderImpossible s o = false →
    let copy := clampOrder s o
    let joined := ((heardFrame s).setOi { (heardFrame s).oi with
        queue := s.oi.queue ++ [copy] }).setRli ((heardFrame s).rli.handInReply
      (.receipt ⟨.order, leadingHalf p, .accepted, 8 - (s.oi.queue.length + 1)⟩))
    (∀ k, s.oi.station = .running → s.ckr = some k → k.Waits → exec (.order f) s = .next joined) ∧
    (s.oi.station = .ready → s.ckr = none → s.spu.rail = .discharging ∨ s.spu.retry = true →
      exec (.order f) s = .next joined) ∧
    (s.oi.station = .ready → s.ckr = none → s.oi.queue = [] → s.spu.rail ≠ .discharging → s.spu.retry = false →
      o.actions = [] → copy.settle ≠ 0 → (∀ b, o.meas ≠ some (.busfield b)) → (∀ n t h, o.meas ≠ some (.sound n t h)) →
      exec (.order f) s = .next ((joined.setOi { joined.oi with queue := [], station := .running }).setCkr
        (some { copy.newCheck (s.bem.slots.toList.any (·.late)) with
          stage := .settling, stageTimer := some copy.settle })))

/-- R27: what an accepted order's copy holds: levels, rates, settle, window, gain override and timeout brought into
range, everything else as it came; and when it is CLAMPED. -/
def Obligations.OrderCopyIsClamped : Prop :=
  ∀ (s : State) (o : OrderRec), o.clamped = false →
    let c := clampOrder s o
    c.checkId = o.checkId ∧ c.low = o.low ∧ c.high = o.high ∧ c.inrush = o.inrush ∧
    c.settle = min o.settle 60000 ∧
    (∀ (i t r : Nat), o.actions[i]? = some (.supplySet t r) →
      c.actions[i]? = some (.supplySet (min t 18000) (max 1 (min 2000 r)))) ∧
    (∀ (i d t r : Nat), o.actions[i]? = some (.crank d t r) →
      c.actions[i]? = some (.crank (min d 18000) t (max 1 (min 2000 r)))) ∧
    c.actions.length = o.actions.length ∧
    (∀ (i : Nat) (a : Action), o.actions[i]? = some a → (∀ t r, a ≠ .supplySet t r) → (∀ d t r, a ≠ .crank d t r) →
      c.actions[i]? = some a) ∧
    (o.prompt = none → c.prompt = none) ∧ ((∀ m, o.meas ≠ some (.light m)) → c.meas = o.meas) ∧
    (∀ (m : LightMeas) (n : Fin 8), o.meas = some (.light m) → m.channel = n.val → ∃ m', c.meas = some (.light m') ∧
      m'.override = m.override.map fun g => max s.ltu[n].cal.gmin (min s.ltu[n].cal.gmax g)) ∧
    (∀ p, o.prompt = some p → c.prompt = some { p with timeout := max 1 (min 120 p.timeout) }) ∧
    (∀ m, o.meas = some (.light m) → ∃ m', c.meas = some (.light m') ∧ m'.channel = m.channel ∧
      m'.target = m.target ∧ m'.window = max 16 (min 4096 ((m.window + 15) / 16 * 16)) ∧ 16 ∣ m'.window) ∧
    (c.clamped = false ↔ c = o)

/-- R28 to R31, R34, R86 to R88, R99, R100, R167: an addressed ABORT or END_DUT is answered ACCEPTED, with 8 places free
where it flushes the queue, a broadcast one is not answered. ABORT ends the check that its target names, or any check
without a target, with ABORTED, and leaves another check running; with its flush flag each queued order gives a NOT_RUN
record, oldest first, behind the record of an ended check; without it the next order starts, unless the rail is
DISCHARGING; the free places in the RECEIPT do not count that start (log 16). The end of a check cancels its power-up
alone (a ramp that stands at its setpoint may have arrived first: R100, free, log 44), puts back its restore list and
stops its measurement (the idle CSU: log 39). END_DUT does all this to any check, and it takes the rail off by the table
of R99 and clears the enabled flags and the transmit queue; message definitions, peer view, identity and error count are
kept. -/
def Obligations.ControlAbortAndEndDut : Prop :=
  ∀ (s : State) (f : RxFrame) (b : Bool) (p : List Byte), Ends s f (.control b p) →
    let answered (free : Nat) := if b then heardFrame s else (heardFrame s).setRli ((heardFrame s).rli.handInReply
      (.receipt ⟨.control, leadingHalf p, .accepted, free⟩))
    let receiptFirst (t : State) (free : Nat) := ∃ l, t.rli.replies = s.rli.replies ++
      (if b = false ∧ s.rli.hasRoom = true then [.receipt ⟨.control, leadingHalf p, .accepted, free⟩] else []) ++ l
    (∀ (flush : Bool) (target : Option Half), parseControl p = some (.abort flush target) →
      let named (k : CheckRecord) := target = none ∨ target = some k.order.checkId
      (flush = false → Still s → (∀ k, s.ckr = some k → ¬ named k) →
        exec (.controlAbort f) s = .next (answered (8 - s.oi.queue.length))) ∧
      (∀ k, s.ckr = some k → named k → s.oi.station = .running → flush = true ∨ s.oi.queue = [] →
        Reaches (exec (.controlAbort f) s) fun t =>
          Formed s t (k.contentEndedBy .aborted k.flags :: s.flushed false) ∧ t.ckr = none ∧ t.clu.noisy = false ∧
          t.oi = { (heardFrame s).oi with queue := [], station := .ready } ∧ t.clu.peers = s.clu.peers ∧
          s.spu.PowerUpCancelled t.spu ∧ Restored k s t ∧ MeasurementStopped k s t ∧ receiptFirst t 8) ∧
      (∀ k o rest, s.ckr = some k → named k → s.oi.station = .running → flush = false → s.oi.queue = o :: rest →
        s.spu.retry = false →
        (s.spu.rail ≠ .discharging → s.spu.rail ≠ .ramping → o.actions = [] → o.settle ≠ 0 → o.meas = none →
          Reaches (exec (.controlAbort f) s) fun t =>
            Formed s t [k.contentEndedBy .aborted k.flags] ∧ t.oi = { (heardFrame s).oi with queue := rest } ∧
            receiptFirst t (8 - s.oi.queue.length) ∧
            ∃ k', t.ckr = some k' ∧ k'.order = o ∧ k'.stage = .settling ∧ k'.stageTimer = some o.settle) ∧
        (s.spu.rail = .discharging → Reaches (exec (.controlAbort f) s) fun t =>
          Formed s t [k.contentEndedBy .aborted k.flags] ∧ t.ckr = none ∧
          t.oi = { (heardFrame s).oi with station := .ready } ∧ receiptFirst t (8 - s.oi.queue.length))) ∧
      (flush = true → (s.ckr = none ∧ s.oi.station ≠ .running) ∨ (∃ k, s.ckr = some k ∧ k.Waits ∧ ¬ named k) →
        Reaches (exec (.controlAbort f) s) fun t =>
        Formed s t (s.flushed false) ∧ t.ckr = s.ckr ∧ t.oi = { (heardFrame s).oi with queue := [] } ∧
        t.spu = s.spu ∧ t.bem = s.bem ∧ t.clu = s.clu ∧ receiptFirst t 8)) ∧
    (parseControl p = some .endDut → Reaches (exec (.controlEndDut f) s) fun t =>
      t.ckr = none ∧ t.oi = { (heardFrame s).oi with
        queue := [], station := if s.oi.station = .running then .ready else s.oi.station } ∧
      s.spu.OffAsked t.spu ∧ t.bem.queue = [] ∧ t.bem.current = s.bem.current ∧
      (∀ n : Fin 24, t.bem.slots[n] = { s.bem.slots[n] with
        payload := t.bem.slots[n].payload, enabled := false, late := false }) ∧
      t.clu.peers = s.clu.peers ∧ t.opu.errors = s.opu.errors ∧ receiptFirst t 8 ∧
      (s.ckr = none → Formed s t (s.flushed false) ∧
        ∀ n : Fin 24, t.bem.slots[n].payload = s.bem.slots[n].payload) ∧
      (∀ k, s.ckr = some k → Formed s t (k.contentEndedBy .aborted k.flags :: s.flushed false) ∧
        t.clu.noisy = false ∧ Restored k s t ∧ MeasurementStopped k s t))

/-- R19, R28, R29, R32, R99, R193: RESTART empties both buffers before it is answered, so that its RECEIPT, with 8
places free, stands first, before the verdicts; a transmission in progress is abandoned, uncounted, and the line is
BUSY. It ends the check with ABORTED and flushes the queue, takes the rail off by the table of R99 and clears the
messages, releases claims and NOISY, and ends the prompt, discarding its entry, attempts and code; configuration, peer
view, identity, error count, hold causes and the state of HOLD are kept. A broadcast RESTART does the same without a
RECEIPT. -/
def Obligations.ControlRestartClearsStation : Prop :=
  ∀ (s : State) (f : RxFrame) (b : Bool) (p : List Byte), s.resetHeld = false → classify s.rli f = .control b p →
    parseControl p = some .restart → Reaches (exec (.controlRestart f) s) fun t =>
      t.ckr = none ∧ t.oi = { (heardFrame s).oi with
        queue := [], station := if s.oi.station = .running then .ready else s.oi.station } ∧
      t.clu.claim = none ∧ t.clu.deferred = none ∧ t.clu.noisy = false ∧ t.clu.audible = none ∧
      t.clu.peers = s.clu.peers ∧ s.spu.OffAsked t.spu ∧
      t.bem.queue = [] ∧ t.bem.current = s.bem.current ∧
      (∀ n : Fin 24, t.bem.slots[n] = { s.bem.slots[n] with
        payload := t.bem.slots[n].payload, enabled := false, late := false }) ∧
      t.opu.errors = s.opu.errors ∧ t.opu.cfg = s.opu.cfg ∧ t.opu.generator = s.opu.generator ∧
      t.opu.state = .idle ∧ (s.opu.state ≠ .idle → t.opu.entry = [] ∧ t.opu.attempts = 0 ∧ t.opu.code = 0 ∧
        t.opu.prompt = none ∧ t.opu.promptTimer = none ∧ t.opu.lookTimer = none) ∧
      (s.rli.contention.sending = true → t.rli.contention = .busy ∧ t.rli.drove = true ∧
        t.rli.fairness = s.rli.fairness) ∧
      (s.rli.contention.sending = false → t.rli.contention = .gap ∧ t.rli.drove = false) ∧
      t.rli.collisions = s.rli.collisions ∧ t.rli.lastSentClaim = s.rli.lastSentClaim ∧
      t.rli.lastSentNoisy = s.rli.lastSentNoisy ∧
      (s.clu.claim = none → s.clu.noisy = false → t.rli.buffer = none) ∧
      (∀ a cls, t.rli.buffer = some (a, cls) → a.claim = none ∧ a.noisy = false) ∧
      (∃ l, t.rli.replies = (if b then [] else [.receipt ⟨.control, leadingHalf p, .accepted, 8⟩]) ++ l) ∧
      ∀ xs : List VerdictContent,
        ((s.ckr = none ∧ xs = s.flushed false) ∨
          ∃ k, s.ckr = some k ∧ xs = k.contentEndedBy .aborted k.flags :: s.flushed false) →
        Formed s t xs ∧ (NoTakeNext s → s.oi.queue.length ≤ 8 →
          t.rli.replies = (if b then [] else [.receipt ⟨.control, leadingHalf p, .accepted, 8⟩]) ++
            (recordsOf s.bem.current s.vdu.seq xs).map .verdict)

/-- R28, R33, R131, R176: BEGIN_DUT is refused HELD, UNCONFIGURED or BUSY in that order; else GIVEN takes the variant,
RECEIVED is cleared, CURRENT has the variant and no serial, every pair tracker is empty and so is the summary; the ring,
the sequence count and the station state stay. -/
def Obligations.ControlBeginDut : Prop :=
  ∀ (s : State) (f : RxFrame) (p : List Byte) (v : Half), Ends s f (.control false p) →
    parseControl p = some (.beginDut v) →
    let answered (code : ReceiptCode) := (heardFrame s).setRli ((heardFrame s).rli.handInReply
      (.receipt ⟨.control, leadingHalf p, code, 8 - s.oi.queue.length⟩))
    let busy := s.ckr.isSome = true ∨ s.oi.queue ≠ [] ∨ s.spu.rail ≠ .off
    (s.oi.station = .hold → exec (.controlBeginDut f) s = .next (answered .held)) ∧
    (s.oi.station = .unconfigured → exec (.controlBeginDut f) s = .next (answered .unconfigured)) ∧
    (s.oi.station ≠ .hold → s.oi.station ≠ .unconfigured → busy →
      exec (.controlBeginDut f) s = .next (answered .busy)) ∧
    (s.oi.station ≠ .hold → s.oi.station ≠ .unconfigured → ¬ busy →
      Reaches (exec (.controlBeginDut f) s) fun t =>
        t.rli = (answered .accepted).rli ∧ t.oi = (heardFrame s).oi ∧ t.clu = s.clu ∧ t.ckr = none ∧
        t.spu = s.spu ∧ t.opu = s.opu ∧ t.vdu = { s.vdu with summary := ⟨0, 0, none, 0⟩ } ∧
        t.bem.given = some v ∧ t.bem.received = none ∧ t.bem.current = ⟨some v, none⟩ ∧
        t.bem.slots = s.bem.slots ∧ t.bem.queue = s.bem.queue ∧
        ∀ n : Fin 8, t.bem.captures[n] = { s.bem.captures[n] with tracker := none })

/-- R28, R35, R108, R190: with the key-switch inactive CLEAR_HOLD is refused HELD; with it active both causes are
cleared and the error count is 0, a rail in SAFE goes to OFF with its retry count 0, and a station in HOLD becomes
READY. -/
def Obligations.ControlClearHold : Prop :=
  ∀ (s : State) (f : RxFrame) (p : List Byte), Ends s f (.control false p) → parseControl p = some .clearHold →
    let answered (code : ReceiptCode) := (heardFrame s).setRli ((heardFrame s).rli.handInReply
      (.receipt ⟨.control, leadingHalf p, code, 8 - s.oi.queue.length⟩))
    let cleared := ((answered .accepted).setOi { (heardFrame s).oi with
      limitHold := false, safeHold := false
      station := if s.oi.station = .hold then .ready else s.oi.station }).setOpu { s.opu with errors := 0 }
    exec (.controlClearHold f false) s = .next (answered .held) ∧
    (Still s → s.spu.rail ≠ .safe → exec (.controlClearHold f true) s = .next cleared) ∧
    (AtRest s → s.spu.rail = .safe → Reaches (exec (.controlClearHold f true) s) fun t =>
      t.oi = cleared.oi ∧ t.rli = cleared.rli ∧ t.opu = cleared.opu ∧ t.clu = s.clu ∧ t.vdu = s.vdu ∧
      t.spu.rail = .off ∧ t.spu.retryCount = 0)

/-- R36, R173: TAKE_SUMMARY is answered by a SUMMARY frame of what stands, NORMAL and for address 30, in place of a
RECEIPT, and the summary is emptied exactly when the frame is QUEUED. R174: a take that fell among the records of a
flush has had its exchange there, and none is left (log 36). -/
def Obligations.ControlTakeSummary : Prop :=
  ∀ (s : State) (f : RxFrame) (b : Bool) (p : List Byte), Ends s f (.control b p) →
    parseControl p = some .takeSummary →
    (s.taken = false → s.rli.hasRoom = true → exec (.controlTakeSummary f) s = .next (((heardFrame s).setRli
      { (heardFrame s).rli with replies := s.rli.replies ++
          [.summary ⟨s.vdu.summary, s.bem.current, s.vdu.seq⟩] }).setVdu
      { s.vdu with summary := ⟨0, 0, none, 0⟩ })) ∧
    (s.taken = false → s.rli.hasRoom = false → exec (.controlTakeSummary f) s = .next (heardFrame s)) ∧
    (s.taken = true → exec (.controlTakeSummary f) s = .next ((heardFrame s).setTaken false)) ∧
    ∀ (x : SummaryFrame) (slot : BitVec 4), (Reply.summary x).cls = .normal ∧
      TxFrame.bytes slot (.reply (.summary x)) =
        frameBytes (nestAddress slot) 30 .summary (Reply.summary x).payload

/-- R28, R30, R38: a malformed CONTROL and a faulty CONFIGURE are answered INVALID and do nothing else; a malformed
broadcast CONTROL is ignored. -/
def Obligations.MalformedFramesAnswerInvalid : Prop :=
  ∀ (s : State) (f : RxFrame) (p : List Byte),
    let answered (kind : FrameKind) := (heardFrame s).setRli ((heardFrame s).rli.handInReply
      (.receipt ⟨kind, leadingHalf p, .invalid, 8 - s.oi.queue.length⟩))
    (Ends s f (.control false p) → parseControl p = none →
      exec (.controlMalformed f) s = .next (answered .control)) ∧
    (Ends s f (.control true p) → parseControl p = none →
      exec (.controlMalformed f) s = .next (heardFrame s)) ∧
    (Ends s f (.configure p) → parseConfigure p = none →
      exec (.configureInvalid f) s = .next (answered .configure))

/-- R37, R175: a QUERY that is not exactly a check id is answered INVALID; any other with a copy of the newest ring
record that has its check id, else with RECEIPT UNKNOWN_ID, as for check id 0; it changes nothing else. -/
def Obligations.QueryAnswersNewestRecord : Prop :=
  ∀ (s : State) (f : RxFrame) (p : List Byte), Ends s f (.query p) →
    let answered (x : Reply) := (heardFrame s).setRli ((heardFrame s).rli.handInReply x)
    (p.length ≠ 2 → ∃ id, (2 ≤ p.length → id = leadingHalf p) ∧
      exec (.query f) s = .next (answered (.receipt ⟨.query, id, .invalid, 8 - s.oi.queue.length⟩))) ∧
    ∀ b0 b1, p = [b0, b1] →
    let unknown := answered (.receipt ⟨.query, half b0 b1, .unknownId, 8 - s.oi.queue.length⟩)
    (half b0 b1 = 0 → exec (.query f) s = .next unknown) ∧
    ((∀ r ∈ s.vdu.ring, r.content.checkId ≠ half b0 b1) → exec (.query f) s = .next unknown) ∧
    (∀ older r newer, s.vdu.ring = older ++ r :: newer → r.content.checkId = half b0 b1 → half b0 b1 ≠ 0 →
      (∀ x ∈ newer, x.content.checkId ≠ half b0 b1) → exec (.query f) s = .next (answered (.verdict r)))

/-- R38: a valid section of any kind is answered BUSY and changes nothing unless the station is UNCONFIGURED or READY
with no check, an empty queue and the rail OFF. -/
def Obligations.ConfigureBusy : Prop :=
  ∀ (s : State) (f : RxFrame) (p : List Byte) (c : ConfigSection), Ends s f (.configure p) →
    parseConfigure p = some c →
    ¬ ((s.oi.station = .unconfigured ∨ s.oi.station = .ready) ∧ s.ckr = none ∧ s.oi.queue = [] ∧
      s.spu.rail = .off) →
    exec (match c with
      | .rack _ => .configureRack f
      | .supply _ => .configureSupply f
      | .light _ _ => .configureLight f
      | .operator _ => .configureOperator f
      | .message _ => .configureMessage f
      | .capture _ => .configureCapture f) s =
    .next ((heardFrame s).setRli ((heardFrame s).rli.handInReply
      (.receipt ⟨.configure, leadingHalf p, .busy, 8 - s.oi.queue.length⟩)))

/-- R38, R39, R111, R115, R128, R140, R192: an accepted section is answered ACCEPTED and replaces the one in force, each
number brought to the nearer end of its range; a RACK section makes the station READY and reloads the presence timer
with the new timeout; an OPERATOR section loads the generator. -/
def Obligations.ConfigureAccepted : Prop :=
  ∀ (s : State) (f : RxFrame) (p : List Byte), Ends s f (.configure p) →
    s.oi.station = .unconfigured ∨ s.oi.station = .ready → s.ckr = none → s.oi.queue = [] → s.spu.rail = .off →
    let h := (heardFrame s).setRli ((heardFrame s).rli.handInReply
      (.receipt ⟨.configure, leadingHalf p, .accepted, 8⟩))
    let within (lo hi n : Nat) := max lo (min hi n)
    (∀ b e w l i, parseConfigure p = some (.rack ⟨b, e, w, l, i⟩) →
      exec (.configureRack f) s = .next (h.setOi { h.oi with
        station := .ready, presence := some (within 1 60 l * 1000)
        rack := ⟨within 1 500 b, within 20 200 (e / 10 * 10), within 1 120 w, within 1 60 l, within 1 100 i⟩ })) ∧
    (∀ c r o, parseConfigure p = some (.supply ⟨c, r, o⟩) →
      exec (.configureSupply f) s = .next (h.setSpu { s.spu with
        cfg := ⟨within 100 5000 c, within 0 7 r, within 50 2000 o⟩ })) ∧
    (∀ (n : Fin 8) kc d g1 g2 sg bd sh ix, parseConfigure p = some (.light n ⟨kc, d, g1, g2, sg, bd, sh, ix⟩) →
      let lo := within 0 47 g1
      let hi := max lo (within 0 47 g2)
      exec (.configureLight f) s = .next (h.setLtu (s.ltu.setIfInBounds n { s.ltu[n] with
        cal := ⟨within 1 65535 kc, within 0 1023 d, lo, hi, within lo hi sg, within 16 512 bd, within 0 3 sh,
          within 0 15 ix⟩
        gain := within lo hi sg }))) ∧
    (∀ e l g n b, parseConfigure p = some (.operator ⟨e, l, g, n, b⟩) → s.opu.errors ≤ within 1 15 e →
      let seed := if g = 0 then 1 else g
      exec (.configureOperator f) s = .next (h.setOpu { s.opu with
        cfg := ⟨within 1 15 e, within 300 3000 l, seed, min n 23, min b 63⟩, generator := seed })) ∧
    (∀ (n : Fin 24) (m : MessageSection), m.slot = n.val → parseConfigure p = some (.message m) →
      exec (.configureMessage f) s = .next (h.setBem { s.bem with
        slots := s.bem.slots.setIfInBounds n (adjustMessage m) })) ∧
    (∀ (n : Fin 8) i d, parseConfigure p = some (.capture ⟨n, i, d⟩) →
      exec (.configureCapture f) s = .next (h.setBem { s.bem with
        captures := s.bem.captures.setIfInBounds n ⟨true, min i 2047, d, 0, 0, 65535, false, none⟩ }))

/-- R115: the adjusted definition of a message slot: identifier and length in range, the period 0 or 5 to 1000 ms, the
phase below the period, the enabled flag clear, the payload empty beyond its length, a counter and a checksum kept only
where they lie within the payload and apart, with the start bit as sent, the length brought into 1 to 8 and the position
as sent. -/
def Obligations.MessageSectionAdjusted : Prop :=
  ∀ m : MessageSection,
    let d := adjustMessage m
    d.defined = true ∧ d.enabled = false ∧ d.late = false ∧ d.id = min m.id 2047 ∧ d.len = min m.len 8 ∧
    (m.period = 0 → d.period = 0) ∧ (m.period ≠ 0 → d.period = max 5 (min 1000 m.period)) ∧
    (d.period = 0 → d.phase = 0) ∧ (d.period ≠ 0 → d.phase < d.period ∧ d.phase = min m.phase (d.period - 1)) ∧
    (∀ i, 8 * d.len ≤ i → d.payload.getLsbD i = false) ∧
    (∀ i, i < 8 * d.len → d.payload.getLsbD i = m.payload.getLsbD i) ∧
    (m.checksum = none → d.checksum = none) ∧ (m.counter = none → d.counter = none) ∧
    (∀ k, m.checksum = some k → d.checksum = if k < d.len then some k else none) ∧
    (∀ a l, m.counter = some (a, l) →
      let l' := max 1 (min 8 l)
      let within := a + l' ≤ 8 * d.len
      let apart := ∀ k, d.checksum = some k → a + l' ≤ 8 * k ∨ 8 * k + 8 ≤ a
      (within → apart → d.counter = some (a, l')) ∧ (¬ within ∨ ¬ apart → d.counter = none)) ∧
    (∀ k, d.checksum = some k → k < d.len) ∧
    (∀ a l, d.counter = some (a, l) → 1 ≤ l ∧ l ≤ 8 ∧ a + l ≤ 8 * d.len ∧
      ∀ k, d.checksum = some k → a + l ≤ 8 * k ∨ 8 * k + 8 ≤ a)

/-- R29, R34, R40, R99, R167: the presence timer's expiry has no effect on an idle station with its rail OFF; else
LINE_LOST is set and END_DUT carried out: the records of the ended check and of the flushed orders carry LINE_LOST, and
the rail is taken off by the table of R99. -/
def Obligations.LinePresenceExpiry : Prop :=
  ∀ (s : State) (n : Nat), s.resetHeld = false → s.oi.presence = some n →
    (s.spu.rail = .off → s.ckr = none → s.oi.queue = [] →
      exec .linePresenceExpiry s = .next (s.setOi { s.oi with presence := none })) ∧
    (s.spu.rail ≠ .off ∨ s.ckr.isSome = true ∨ s.oi.queue ≠ [] → Reaches (exec .linePresenceExpiry s) fun t =>
      t.oi = { s.oi with
        queue := [], presence := none, lineLost := true
        station := if s.oi.station = .running then .ready else s.oi.station } ∧ t.ckr = none ∧
      s.spu.OffAsked t.spu ∧ (∀ n : Fin 24, t.bem.slots[n].enabled = false) ∧ t.bem.queue = [] ∧
      (s.ckr = none → s.oi.queue = [] → t.vdu = s.vdu) ∧
      (∀ k, s.ckr = some k → s.oi.queue = [] →
        Judged s t (k.contentEndedBy .aborted { k.flags with lineLost := true })) ∧
      (s.ckr = none → Formed s t (s.flushed true)) ∧
      (∀ k, s.ckr = some k →
        Formed s t (k.contentEndedBy .aborted { k.flags with lineLost := true } :: s.flushed true)))

/-! ## The supply rail (chapter 5) -/

/-- R72, R94 to R96, R107, R109, R117 to R119: the end of a power-up ramp puts the rail ON, starts the recovery timer
and the schedule, and clears bus silence; every defined and enabled slot of phase 0, an event-only one too, has a
snapshot in the transmit queue. The check's action finishes and its INRUSH hold starts; a further SUPPLY_SET slews at
once (R71); a supply retry ends instead, with its claim released. -/
def Obligations.RampComplete : Prop :=
  ∀ s : State, s.resetHeld = false → s.spu.rail = .ramping →
    let onTheBus (t : State) : Prop :=
      t.bem.schedule = some 0 ∧ t.bem.silent = false ∧ t.bem.unacked = 0 ∧ t.bem.captures = s.bem.captures ∧
      t.bem.current = s.bem.current ∧ t.bem.sending = s.bem.sending ∧
      ((∀ n : Fin 24, s.bem.slots[n].enabled = false) → t.bem.queue = s.bem.queue ∧ t.bem.slots = s.bem.slots) ∧
      ∀ n : Fin 24, s.bem.slots[n].defined = true → s.bem.slots[n].enabled = true → s.bem.slots[n].phase = 0 →
        ∃ x ∈ t.bem.queue, x.slot = n.val ∧ x.id = s.bem.slots[n].id ∧ x.len = s.bem.slots[n].len ∧
          t.bem.slots[n].payload = x.payload ∧ (s.bem.slots[n].Proper → SnapshotOf s.bem.slots[n] x.payload)
    (∀ k, s.spu.retry = false → s.ckr = some k → k.OnLastRailAction → Reaches (exec .rampComplete s) fun t =>
      t.spu = { s.spu.arrived with recovery := some 1000 } ∧ onTheBus t ∧ t.clu = s.clu ∧ t.oi = s.oi ∧
      t.rli = s.rli ∧ t.vdu = s.vdu ∧ t.opu = s.opu ∧ t.ltu = s.ltu ∧ t.csu = s.csu ∧
      ∃ late : Bool, t.ckr = some { k.settlingNow with
        holdTimer := some 50, flags := { k.flags with busLate := k.flags.busLate || late } }) ∧
    (∀ k target rate, s.spu.retry = false → s.ckr = some k → k.stage = .stimulating → k.waitsOn = .rail →
      k.order.actions[k.index + 1]? = some (.supplySet target rate) → target / 10 * 10 ≠ s.spu.setpoint →
      Reaches (exec .rampComplete s) fun t =>
        t.spu = { s.spu.arrived with
          recovery := some 1000, rail := .slewing, setpoint := target / 10 * 10, rate := rate } ∧
        onTheBus t ∧ t.clu = s.clu ∧ t.oi = s.oi ∧ ∃ late : Bool, t.ckr = some { k with
          index := k.index + 1, waitsOn := .rail, holdTimer := some 50
          flags := { k.flags with busLate := k.flags.busLate || late } }) ∧
    (∀ c, s.spu.retry = true → AtRest s → s.clu.claim = some c → c.resource = .inrush → c.requester = .spu →
      s.clu.deferred = none → Reaches (exec .rampComplete s) fun t =>
        t.spu = { s.spu.arrived with recovery := some 1000, retry := false } ∧ onTheBus t ∧
        t.clu = { s.clu with claim := none } ∧ t.oi = s.oi ∧ t.ckr = none ∧ t.vdu = s.vdu ∧ t.opu = s.opu ∧
        (s.rli.silent = false → ∃ a cls, t.rli.buffer = some (a, cls) ∧ a.claim = none ∧ a.rail = .on))

/-- R71, R97, R98: the end of a slew or of a crank's recovery puts the rail ON at its setpoint and finishes the action
of the check that waits for it, which goes on to its settle or carries out its next action in the same step; a report
that no check waits for is dropped; when the dip time is over the recovery begins, and ends at once where the dip level
is the setpoint. -/
def Obligations.RailProfilesArrive : Prop :=
  ∀ s : State, s.resetHeld = false →
    let arrived := s.setSpu s.spu.arrived
    let finished (k : CheckRecord) := arrived.setCkr (some k.settlingNow)
    (∀ c : Instr, ((c = .slewComplete ∧ s.spu.rail = .slewing) ∨ (c = .crankRecoveryComplete ∧
        s.spu.rail = .cranking ∧ ∃ p, s.spu.crank = some p ∧ p.hold = none) ∨ (c = .crankDipEnd ∧
        s.spu.rail = .cranking ∧ s.spu.effective = s.spu.setpoint ∧ ∃ p m, s.spu.crank = some p ∧ p.hold = some m)) →
      (Still s → NoneWaitsForRail s → exec c s = .next arrived) ∧
      (∀ k, s.ckr = some k → k.OnLastRailAction → exec c s = .next (finished k)) ∧
      (∀ k, s.ckr = some k → k.stage = .stimulating → k.waitsOn = .rail →
        let next := some { k with index := k.index + 1, waitsOn := OpenRequest.rail }
        (∀ target rate, k.order.actions[k.index + 1]? = some (.supplySet target rate) →
          target / 10 * 10 ≠ s.spu.setpoint → exec c s = .next ((s.setSpu { s.spu.arrived with
            rail := .slewing, setpoint := target / 10 * 10, rate := rate }).setCkr next)) ∧
        (∀ dip time rate, k.order.actions[k.index + 1]? = some (.crank dip time rate) →
          let level := min (dip / 10 * 10) s.spu.setpoint
          exec c s = .next ((s.setSpu { s.spu.arrived with
            rail := .cranking, effective := level, crank := some ⟨level, some time, rate⟩ }).setCkr next)) ∧
        (k.order.actions[k.index + 1]? = some .supplyOff → s.spu.retry = false → 500 ≤ s.spu.arrived.outputMv →
          Reaches (exec c s) fun t =>
            t.spu = s.spu.arrived.dischargeBegun ∧ t.ckr = next ∧ t.oi = s.oi ∧ t.clu = s.clu ∧
            t.bem.queue = [] ∧ t.bem.schedule = none))) ∧
    (∀ p m, s.spu.rail = .cranking → s.spu.crank = some p → p.hold = some m → s.spu.effective ≠ s.spu.setpoint →
      exec .crankDipEnd s = .next (s.setSpu { s.spu with crank := some { p with hold := none } }))

/-- R101: DISCHARGING ends in OFF at the first reading below 500 mV or at the discharge timer's expiry, whichever comes
first; a SUPPLY_OFF that waits for it finishes, and where the rail held the queue back its head starts. R94: the source
is connected in the four output-enabled states, the discharge path in DISCHARGING, FAULT_OFF and SAFE, and nothing is
applied in OFF and WAIT_INRUSH. -/
def Obligations.DischargeEndsInOff : Prop :=
  ∀ (s : State), s.resetHeld = false → s.spu.rail = .discharging →
    (∀ mv, 500 ≤ mv → exec (.dischargeBelowThreshold mv) s = .next (s.setSpu { s.spu with outputMv := mv })) ∧
    ∀ (c : Instr) (mv : Nat), ((c = .dischargeBelowThreshold mv ∧ mv < 500) ∨
        (c = .dischargeTimerExpiry ∧ mv = s.spu.outputMv)) →
      let off := s.setSpu { s.spu.sourceOff .off with dischargeTimer := none, outputMv := mv }
      (Still s → NoneWaitsForRail s → exec c s = .next off) ∧
      (∀ k, s.ckr = some k → k.OnLastRailAction → k.order.actions[k.index]? = some .supplyOff →
        exec c s = .next (off.setCkr (some k.settlingNow))) ∧
      (∀ o rest, s.ckr = none → s.spu.retry = false → s.oi.station = .ready → s.oi.queue = o :: rest →
        o.actions = [] → o.settle ≠ 0 → o.meas = none → Reaches (exec c s) fun t =>
          t.spu = off.spu ∧ t.oi = { s.oi with queue := rest, station := .running } ∧
          ∃ k, t.ckr = some k ∧ k.order = o ∧ k.stage = .settling ∧ k.stageTimer = some o.settle) ∧
    ∀ u : Spu,
      (u.rail = .ramping ∨ u.rail = .on ∨ u.rail = .slewing ∨ u.rail = .cranking →
        u.drive = .source u.effective u.cfg.limitMa) ∧
      (u.rail = .discharging ∨ u.rail = .faultOff ∨ u.rail = .safe → u.drive = .pulledLow) ∧
      (u.rail = .off ∨ u.rail = .waitInrush → u.drive = .released)

/-- R86 to R90, R102, R103, R105, R121: SHORT and OVERCURRENT put the rail in FAULT_OFF with the off timer and the retry
flag set and end the check in flight with DUT_FAULT; the queue is kept, the station READY, and no order starts; the
retry count stays. SHORT does not arise at an effective setpoint of which half is 0 mV. -/
def Obligations.SupplyFaultEntersFaultOff : Prop :=
  ∀ (s : State) (c : Instr), s.resetHeld = false →
    (c = .overcurrent ∨ (c = .short ∧ 2 ≤ s.spu.effective)) → s.spu.rail.outputOn = true →
    let fault := { s.spu.sourceOff .faultOff with recovery := none, offTimer := some s.spu.cfg.offMs, retry := true }
    (s.ckr = none → s.oi.station ≠ .running → s.clu.claim = none → s.clu.deferred = none →
      Reaches (exec c s) fun t => t.spu = fault ∧ t.ckr = none ∧ t.oi = s.oi ∧ t.vdu = s.vdu ∧ t.clu = s.clu ∧
        t.opu = s.opu ∧ t.ltu = s.ltu ∧ t.csu = s.csu ∧
        (s.spu.rail ≠ .ramping → t.bem.queue = [] ∧ t.bem.schedule = none)) ∧
    (∀ q, s.ckr = none → s.oi.station ≠ .running → s.clu.claim = some q → q.resource = .inrush →
      q.requester = .spu → s.clu.deferred = none → Reaches (exec c s) fun t =>
        t.spu = fault ∧ t.oi = s.oi ∧ t.vdu = s.vdu ∧ t.clu = { s.clu with claim := none }) ∧
    (∀ k, s.ckr = some k → s.oi.station = .running → Reaches (exec c s) fun t =>
      t.spu = fault ∧ Judged s t (k.contentEndedBy .dutFault k.flags) ∧ t.oi = s.oiReady ∧
      t.clu.peers = s.clu.peers ∧ (∀ q, t.clu.claim = some q → q.requester ≠ .ckr) ∧
      (s.spu.rail ≠ .ramping → t.bem.queue = [] ∧ t.bem.schedule = none)) ∧
    (s.spu.rail = .on → s.spu.effective < 2 → exec .short s = .next s)

/-- R29, R90, R104, R108: OVERVOLTAGE puts the rail in SAFE and the station in HOLD with SUPPLY_SAFE, flushes the queue
and clears the messages; the check in flight ends with DUT_FAULT or with ABORTED, by which report is taken first, and
the manual leaves that open (log 8). -/
def Obligations.OvervoltageEntersSafe : Prop :=
  ∀ s : State, s.resetHeld = false → s.spu.rail.outputOn = true →
    s.oi.station = .ready ∨ s.oi.station = .running →
    let safe (t : State) : Prop :=
      t.spu = { s.spu.sourceOff .safe with offTimer := none, recovery := none, dischargeTimer := none, retry := false } ∧
      t.oi = { s.oi with queue := [], station := .hold, safeHold := true } ∧ t.ckr = none ∧ t.bem.queue = [] ∧
      (∀ n : Fin 24, t.bem.slots[n].enabled = false) ∧ t.opu.errors = s.opu.errors
    (s.ckr = none → Reaches (exec .overvoltage s) fun t =>
      safe t ∧ Formed s t (s.flushed false) ∧ (s.oi.queue = [] → t.vdu = s.vdu)) ∧
    (∀ k, s.ckr = some k → Reaches (exec .overvoltage s) fun t =>
      safe t ∧ (Formed s t (k.contentEndedBy .dutFault k.flags :: s.flushed false) ∨
        Formed s t (k.contentEndedBy .aborted k.flags :: s.flushed false))) ∧
    (∀ k, s.ckr = some k → s.oi.queue = [] → Reaches (exec .overvoltage s) fun t =>
      safe t ∧ (Judged s t (k.contentEndedBy .dutFault k.flags) ∨ Judged s t (k.contentEndedBy .aborted k.flags)))

/-- R50, R106, R107, R109: below the retry limit the off timer's expiry raises the count and asks for INRUSH with the
configured default for the SPU; at the limit it puts the rail in SAFE and the station in HOLD. The recovery timer's
expiry sets the count to 0. -/
def Obligations.RetryTimersExpire : Prop :=
  ∀ s : State, s.resetHeld = false →
    (∀ n, s.spu.rail = .faultOff → s.spu.offTimer = some n → s.spu.retry = true → s.ckr = none →
      s.oi.station = .ready → s.clu.claim = none →
      (s.spu.retryCount < s.spu.cfg.retryLimit → Reaches (exec .offTimerExpiry s) fun t =>
        t.spu = { s.spu.sourceOff .waitInrush with offTimer := none, retryCount := s.spu.retryCount + 1 } ∧
        t.clu.claim = some ⟨.inrush, newTicket s .inrush, false, s.oi.rack.inrush, .spu, .notBegun,
          some (s.oi.rack.claimWait * 1000)⟩ ∧ t.clu.lastInrush = newTicket s .inrush ∧
        t.clu.peers = s.clu.peers ∧ t.oi = s.oi ∧ t.ckr = none ∧ t.vdu = s.vdu ∧ t.bem = s.bem) ∧
      (s.spu.cfg.retryLimit ≤ s.spu.retryCount → Reaches (exec .offTimerExpiry s) fun t =>
        t.spu = { s.spu.sourceOff .safe with
          offTimer := none, recovery := none, dischargeTimer := none, retry := false } ∧
        t.oi = { s.oi with queue := [], station := .hold, safeHold := true } ∧ t.ckr = none ∧
        Formed s t (s.flushed false))) ∧
    (∀ n, s.spu.recovery = some n → exec .recoveryTimerExpiry s = .next
      (s.setSpu { s.spu with recovery := none, retryCount := 0 }))

/-! ## The cluster bus (chapter 6) -/

/-- R117, R119, R120: a periodic slot that falls due, defined and enabled, in a transmitting state on an ACTIVE bus
gives a snapshot: its counter is raised by 1 modulo 2 to its length, then its checksum byte takes the sum of the other
payload bytes and the low 8 bits of the identifier, every other bit stays, and the instance joins the transmit queue in
place of one that waits, which sets the late flag and BUS_LATE. Otherwise the due time passes. R118: an event-only slot
has no due time. -/
def Obligations.SlotDueTakesSnapshot : Prop :=
  ∀ (s : State) (n : Fin 24) (z : Nat), s.resetHeld = false → s.bem.schedule = some z →
    let m := s.bem.slots[n]
    let due := m.defined = true ∧ m.enabled = true ∧ s.bem.silent = false ∧
      (s.spu.rail = .on ∨ s.spu.rail = .slewing ∨ s.spu.rail = .cranking)
    let waits := ∃ x ∈ s.bem.queue, x.slot = n.val
    (m.period = 0 → exec (.slotDue n) s = .next s) ∧
    (m.period ≠ 0 → ¬ due → exec (.slotDue n) s = .next s) ∧
    (m.period ≠ 0 → due → m.Proper → Reaches (exec (.slotDue n) s) fun t => ∃ p : Payload, SnapshotOf m p ∧
      t.bem.slots[n].payload = p ∧ (∀ i : Fin 24, i ≠ n → t.bem.slots[i] = s.bem.slots[i]) ∧
      ⟨n, m.id, m.len, p⟩ ∈ t.bem.queue ∧ (∀ x ∈ t.bem.queue, x.slot = n.val → x = ⟨n, m.id, m.len, p⟩) ∧
      (∀ x : TxInstance, x.slot ≠ n.val → (x ∈ t.bem.queue ↔ x ∈ s.bem.queue)) ∧
      (waits → t.bem.slots[n] = { m with payload := p, late := true } ∧
        t.ckr = s.ckr.map fun k => { k with flags := { k.flags with busLate := true } }) ∧
      (¬ waits → t.bem.slots[n] = { m with payload := p } ∧ t.ckr = s.ckr) ∧
      t.spu = s.spu ∧ t.oi = s.oi ∧ t.clu = s.clu ∧ t.rli = s.rli ∧ t.vdu = s.vdu ∧ t.opu = s.opu)

/-- R91, R113, R121, R126: an attempt takes the head of the queue; ACKNOWLEDGED clears the late flag and the count;
NOT_ACKNOWLEDGED drops the instance and raises the count; LOST_ARBITRATION puts the instance back in its place, or
leaves it to the newer snapshot of its slot; at a count of 32 the bus is BUS_SILENT, the queue empty, and the check in
flight ends with DUT_FAULT and the flag BUS. -/
def Obligations.AttemptsOnTheClusterBus : Prop :=
  ∀ s : State, s.resetHeld = false →
    (∀ x xs, s.bem.sending = none → s.bem.queue = x :: xs →
      exec .canAttemptStart s = .next (s.setBem { s.bem with sending := some x, queue := xs })) ∧
    (∀ (x : TxInstance) (n : Fin 24), s.bem.sending = some x → x.slot = n.val →
      let flagged (b : Bool) := s.bem.slots.setIfInBounds n { s.bem.slots[n] with late := b }
      exec (.canAttemptEnd .acknowledged) s = .next
        (s.setBem { s.bem with sending := none, unacked := 0, slots := flagged false }) ∧
      (s.bem.unacked < 31 → exec (.canAttemptEnd .notAcknowledged) s = .next
        (s.setBem { s.bem with sending := none, unacked := s.bem.unacked + 1, slots := flagged false })) ∧
      ((∀ y ∈ s.bem.queue, y.slot ≠ n.val) → Reaches (exec (.canAttemptEnd .lostArbitration) s) fun t =>
        (∀ y, y ∈ t.bem.queue ↔ y = x ∨ y ∈ s.bem.queue) ∧
        (s.bem.queue.Pairwise (fun a b => a.before b = true) →
          t.bem.queue.Pairwise fun a b => a.before b = true) ∧
        t = s.setBem { s.bem with sending := none, queue := t.bem.queue }) ∧
      ((∃ y ∈ s.bem.queue, y.slot = n.val) → exec (.canAttemptEnd .lostArbitration) s = .next
        ((s.setBem { s.bem with sending := none, slots := flagged true }).setCkr
          (s.ckr.map fun k => { k with flags := { k.flags with busLate := true } }))) ∧
      (s.bem.unacked = 31 → s.bem.silent = false →
        (s.ckr = none → Still s → Reaches (exec (.canAttemptEnd .notAcknowledged) s) fun t =>
          t.bem.silent = true ∧ t.bem.unacked = 32 ∧ t.bem.queue = [] ∧ t.bem.sending = none ∧
          (∀ i : Fin 24, t.bem.slots[i] = { s.bem.slots[i] with late := false }) ∧ t = s.setBem t.bem) ∧
        (∀ k, RunsAlone s k → ¬ s.ArrivalMeets → Reaches (exec (.canAttemptEnd .notAcknowledged) s) fun t =>
          t.bem.silent = true ∧ t.bem.unacked = 32 ∧ t.bem.queue = [] ∧ t.oi = s.oiReady ∧
          Judged s t (k.contentEndedBy .dutFault { k.flags with bus := true }))))

/-- R114, R127, R129: a data frame with an 11-bit identifier updates every defined capture slot of its identifier and no
other; remote frames and 29-bit identifiers reach none; any received frame ends bus silence, and each enabled event-only
slot that may transmit then has a snapshot in the transmit queue. R132: on an IDENT slot a good half 0 is held, in place
of one held before; a bad half leaves the tracker EMPTY; a good half 1 leaves an EMPTY tracker EMPTY (one that forms a
pair: IdentityPairRaisesEvents). No pair is formed here, so that the order of log 45 does not show. -/
def Obligations.ClusterFrameIsCaptured : Prop :=
  ∀ (s : State) (f : CanFrame), s.resetHeld = false →
    let quiet := s.bem.silent = true ∧ s.spu.rail.transmits = false
    let resumes := s.bem.silent = true ∧ s.spu.rail.transmits = true
    let resumed (t : State) := t.bem.silent = false ∧ t.bem.unacked = 0 ∧
      ∀ n : Fin 24, s.bem.slots[n].defined = true → s.bem.slots[n].enabled = true → s.bem.slots[n].period = 0 →
        ∃ x ∈ t.bem.queue, x.slot = n.val ∧ x.payload = t.bem.slots[n].payload ∧
          (s.bem.slots[n].Proper → SnapshotOf s.bem.slots[n] x.payload)
    (f.extended = true ∨ f.remote = true →
      (s.bem.silent = false → exec (.clusterFrameReceived f) s = .next s) ∧
      (quiet → exec (.clusterFrameReceived f) s = .next (s.setBem { s.bem with silent := false, unacked := 0 })) ∧
      (resumes → Reaches (exec (.clusterFrameReceived f) s) fun t => resumed t ∧ t.bem.captures = s.bem.captures)) ∧
    ∀ held : Option HeldHalf, f.extended = false → f.remote = false → f.data.length ≤ 8 →
      let takes (n : Fin 8) := s.bem.captures[n].defined = true ∧ s.bem.captures[n].id = f.id
      let ident (n : Fin 8) := takes n ∧ s.bem.captures[n].ident = true
      let captured (t : State) := ∀ n : Fin 8,
        (takes n → t.bem.captures[n] = { s.bem.captures[n] with
          last := payloadOf f.data, lastLen := f.data.length, fresh := true, age := 0
          tracker := if s.bem.captures[n].ident then held else s.bem.captures[n].tracker }) ∧
        (¬ takes n → t.bem.captures[n] = s.bem.captures[n])
      ((∀ n, ¬ ident n) ∨ (∃ h, IsHalf0 f.data h ∧ held = some h) ∨ (IsBadHalf f.data ∧ held = none) ∨
        (IsHalf1 f.data ∧ held = none ∧ ∀ n, ident n → s.bem.captures[n].tracker = none)) →
      (s.bem.silent = false → Reaches (exec (.clusterFrameReceived f) s) fun t =>
        captured t ∧ t = s.setBem { s.bem with captures := t.bem.captures }) ∧
      (quiet → Reaches (exec (.clusterFrameReceived f) s) fun t => captured t ∧ t = s.setBem { s.bem with
        silent := false, unacked := 0, captures := t.bem.captures }) ∧
      (resumes → Reaches (exec (.clusterFrameReceived f) s) fun t => captured t ∧ resumed t ∧ t.spu = s.spu ∧
        t.oi = s.oi ∧ t.clu = s.clu ∧ t.rli = s.rli ∧ t.vdu = s.vdu ∧ t.opu = s.opu ∧ t.bem.received = s.bem.received ∧
        t.bem.current = s.bem.current)

/-- R29, R92, R132 to R134: a good half 1 within 1000 ms of the half 0 held forms a pair, which RECEIVED and CURRENT
take. The first pair raises WRONG_DUT when its variant differs from GIVEN; a later one with another serial raises
DUT_CHANGED unless the rail is OFF. The event ends the check in flight with its outcome and flushes the queue. Later
than 1000 ms the half is discarded. -/
def Obligations.IdentityPairRaisesEvents : Prop :=
  ∀ (s : State) (n : Fin 8) (h : HeldHalf) (a b c d e g : Byte) (id : Nat),
    let c0 := s.bem.captures[n]
    let data : List Byte := [1, a, b, c, d, e, g, 1 + a + b + c + d + e + g]
    let cmd := Instr.clusterFrameReceived ⟨false, false, id, data⟩
    let serial : Serial := (g ++ e ++ d ++ c ++ b ++ a : BitVec 48) ++ h.serialLow
    let taken := s.bem.captures.setIfInBounds n
      { c0 with last := payloadOf data, lastLen := 8, fresh := true, age := 0, tracker := none }
    let s1 := s.setBem { s.bem with
      received := some (h.variant, serial), current := ⟨some h.variant, some serial⟩, captures := taken }
    s.resetHeld = false → s.bem.silent = false → c0.defined = true → c0.id = id → c0.ident = true →
    (∀ i : Fin 8, i ≠ n → s.bem.captures[i].defined = true → s.bem.captures[i].id ≠ id) → c0.tracker = some h →
    (1000 < c0.age → exec cmd s = .next (s.setBem { s.bem with captures := taken })) ∧
    (c0.age ≤ 1000 →
      (s.bem.received = none → (∀ v, s.bem.given = some v → v = h.variant) → exec cmd s = .next s1) ∧
      (s.bem.received ≠ none → s.bem.current.serial = some serial → exec cmd s = .next s1) ∧
      (s.bem.received ≠ none → s.bem.current.serial ≠ some serial → s.spu.rail = .off → exec cmd s = .next s1) ∧
      (∀ o, ((s.bem.received = none ∧ (∃ v, s.bem.given = some v ∧ v ≠ h.variant) ∧ o = .wrongDut) ∨
          (s.bem.received ≠ none ∧ s.bem.current.serial ≠ some serial ∧ s.spu.rail ≠ .off ∧ o = .dutChanged)) →
        (s.ckr = none → s.oi.station ≠ .running → Reaches (exec cmd s) fun t =>
          t.oi = { s.oi with queue := [] } ∧ t.bem = s1.bem ∧ t.spu = s.spu ∧ t.clu = s.clu ∧
          Formed s1 t (s.flushed false)) ∧
        (∀ k, s.ckr = some k → s.oi.station = .running → Reaches (exec cmd s) fun t =>
          Formed s1 t (k.contentEndedBy o k.flags :: s.flushed false) ∧ t.oi = { s.oiReady with queue := [] } ∧
          t.ckr = none) ∧
        (∀ k, RunsAlone s k → Reaches (exec cmd s) fun t =>
          Judged s1 t (k.contentEndedBy o k.flags) ∧ t.oi = s.oiReady ∧ t.bem.received = s1.bem.received ∧
          t.bem.current = s1.bem.current ∧ t.bem.given = s.bem.given)))

/-! ## Light, current and sound (chapters 7 and 8) -/

/-- R139, R143 to R146: a block's last samples complete its 16 and step the gain by R144 (a LOCKED channel by the
reduced step), brought into Gmin to Gmax; a RANGING channel counts in-band and pinned blocks and locks at the fourth,
BAND before PINNED; a LOCKED channel loses its lock at the second far block, starts its window where the gain stood
still, and else stays. -/
def Obligations.LightBlockComplete : Prop :=
  ∀ (s : State) (n : Fin 8) (xs : List Code) (d : Int), s.resetHeld = false → xs ≠ [] →
    let c := s.ltu[n]
    let m := (c.blockSum + (xs.map (·.toNat)).sum) / 16
    let error := max m c.target - min m c.target
    let bring (g : Int) : Nat := (max (c.cal.gmin : Int) (min (c.cal.gmax : Int) g)).toNat
    let pin := (c.gain = c.cal.gmax ∧ m < c.target) ∨ (c.gain = c.cal.gmin ∧ c.target < m)
    let answer (c' : LightChannel) := exec (.lightBlockComplete n xs) s = .next
      ((s.setLtu (s.ltu.setIfInBounds n c')).setCkr (s.ckr.map (CheckRecord.reported c.reranged)))
    c.blockCount + xs.length = 16 → BlockStep (c.blockSaturated || xs.any saturatedCode) m c.target d →
    (∀ i p, c.state = .ranging → i = (if error ≤ c.cal.band then c.inBand + 1 else 0) →
      p = (if pin then c.pinned + 1 else 0) →
      let c' := { c with
        gain := bring (c.gain + d), inBand := i, pinned := p, blockSum := 0, blockCount := 0, blockSaturated := false }
      (4 ≤ i → answer { c' with state := .locked, lock := .band, outOfBand := 0 }) ∧
      (i < 4 → 4 ≤ p → answer { c' with state := .locked, lock := .pinned, outOfBand := 0 }) ∧
      (i < 4 → p < 4 → answer c')) ∧
    (∀ o g, c.state = .locked →
      o = (if 2 * c.cal.band < error ∧ ¬ (c.lock = .pinned ∧ pin) then c.outOfBand + 1 else 0) →
      g = bring (c.gain + d.tdiv (2 ^ c.cal.shift)) →
      let c' := { c with gain := g, outOfBand := o, blockSum := 0, blockCount := 0, blockSaturated := false }
      (2 ≤ o → answer { c' with state := .ranging, inBand := 0, pinned := 0, lock := .none }) ∧
      (o < 2 → g = c.gain → answer { c' with
        state := .window, rangeTimer := none, sum := 0, count := 0, saturated := false }) ∧
      (o < 2 → g ≠ c.gain → answer c'))

/-- R147: the range timer's expiry in RANGING leaves the channel HELD at its gain and ends the check with UNRANGED and
that gain code; in LOCKED it freezes the gain and begins the window. The partial block is discarded, with a 16th sample
that has arrived but has not been taken (log 27). -/
def Obligations.RangeTimerExpiry : Prop :=
  ∀ (s : State) (n : Fin 8) (m : Nat), s.resetHeld = false → s.ltu[n].rangeTimer = some m →
    let c := s.ltu[n]
    let with_ (c' : LightChannel) := s.setLtu (s.ltu.setIfInBounds n c')
    let unread := s.arrived.filter fun e => !Instr.ofChannel n e
    let held := { c with
      state := .held, rangeTimer := none, blockSum := 0, blockCount := 0, blockSaturated := false }
    (c.state = .ranging → AtRest s → exec (.rangeTimerExpiry n) s = .next ((with_ held).setArrived unread)) ∧
    (∀ k, c.state = .ranging → RunsAlone s k → k.stage = .measuring → k.waitsOn = .measurement →
      Reaches (exec (.rangeTimerExpiry n) s) fun t => t.ltu = (with_ held).ltu ∧ t.oi = s.oiReady ∧ t.arrived = unread ∧
        Judged s t ⟨k.order.checkId, .unranged, none, k.order.kind, some c.gain, k.aux, k.flags, k.attempts⟩) ∧
    (c.state = .locked → exec (.rangeTimerExpiry n) s = .next ((with_ { c with
      state := .window, rangeTimer := none, blockSum := 0, blockCount := 0, blockSaturated := false
      sum := 0, count := 0, saturated := false }).setArrived unread))

/-- R148, R149: the first saturated sample of a window re-ranges once, where the gain is above Gmin: the window is
discarded, the gain falls by 8 to no less than Gmin, and the channel ranges again, or, under an override, begins a new
window; the check carries RERANGED. Otherwise the sample is saturated and the window goes on, to its end in
LightWindowComplete. -/
def Obligations.LightWindowRerange : Prop :=
  ∀ (s : State) (n : Fin 8) (pre : List Code) (x : Code), s.resetHeld = false → s.ltu[n].state = .window →
    (∀ y ∈ pre, saturatedCode y = false) → saturatedCode x = true →
    let c := s.ltu[n]
    let answer (b : Bool) (c' : LightChannel) := exec (.lightWindowRerange n (pre ++ [x])) s = .next
      ((s.setLtu (s.ltu.setIfInBounds n c')).setCkr (s.ckr.map (CheckRecord.reported b)))
    c.count + pre.length < c.window →
    let lower := { c with
      gain := max c.cal.gmin (min c.cal.gmax (c.gain - 8)), reranged := true, sum := 0, count := 0, saturated := false }
    (c.reranged = false → c.cal.gmin < c.gain → c.override = true → answer true lower) ∧
    (c.reranged = false → c.cal.gmin < c.gain → c.override = false → answer true { lower with
      state := .ranging, blockSum := 0, blockCount := 0, blockSaturated := false, inBand := 0, pinned := 0
      outOfBand := 0, lock := .none, rangeTimer := some (20 * (1 + c.cal.timeoutIndex)) }) ∧
    (c.reranged = true ∨ c.gain ≤ c.cal.gmin → c.count + pre.length + 1 < c.window → answer c.reranged { c with
      sum := c.sum + darkSum c.cal.dark (pre ++ [x]), count := c.count + pre.length + 1, saturated := true })

/-- R81, R83, R148, R150, R151, R165: the last sample of a window gives the luminance, rounded half up and brought into
0 to 16777215, with the gain code and the flags; the channel is HELD, and the check ends with the verdict of its limits,
its prompt, if any, never shown; judged PASS with a prompt it enters PROMPTING (R82). -/
def Obligations.LightWindowComplete : Prop :=
  ∀ (s : State) (n : Fin 8) (xs : List Code) (k : CheckRecord) (q : Nat) (v : Verdict), s.resetHeld = false →
    s.ltu[n].state = .window → xs ≠ [] → s.ltu[n].count + xs.length = s.ltu[n].window →
    (s.ltu[n].reranged = true ∨ s.ltu[n].gain ≤ s.ltu[n].cal.gmin ∨ ∀ x ∈ xs, saturatedCode x = false) →
    RunsAlone s k → k.Measures →
    let c := s.ltu[n]
    let sum := c.sum + darkSum c.cal.dark xs
    let below := c.window * 4 * gainMantissa c.gain * 2 ^ (c.gain / 8)
    let saturated := c.saturated || xs.any saturatedCode
    ((2 * (sum * c.cal.kc % below) < below ∧ q = sum * c.cal.kc / below) ∨
      (below ≤ 2 * (sum * c.cal.kc % below) ∧ q = sum * c.cal.kc / below + 1)) →
    LimitVerdict k.order.low k.order.high (min 16777215 q : Nat) v →
    let ltu := s.ltu.setIfInBounds n { c with
      state := .held, rangeTimer := none, sum := sum, count := c.window, saturated := saturated }
    let flags := { k.flags with
      saturated := k.flags.saturated || saturated
      pinned := k.flags.pinned || c.lock == .pinned
      reranged := k.flags.reranged || c.reranged }
    (k.MeasuresLast v → Reaches (exec (.lightWindowComplete n xs) s) fun t =>
      t.ltu = ltu ∧ t.oi = s.oiReady ∧ (s.clu.deferred = none → t.opu = s.opu) ∧
      Judged s t ⟨k.order.checkId, v, some (min 16777215 q : Nat), k.order.kind, some c.gain, k.aux, flags,
        k.attempts⟩) ∧
    (∀ p, k.order.prompt = some p → v = .pass → Reaches (exec (.lightWindowComplete n xs) s) fun t =>
      t.ltu = ltu ∧ Prompted s t { k with
        value := some (min 16777215 q : Nat), judged := .pass, gain := some c.gain, flags := flags } p)

/-- R81, R156 to R159, R165: a current window reports the mean of its samples, rounded half up; a sound window counts a
tone where the armed detector reaches the threshold and arms below the re-arm level, and reports the tones with the peak
code, QUIET released; the check then ends with the verdict of its limits, its prompt, if any, never shown; a current
window judged PASS with a prompt leads to PROMPTING (R82). The idle CSU keeps length, threshold, hysteresis and re-arm
level by the model's choice (log 39). -/
def Obligations.CurrentAndSoundWindows : Prop :=
  ∀ s : State, s.resetHeld = false →
    let idle := { s.csu with
      window := .idle, count := 0, currentSum := 0, armed := false, tones := 0, peak := 0, disturbances := 0 }
    (∀ xs : List Nat, s.csu.window = .current → xs ≠ [] →
      let sum := s.csu.currentSum + xs.sum
      (s.csu.count + xs.length < s.csu.length → exec (.currentWindowComplete xs) s = .next
        (s.setCsu { s.csu with currentSum := sum, count := s.csu.count + xs.length })) ∧
      (∀ k (q : Nat) v, s.csu.count + xs.length = s.csu.length → RunsAlone s k → k.Measures →
        ((2 * (sum % s.csu.length) < s.csu.length ∧ q = sum / s.csu.length) ∨
          (s.csu.length ≤ 2 * (sum % s.csu.length) ∧ q = sum / s.csu.length + 1)) →
        LimitVerdict k.order.low k.order.high q v →
        (k.MeasuresLast v → Reaches (exec (.currentWindowComplete xs) s) fun t =>
          t.csu = idle ∧ t.oi = s.oiReady ∧ (s.clu.deferred = none → t.opu = s.opu) ∧
          Judged s t ⟨k.order.checkId, v, some q, k.order.kind, k.gain, k.aux, k.flags, k.attempts⟩) ∧
        (∀ p, k.order.prompt = some p → v = .pass → Reaches (exec (.currentWindowComplete xs) s) fun t =>
          t.csu = idle ∧ Prompted s t { k with value := some q, judged := .pass } p))) ∧
    (∀ x : Code, s.csu.window = .sound →
      let next (c : Csu) := exec (.soundWindowComplete [x]) s = .next (s.setCsu c)
      let peak := max s.csu.peak x.toNat
      let counted := s.csu.count ≠ 0 ∧ s.csu.armed = true ∧ s.csu.threshold ≤ x.toNat
      (s.csu.count + 1 < s.csu.length →
        (s.csu.count = 0 → next { s.csu with count := 1, armed := decide (x.toNat < s.csu.rearm), peak := x.toNat }) ∧
        (counted → next { s.csu with
          count := s.csu.count + 1, peak := peak, tones := s.csu.tones + 1, armed := false }) ∧
        (s.csu.count ≠ 0 → s.csu.armed = true → x.toNat < s.csu.threshold → next { s.csu with
          count := s.csu.count + 1, peak := peak }) ∧
        (s.csu.count ≠ 0 → s.csu.armed = false → next { s.csu with
          count := s.csu.count + 1, peak := peak, armed := decide (x.toNat < s.csu.rearm) })) ∧
      (∀ k (tones : Nat) v, s.csu.count + 1 = s.csu.length → RunsAlone s k → k.MeasuresLast v →
        ((counted ∧ tones = s.csu.tones + 1) ∨ (¬ counted ∧ tones = s.csu.tones)) →
        LimitVerdict k.order.low k.order.high tones v → Reaches (exec (.soundWindowComplete [x]) s) fun t =>
          t.csu = idle ∧ t.oi = s.oiReady ∧ (∀ q, t.clu.claim = some q → q.requester ≠ .ckr) ∧
          Judged s t ⟨k.order.checkId, v, some tones, k.order.kind, k.gain,
            some (if s.csu.count = 0 then x.toNat else peak : Nat), k.flags, k.attempts⟩))

/-! ## The operator (chapter 10) -/

/-- R185 to R187, R190: a digit joins the entry once the look timer has run out; the fourth of a right answer lowers the
error count, restores the challenge field and passes, or goes on to YESNO; a wrong answer and a digit too soon raise it:
the first leaves the prompt in CHALLENGE, the second ends it with OPERATOR_FAIL; above the error limit the station is in
HOLD, and on the second attempt the outcome goes by which report is taken first (log 9). The entry is empty in DONE by
the model's choice (log 40). -/
def Obligations.DigitKeys : Prop :=
  ∀ (s : State) (d : Fin 10) (k : CheckRecord) (p : Prompt), s.resetHeld = false → s.opu.state = .challenge →
    s.opu.prompt = some p → p.mode ≠ .yesNo → RunsAlone s k → k.stage = .prompting → k.waitsOn = .prompt →
    s.clu.deferred = none →
    let o := { s.opu with attempts := s.opu.attempts + 1, errors := min (s.opu.errors + 1) 16 }
    let right := s.opu.lookTimer = none ∧ s.opu.entry.length = 3 ∧
      digitsToNat (s.opu.entry ++ [d.val]) = s.opu.code
    (s.opu.lookTimer = none → s.opu.entry.length < 3 → exec (.keyDigit d) s = .next
      (s.setOpu { s.opu with entry := s.opu.entry ++ [d.val] })) ∧
    (right → p.mode = .attended → Reaches (exec (.keyDigit d) s) fun t =>
      t.opu = { s.opu with errors := s.opu.errors - 1, attempts := s.opu.attempts + 1 }.reportedDone .pass ∧
      t.oi = s.oiReady ∧ ∃ late : Bool, (k.fifth = none → late = false) ∧
        Judged s t ((k.noted late).contentAnswered .pass (some (s.opu.attempts + 1)))) ∧
    (right → p.mode = .attendedYesNo → Reaches (exec (.keyDigit d) s) fun t =>
      t.opu = { s.opu with
        state := .yesNo, errors := s.opu.errors - 1, attempts := s.opu.attempts + 1, entry := [], lookTimer := none } ∧
      t.oi = s.oi ∧ t.vdu = s.vdu ∧ (∃ k', t.ckr = some k' ∧ k'.fifth = none ∧ k'.waitsOn = .prompt) ∧
      (k.fifth = none → t.bem = s.bem) ∧
      (∀ e (m : Fin 24), k.fifth = some e → e.slot = m.val → s.bem.slots[m].defined = true →
        s.bem.slots[m].enabled = false →
        t.bem.slots[m].payload = writeField s.bem.slots[m].payload e.start e.len e.pattern)) ∧
    (s.opu.Fails d → s.opu.attempts = 0 → o.errors ≤ s.opu.cfg.errorLimit → exec (.keyDigit d) s = .next
      (s.setOpu { o with entry := [], lookTimer := some s.opu.cfg.lookMs })) ∧
    (s.opu.Fails d → s.opu.attempts = 1 → o.errors ≤ s.opu.cfg.errorLimit → Reaches (exec (.keyDigit d) s) fun t =>
      t.opu = o.reportedDone .operatorFail ∧ t.oi = s.oiReady ∧
      Judged s t (k.contentAnswered .operatorFail (some 2))) ∧
    (s.opu.Fails d → s.opu.attempts = 0 → s.opu.cfg.errorLimit < o.errors → Reaches (exec (.keyDigit d) s) fun t =>
      t.oi = { s.oi with station := .hold, limitHold := true } ∧ t.opu.state = .idle ∧ t.opu.errors = o.errors ∧
      Judged s t (k.contentEndedBy .operatorFail k.flags)) ∧
    (s.opu.Fails d → s.opu.attempts = 1 → s.opu.cfg.errorLimit < o.errors → Reaches (exec (.keyDigit d) s) fun t =>
      t.oi = { s.oi with station := .hold, limitHold := true } ∧ t.opu.errors = o.errors ∧
      (Judged s t (k.contentAnswered .operatorFail (some 2)) ∨ Judged s t (k.contentEndedBy .operatorFail k.flags)))

/-- R179, R185, R187, R188: in IDLE, WAITING_OPERATOR and DONE every key is ignored; CLEAR empties the entry in
CHALLENGE alone; PASS and FAIL end a YESNO prompt with PASS and OPERATOR_FAIL, with the attempts of an attended one;
FAIL ends a challenge with OPERATOR_FAIL, PASS does nothing there; the look timer's expiry lets digits count. Digits
keyed before that FAIL are gone in DONE by the model's choice (log 40). -/
def Obligations.OtherKeys : Prop :=
  ∀ s : State, s.resetHeld = false →
    (s.opu.state = .idle ∨ s.opu.state = .waiting ∨ s.opu.state = .done →
      ∀ c : Instr, (c = .keyClear ∨ c = .keyPass ∨ c = .keyFail ∨ ∃ d, c = .keyDigit d) → exec c s = .next s) ∧
    (s.opu.state = .challenge → exec .keyClear s = .next (s.setOpu { s.opu with entry := [] }) ∧
      exec .keyPass s = .next s) ∧
    (s.opu.state = .yesNo → exec .keyClear s = .next s ∧ ∀ d, exec (.keyDigit d) s = .next s) ∧
    (exec .lookTimerExpiry s = .next (s.setOpu { s.opu with lookTimer := none })) ∧
    (∀ (c : Instr) (v : Verdict) (k : CheckRecord) (p : Prompt), s.opu.prompt = some p → RunsAlone s k →
      k.stage = .prompting → k.waitsOn = .prompt → s.clu.deferred = none →
      (s.opu.state = .yesNo ∧ c = .keyPass ∧ v = .pass) ∨ (s.opu.state = .yesNo ∧ c = .keyFail ∧ v = .operatorFail) ∨
        (s.opu.state = .challenge ∧ p.mode ≠ .yesNo ∧ c = .keyFail ∧ v = .operatorFail) →
      Reaches (exec c s) fun t => t.opu = s.opu.reportedDone v ∧ t.oi = s.oiReady ∧
        Judged s t (k.contentAnswered v (if p.mode = .yesNo then none else some s.opu.attempts)))

/-- R189, R190: the prompt timer's expiry ends the prompt with TIMEOUT, in YESNO with the error count as it stands, in
CHALLENGE with the count raised; where that passes the error limit the station is in HOLD, and the check's outcome goes
by which report is taken first (log 9). -/
def Obligations.PromptTimerExpiry : Prop :=
  ∀ (s : State) (n : Nat) (k : CheckRecord) (p : Prompt), s.resetHeld = false → s.opu.promptTimer = some n →
    s.opu.prompt = some p → RunsAlone s k → k.stage = .prompting → k.waitsOn = .prompt → s.clu.deferred = none →
    let e := min (s.opu.errors + 1) 16
    (s.opu.state = .yesNo → Reaches (exec .promptTimerExpiry s) fun t =>
      t.opu = s.opu.reportedDone .timeout ∧ t.oi = s.oiReady ∧
      Judged s t (k.contentAnswered .timeout (if p.mode = .yesNo then none else some s.opu.attempts))) ∧
    (s.opu.state = .challenge → e ≤ s.opu.cfg.errorLimit → Reaches (exec .promptTimerExpiry s) fun t =>
      t.opu = { s.opu with errors := e }.reportedDone .timeout ∧ t.oi = s.oiReady ∧
      Judged s t (k.contentAnswered .timeout (some s.opu.attempts))) ∧
    (s.opu.state = .challenge → s.opu.cfg.errorLimit < e → Reaches (exec .promptTimerExpiry s) fun t =>
      t.oi = { s.oi with station := .hold, limitHold := true } ∧ t.opu.errors = e ∧
      (Judged s t (k.contentAnswered .timeout (some s.opu.attempts)) ∨
        Judged s t (k.contentEndedBy .operatorFail k.flags)))

/-! ## The whole part -/

/-- R38, R45 to R47, R115, R128, R131, R133: what a command may not change. No command changes the queue of commands; no
command but a reset changes the straps read; configuration changes by its own section alone, GIVEN by BEGIN_DUT alone,
RECEIVED, CURRENT and the pair trackers by BEGIN_DUT and received frames, the peer view by announcements and by age. -/
def Obligations.OnlyItsCommandsChangeIt : Prop :=
  ∀ (c : Instr) (s t : State), exec c s = .next t → t.pending = s.pending ∧
    ((∀ a b, c ≠ .powerOnReset a b) → (∀ n, c ≠ .resetPinLow n) → (∀ a b, c ≠ .resetPinRelease a b) →
      t.rli.slot = s.rli.slot ∧ t.rli.group = s.rli.group ∧
      ((∀ f, c ≠ .configureRack f) → t.oi.rack = s.oi.rack) ∧
      ((∀ f, c ≠ .configureSupply f) → t.spu.cfg = s.spu.cfg) ∧
      ((∀ f, c ≠ .configureLight f) → ∀ n : Fin 8, t.ltu[n].cal = s.ltu[n].cal) ∧
      ((∀ f, c ≠ .configureOperator f) → t.opu.cfg = s.opu.cfg) ∧
      ((∀ f, c ≠ .configureMessage f) → ∀ n : Fin 24,
        let d (m : MessageSlot) := (m.defined, m.id, m.len, m.period, m.phase, m.counter, m.checksum)
        d t.bem.slots[n] = d s.bem.slots[n]) ∧
      ((∀ f, c ≠ .configureCapture f) → ∀ n : Fin 8,
        let d (x : CaptureSlot) := (x.defined, x.id, x.ident)
        d t.bem.captures[n] = d s.bem.captures[n]) ∧
      ((∀ f, c ≠ .controlBeginDut f) → t.bem.given = s.bem.given ∧
        ((∀ f, c ≠ .clusterFrameReceived f) → t.bem.received = s.bem.received ∧ t.bem.current = s.bem.current ∧
          ((∀ f, c ≠ .configureCapture f) → ∀ n : Fin 8, t.bem.captures[n].tracker = s.bem.captures[n].tracker))) ∧
      ((∀ f, c ≠ .announceReceived f) → (∀ n, c ≠ .peerStale n) → t.clu.peers = s.clu.peers))

/-- R169, R171, and of R168 the count, the ring, the merge and the last judged check id: whatever a command but a reset
does, it forms some records, in order: they take the next sequence numbers, join the ring at its newest end, where no
more than 16 stay, the last judged check id is that of the newest, and, unless the summary is taken or emptied, each is
merged into it: the counts saturate, the first failing check id stays, and the outcome's mark is set. R174: where a
TAKE_SUMMARY next in the queue falls among them (where: free, log 36), the records before it went with the summary that
it returned, and those after it stand alone in the emptied one. -/
def Obligations.RecordsAreFormedInOrder : Prop :=
  ∀ (c : Instr) (s t : State), (∀ a b, c ≠ .powerOnReset a b) → (∀ n, c ≠ .resetPinLow n) →
    (∀ a b, c ≠ .resetPinRelease a b) → s.vdu.ring.length ≤ 16 → exec c s = .next t →
    ∃ l : List VerdictRecord,
      t.vdu.ring = (s.vdu.ring ++ l).drop ((s.vdu.ring ++ l).length - 16) ∧
      t.vdu.seq = s.vdu.seq + BitVec.ofNat 16 l.length ∧
      (∀ i r, l[i]? = some r → r.seq = s.vdu.seq + BitVec.ofNat 16 (i + 1)) ∧
      t.vdu.lastJudged = ((l.getLast?).map fun r => r.content.checkId).getD s.vdu.lastJudged ∧
      ((∀ f, c ≠ .controlTakeSummary f) → (∀ f, c ≠ .controlBeginDut f) →
        let merged (l : List VerdictRecord) (m : Summary) :=
          l.foldl (fun m r => m.merge r.content.checkId r.content.outcome) m
        t.vdu.summary = merged l s.vdu.summary ∨
          (¬ NoTakeNext s ∧ t.taken = true ∧ ∃ l1 l2 i, l = l1 ++ l2 ∧ t.vdu.summary = merged l2 ⟨0, 0, none, 0⟩ ∧
            .summary ⟨merged l1 s.vdu.summary, i, s.vdu.seq + BitVec.ofNat 16 l1.length⟩ ∈ t.rli.replies)) ∧
      ∀ (m : Summary) (id : Half) (v : Verdict),
        let failing := v ≠ .pass ∧ v ≠ .done
        (m.merge id v).judged = min 65535 (m.judged + 1) ∧
        (failing → (m.merge id v).failed = min 65535 (m.failed + 1)) ∧
        (¬ failing → (m.merge id v).failed = m.failed ∧ (m.merge id v).firstFailed = m.firstFailed) ∧
        (failing → m.firstFailed = none → (m.merge id v).firstFailed = some id) ∧
        (∀ first, m.firstFailed = some first → (m.merge id v).firstFailed = some first) ∧
        (m.merge id v).mask = m.mask ||| 1#15 <<< v.code

/-- R16, R17, R29, R94, R95, R120, R126, R137, R139, R169, R171, R172, R190: the part right after reset keeps its
capacities, counts and ranges, sends nothing, drives nothing and measures nothing. -/
def Obligations.ResetIsBounded : Prop := Bounded State.reset ∧ OffMeansOff State.reset

/-- R16, R29, R120, R126, R139, R169, R171, R172, R190: no step lets the order queue pass 8, the reply queue 16 or the
ring 16, the failed count pass the judged count, the mask or the first failed id part from the failed count, the error
count pass 16, or pass its limit but in HOLD with OPERATOR_LIMIT or in SILENT; nor does one let the transmit queue lose
its order or hold two instances of a slot, the unacknowledged count pass 32, or a gain code leave Gmin to Gmax. -/
def Obligations.StepKeepsBounds : Prop :=
  ∀ s t : State, Bounded s → step s = .next t → Bounded t

/-- R17, R27, R94, R95, R137, R155: no step leaves a SILENT station with a frame to send, an effective setpoint above 0
mV in a state whose output is off or above 18000 mV in any, or a light channel out of HELD, or a window open, that is
not the one the check in flight measures with. -/
def Obligations.StepKeepsOff : Prop :=
  ∀ s t : State, OffMeansOff s → step s = .next t → OffMeansOff t

/-- R3, R4, R6, R42, R46, R194: what a station sends, received with no error, passes the filter of every station it is
for, with source, destination, kind and payload; changed in its CRC it is discarded; and the announcement of a nest
reads back at a peer as its group, NOISY flag and claim. An INRUSH amount lies in 1 to 100; that of another claim is any
byte: the model's reading of bytes that R42 has a station send as 0 (log 34). -/
def Obligations.FramesReadBack : Prop :=
  (∀ (slot : BitVec 4) (src dst : BitVec 5) (kind : FrameKind) (payload : List Byte), payload.length ≤ 128 →
    addressesPass slot src dst kind = true →
    rxFilter slot (received (frameBytes src dst kind payload)) = some ⟨src, dst, kind, payload⟩ ∧
    ∀ hi lo : Byte, hi ++ lo ≠ crc16 (frameBody src dst kind payload) →
      rxFilter slot (received (0xb4 :: frameBody src dst kind payload ++ [hi, lo])) = none) ∧
  (∀ a : Announcement, (∀ c, a.claim = some c → c.amount < 256 ∧
      (c.resource = .inrush → 1 ≤ c.amount ∧ c.amount ≤ 100)) →
    a.payload.length = 14 ∧ parseAnnounce a.payload = some ⟨a.group, a.noisy, a.claim⟩)
end

