-- ==== Sys2Proof/Laws/State.lean ====
section
/-! SUPPORT. What every field of State holds after an update of one block: one lemma per field per update, so that no
proof unfolds a record update. -/

namespace Sys2Proof.Machine

@[simp] theorem State.setResetHeld_resetHeld (s : State) (x : Bool) : (s.setResetHeld x).resetHeld = x := rfl
@[simp] theorem State.setResetHeld_rli (s : State) (x : Bool) : (s.setResetHeld x).rli = s.rli := rfl
@[simp] theorem State.setResetHeld_oi (s : State) (x : Bool) : (s.setResetHeld x).oi = s.oi := rfl
@[simp] theorem State.setResetHeld_clu (s : State) (x : Bool) : (s.setResetHeld x).clu = s.clu := rfl
@[simp] theorem State.setResetHeld_ckr (s : State) (x : Bool) : (s.setResetHeld x).ckr = s.ckr := rfl
@[simp] theorem State.setResetHeld_spu (s : State) (x : Bool) : (s.setResetHeld x).spu = s.spu := rfl
@[simp] theorem State.setResetHeld_bem (s : State) (x : Bool) : (s.setResetHeld x).bem = s.bem := rfl
@[simp] theorem State.setResetHeld_ltu (s : State) (x : Bool) : (s.setResetHeld x).ltu = s.ltu := rfl
@[simp] theorem State.setResetHeld_csu (s : State) (x : Bool) : (s.setResetHeld x).csu = s.csu := rfl
@[simp] theorem State.setResetHeld_vdu (s : State) (x : Bool) : (s.setResetHeld x).vdu = s.vdu := rfl
@[simp] theorem State.setResetHeld_opu (s : State) (x : Bool) : (s.setResetHeld x).opu = s.opu := rfl
@[simp] theorem State.setResetHeld_clock (s : State) (x : Bool) : (s.setResetHeld x).clock = s.clock := rfl
@[simp] theorem State.setResetHeld_choices (s : State) (x : Bool) : (s.setResetHeld x).choices = s.choices := rfl
@[simp] theorem State.setResetHeld_arrived (s : State) (x : Bool) : (s.setResetHeld x).arrived = s.arrived := rfl
@[simp] theorem State.setResetHeld_taken (s : State) (x : Bool) : (s.setResetHeld x).taken = s.taken := rfl
@[simp] theorem State.setResetHeld_pending (s : State) (x : Bool) : (s.setResetHeld x).pending = s.pending := rfl
@[simp] theorem State.setResetHeld_setResetHeld (s : State) (x y : Bool) : (s.setResetHeld x).setResetHeld y = s.setResetHeld y := rfl
@[simp] theorem State.setResetHeld_self (s : State) : s.setResetHeld s.resetHeld = s := rfl

@[simp] theorem State.setRli_resetHeld (s : State) (x : Rli) : (s.setRli x).resetHeld = s.resetHeld := rfl
@[simp] theorem State.setRli_rli (s : State) (x : Rli) : (s.setRli x).rli = x := rfl
@[simp] theorem State.setRli_oi (s : State) (x : Rli) : (s.setRli x).oi = s.oi := rfl
@[simp] theorem State.setRli_clu (s : State) (x : Rli) : (s.setRli x).clu = s.clu := rfl
@[simp] theorem State.setRli_ckr (s : State) (x : Rli) : (s.setRli x).ckr = s.ckr := rfl
@[simp] theorem State.setRli_spu (s : State) (x : Rli) : (s.setRli x).spu = s.spu := rfl
@[simp] theorem State.setRli_bem (s : State) (x : Rli) : (s.setRli x).bem = s.bem := rfl
@[simp] theorem State.setRli_ltu (s : State) (x : Rli) : (s.setRli x).ltu = s.ltu := rfl
@[simp] theorem State.setRli_csu (s : State) (x : Rli) : (s.setRli x).csu = s.csu := rfl
@[simp] theorem State.setRli_vdu (s : State) (x : Rli) : (s.setRli x).vdu = s.vdu := rfl
@[simp] theorem State.setRli_opu (s : State) (x : Rli) : (s.setRli x).opu = s.opu := rfl
@[simp] theorem State.setRli_clock (s : State) (x : Rli) : (s.setRli x).clock = s.clock := rfl
@[simp] theorem State.setRli_choices (s : State) (x : Rli) : (s.setRli x).choices = s.choices := rfl
@[simp] theorem State.setRli_arrived (s : State) (x : Rli) : (s.setRli x).arrived = s.arrived := rfl
@[simp] theorem State.setRli_taken (s : State) (x : Rli) : (s.setRli x).taken = s.taken := rfl
@[simp] theorem State.setRli_pending (s : State) (x : Rli) : (s.setRli x).pending = s.pending := rfl
@[simp] theorem State.setRli_setRli (s : State) (x y : Rli) : (s.setRli x).setRli y = s.setRli y := rfl
@[simp] theorem State.setRli_self (s : State) : s.setRli s.rli = s := rfl

@[simp] theorem State.setOi_resetHeld (s : State) (x : Oi) : (s.setOi x).resetHeld = s.resetHeld := rfl
@[simp] theorem State.setOi_rli (s : State) (x : Oi) : (s.setOi x).rli = s.rli := rfl
@[simp] theorem State.setOi_oi (s : State) (x : Oi) : (s.setOi x).oi = x := rfl
@[simp] theorem State.setOi_clu (s : State) (x : Oi) : (s.setOi x).clu = s.clu := rfl
@[simp] theorem State.setOi_ckr (s : State) (x : Oi) : (s.setOi x).ckr = s.ckr := rfl
@[simp] theorem State.setOi_spu (s : State) (x : Oi) : (s.setOi x).spu = s.spu := rfl
@[simp] theorem State.setOi_bem (s : State) (x : Oi) : (s.setOi x).bem = s.bem := rfl
@[simp] theorem State.setOi_ltu (s : State) (x : Oi) : (s.setOi x).ltu = s.ltu := rfl
@[simp] theorem State.setOi_csu (s : State) (x : Oi) : (s.setOi x).csu = s.csu := rfl
@[simp] theorem State.setOi_vdu (s : State) (x : Oi) : (s.setOi x).vdu = s.vdu := rfl
@[simp] theorem State.setOi_opu (s : State) (x : Oi) : (s.setOi x).opu = s.opu := rfl
@[simp] theorem State.setOi_clock (s : State) (x : Oi) : (s.setOi x).clock = s.clock := rfl
@[simp] theorem State.setOi_choices (s : State) (x : Oi) : (s.setOi x).choices = s.choices := rfl
@[simp] theorem State.setOi_arrived (s : State) (x : Oi) : (s.setOi x).arrived = s.arrived := rfl
@[simp] theorem State.setOi_taken (s : State) (x : Oi) : (s.setOi x).taken = s.taken := rfl
@[simp] theorem State.setOi_pending (s : State) (x : Oi) : (s.setOi x).pending = s.pending := rfl
@[simp] theorem State.setOi_setOi (s : State) (x y : Oi) : (s.setOi x).setOi y = s.setOi y := rfl
@[simp] theorem State.setOi_self (s : State) : s.setOi s.oi = s := rfl

@[simp] theorem State.setClu_resetHeld (s : State) (x : Clu) : (s.setClu x).resetHeld = s.resetHeld := rfl
@[simp] theorem State.setClu_rli (s : State) (x : Clu) : (s.setClu x).rli = s.rli := rfl
@[simp] theorem State.setClu_oi (s : State) (x : Clu) : (s.setClu x).oi = s.oi := rfl
@[simp] theorem State.setClu_clu (s : State) (x : Clu) : (s.setClu x).clu = x := rfl
@[simp] theorem State.setClu_ckr (s : State) (x : Clu) : (s.setClu x).ckr = s.ckr := rfl
@[simp] theorem State.setClu_spu (s : State) (x : Clu) : (s.setClu x).spu = s.spu := rfl
@[simp] theorem State.setClu_bem (s : State) (x : Clu) : (s.setClu x).bem = s.bem := rfl
@[simp] theorem State.setClu_ltu (s : State) (x : Clu) : (s.setClu x).ltu = s.ltu := rfl
@[simp] theorem State.setClu_csu (s : State) (x : Clu) : (s.setClu x).csu = s.csu := rfl
@[simp] theorem State.setClu_vdu (s : State) (x : Clu) : (s.setClu x).vdu = s.vdu := rfl
@[simp] theorem State.setClu_opu (s : State) (x : Clu) : (s.setClu x).opu = s.opu := rfl
@[simp] theorem State.setClu_clock (s : State) (x : Clu) : (s.setClu x).clock = s.clock := rfl
@[simp] theorem State.setClu_choices (s : State) (x : Clu) : (s.setClu x).choices = s.choices := rfl
@[simp] theorem State.setClu_arrived (s : State) (x : Clu) : (s.setClu x).arrived = s.arrived := rfl
@[simp] theorem State.setClu_taken (s : State) (x : Clu) : (s.setClu x).taken = s.taken := rfl
@[simp] theorem State.setClu_pending (s : State) (x : Clu) : (s.setClu x).pending = s.pending := rfl
@[simp] theorem State.setClu_setClu (s : State) (x y : Clu) : (s.setClu x).setClu y = s.setClu y := rfl
@[simp] theorem State.setClu_self (s : State) : s.setClu s.clu = s := rfl

@[simp] theorem State.setCkr_resetHeld (s : State) (x : Option CheckRecord) : (s.setCkr x).resetHeld = s.resetHeld := rfl
@[simp] theorem State.setCkr_rli (s : State) (x : Option CheckRecord) : (s.setCkr x).rli = s.rli := rfl
@[simp] theorem State.setCkr_oi (s : State) (x : Option CheckRecord) : (s.setCkr x).oi = s.oi := rfl
@[simp] theorem State.setCkr_clu (s : State) (x : Option CheckRecord) : (s.setCkr x).clu = s.clu := rfl
@[simp] theorem State.setCkr_ckr (s : State) (x : Option CheckRecord) : (s.setCkr x).ckr = x := rfl
@[simp] theorem State.setCkr_spu (s : State) (x : Option CheckRecord) : (s.setCkr x).spu = s.spu := rfl
@[simp] theorem State.setCkr_bem (s : State) (x : Option CheckRecord) : (s.setCkr x).bem = s.bem := rfl
@[simp] theorem State.setCkr_ltu (s : State) (x : Option CheckRecord) : (s.setCkr x).ltu = s.ltu := rfl
@[simp] theorem State.setCkr_csu (s : State) (x : Option CheckRecord) : (s.setCkr x).csu = s.csu := rfl
@[simp] theorem State.setCkr_vdu (s : State) (x : Option CheckRecord) : (s.setCkr x).vdu = s.vdu := rfl
@[simp] theorem State.setCkr_opu (s : State) (x : Option CheckRecord) : (s.setCkr x).opu = s.opu := rfl
@[simp] theorem State.setCkr_clock (s : State) (x : Option CheckRecord) : (s.setCkr x).clock = s.clock := rfl
@[simp] theorem State.setCkr_choices (s : State) (x : Option CheckRecord) : (s.setCkr x).choices = s.choices := rfl
@[simp] theorem State.setCkr_arrived (s : State) (x : Option CheckRecord) : (s.setCkr x).arrived = s.arrived := rfl
@[simp] theorem State.setCkr_taken (s : State) (x : Option CheckRecord) : (s.setCkr x).taken = s.taken := rfl
@[simp] theorem State.setCkr_pending (s : State) (x : Option CheckRecord) : (s.setCkr x).pending = s.pending := rfl
@[simp] theorem State.setCkr_setCkr (s : State) (x y : Option CheckRecord) : (s.setCkr x).setCkr y = s.setCkr y := rfl
@[simp] theorem State.setCkr_self (s : State) : s.setCkr s.ckr = s := rfl

@[simp] theorem State.setSpu_resetHeld (s : State) (x : Spu) : (s.setSpu x).resetHeld = s.resetHeld := rfl
@[simp] theorem State.setSpu_rli (s : State) (x : Spu) : (s.setSpu x).rli = s.rli := rfl
@[simp] theorem State.setSpu_oi (s : State) (x : Spu) : (s.setSpu x).oi = s.oi := rfl
@[simp] theorem State.setSpu_clu (s : State) (x : Spu) : (s.setSpu x).clu = s.clu := rfl
@[simp] theorem State.setSpu_ckr (s : State) (x : Spu) : (s.setSpu x).ckr = s.ckr := rfl
@[simp] theorem State.setSpu_spu (s : State) (x : Spu) : (s.setSpu x).spu = x := rfl
@[simp] theorem State.setSpu_bem (s : State) (x : Spu) : (s.setSpu x).bem = s.bem := rfl
@[simp] theorem State.setSpu_ltu (s : State) (x : Spu) : (s.setSpu x).ltu = s.ltu := rfl
@[simp] theorem State.setSpu_csu (s : State) (x : Spu) : (s.setSpu x).csu = s.csu := rfl
@[simp] theorem State.setSpu_vdu (s : State) (x : Spu) : (s.setSpu x).vdu = s.vdu := rfl
@[simp] theorem State.setSpu_opu (s : State) (x : Spu) : (s.setSpu x).opu = s.opu := rfl
@[simp] theorem State.setSpu_clock (s : State) (x : Spu) : (s.setSpu x).clock = s.clock := rfl
@[simp] theorem State.setSpu_choices (s : State) (x : Spu) : (s.setSpu x).choices = s.choices := rfl
@[simp] theorem State.setSpu_arrived (s : State) (x : Spu) : (s.setSpu x).arrived = s.arrived := rfl
@[simp] theorem State.setSpu_taken (s : State) (x : Spu) : (s.setSpu x).taken = s.taken := rfl
@[simp] theorem State.setSpu_pending (s : State) (x : Spu) : (s.setSpu x).pending = s.pending := rfl
@[simp] theorem State.setSpu_setSpu (s : State) (x y : Spu) : (s.setSpu x).setSpu y = s.setSpu y := rfl
@[simp] theorem State.setSpu_self (s : State) : s.setSpu s.spu = s := rfl

@[simp] theorem State.setBem_resetHeld (s : State) (x : Bem) : (s.setBem x).resetHeld = s.resetHeld := rfl
@[simp] theorem State.setBem_rli (s : State) (x : Bem) : (s.setBem x).rli = s.rli := rfl
@[simp] theorem State.setBem_oi (s : State) (x : Bem) : (s.setBem x).oi = s.oi := rfl
@[simp] theorem State.setBem_clu (s : State) (x : Bem) : (s.setBem x).clu = s.clu := rfl
@[simp] theorem State.setBem_ckr (s : State) (x : Bem) : (s.setBem x).ckr = s.ckr := rfl
@[simp] theorem State.setBem_spu (s : State) (x : Bem) : (s.setBem x).spu = s.spu := rfl
@[simp] theorem State.setBem_bem (s : State) (x : Bem) : (s.setBem x).bem = x := rfl
@[simp] theorem State.setBem_ltu (s : State) (x : Bem) : (s.setBem x).ltu = s.ltu := rfl
@[simp] theorem State.setBem_csu (s : State) (x : Bem) : (s.setBem x).csu = s.csu := rfl
@[simp] theorem State.setBem_vdu (s : State) (x : Bem) : (s.setBem x).vdu = s.vdu := rfl
@[simp] theorem State.setBem_opu (s : State) (x : Bem) : (s.setBem x).opu = s.opu := rfl
@[simp] theorem State.setBem_clock (s : State) (x : Bem) : (s.setBem x).clock = s.clock := rfl
@[simp] theorem State.setBem_choices (s : State) (x : Bem) : (s.setBem x).choices = s.choices := rfl
@[simp] theorem State.setBem_arrived (s : State) (x : Bem) : (s.setBem x).arrived = s.arrived := rfl
@[simp] theorem State.setBem_taken (s : State) (x : Bem) : (s.setBem x).taken = s.taken := rfl
@[simp] theorem State.setBem_pending (s : State) (x : Bem) : (s.setBem x).pending = s.pending := rfl
@[simp] theorem State.setBem_setBem (s : State) (x y : Bem) : (s.setBem x).setBem y = s.setBem y := rfl
@[simp] theorem State.setBem_self (s : State) : s.setBem s.bem = s := rfl

@[simp] theorem State.setLtu_resetHeld (s : State) (x : Vector LightChannel 8) : (s.setLtu x).resetHeld = s.resetHeld := rfl
@[simp] theorem State.setLtu_rli (s : State) (x : Vector LightChannel 8) : (s.setLtu x).rli = s.rli := rfl
@[simp] theorem State.setLtu_oi (s : State) (x : Vector LightChannel 8) : (s.setLtu x).oi = s.oi := rfl
@[simp] theorem State.setLtu_clu (s : State) (x : Vector LightChannel 8) : (s.setLtu x).clu = s.clu := rfl
@[simp] theorem State.setLtu_ckr (s : State) (x : Vector LightChannel 8) : (s.setLtu x).ckr = s.ckr := rfl
@[simp] theorem State.setLtu_spu (s : State) (x : Vector LightChannel 8) : (s.setLtu x).spu = s.spu := rfl
@[simp] theorem State.setLtu_bem (s : State) (x : Vector LightChannel 8) : (s.setLtu x).bem = s.bem := rfl
@[simp] theorem State.setLtu_ltu (s : State) (x : Vector LightChannel 8) : (s.setLtu x).ltu = x := rfl
@[simp] theorem State.setLtu_csu (s : State) (x : Vector LightChannel 8) : (s.setLtu x).csu = s.csu := rfl
@[simp] theorem State.setLtu_vdu (s : State) (x : Vector LightChannel 8) : (s.setLtu x).vdu = s.vdu := rfl
@[simp] theorem State.setLtu_opu (s : State) (x : Vector LightChannel 8) : (s.setLtu x).opu = s.opu := rfl
@[simp] theorem State.setLtu_clock (s : State) (x : Vector LightChannel 8) : (s.setLtu x).clock = s.clock := rfl
@[simp] theorem State.setLtu_choices (s : State) (x : Vector LightChannel 8) : (s.setLtu x).choices = s.choices := rfl
@[simp] theorem State.setLtu_arrived (s : State) (x : Vector LightChannel 8) : (s.setLtu x).arrived = s.arrived := rfl
@[simp] theorem State.setLtu_taken (s : State) (x : Vector LightChannel 8) : (s.setLtu x).taken = s.taken := rfl
@[simp] theorem State.setLtu_pending (s : State) (x : Vector LightChannel 8) : (s.setLtu x).pending = s.pending := rfl
@[simp] theorem State.setLtu_setLtu (s : State) (x y : Vector LightChannel 8) : (s.setLtu x).setLtu y = s.setLtu y := rfl
@[simp] theorem State.setLtu_self (s : State) : s.setLtu s.ltu = s := rfl

@[simp] theorem State.setCsu_resetHeld (s : State) (x : Csu) : (s.setCsu x).resetHeld = s.resetHeld := rfl
@[simp] theorem State.setCsu_rli (s : State) (x : Csu) : (s.setCsu x).rli = s.rli := rfl
@[simp] theorem State.setCsu_oi (s : State) (x : Csu) : (s.setCsu x).oi = s.oi := rfl
@[simp] theorem State.setCsu_clu (s : State) (x : Csu) : (s.setCsu x).clu = s.clu := rfl
@[simp] theorem State.setCsu_ckr (s : State) (x : Csu) : (s.setCsu x).ckr = s.ckr := rfl
@[simp] theorem State.setCsu_spu (s : State) (x : Csu) : (s.setCsu x).spu = s.spu := rfl
@[simp] theorem State.setCsu_bem (s : State) (x : Csu) : (s.setCsu x).bem = s.bem := rfl
@[simp] theorem State.setCsu_ltu (s : State) (x : Csu) : (s.setCsu x).ltu = s.ltu := rfl
@[simp] theorem State.setCsu_csu (s : State) (x : Csu) : (s.setCsu x).csu = x := rfl
@[simp] theorem State.setCsu_vdu (s : State) (x : Csu) : (s.setCsu x).vdu = s.vdu := rfl
@[simp] theorem State.setCsu_opu (s : State) (x : Csu) : (s.setCsu x).opu = s.opu := rfl
@[simp] theorem State.setCsu_clock (s : State) (x : Csu) : (s.setCsu x).clock = s.clock := rfl
@[simp] theorem State.setCsu_choices (s : State) (x : Csu) : (s.setCsu x).choices = s.choices := rfl
@[simp] theorem State.setCsu_arrived (s : State) (x : Csu) : (s.setCsu x).arrived = s.arrived := rfl
@[simp] theorem State.setCsu_taken (s : State) (x : Csu) : (s.setCsu x).taken = s.taken := rfl
@[simp] theorem State.setCsu_pending (s : State) (x : Csu) : (s.setCsu x).pending = s.pending := rfl
@[simp] theorem State.setCsu_setCsu (s : State) (x y : Csu) : (s.setCsu x).setCsu y = s.setCsu y := rfl
@[simp] theorem State.setCsu_self (s : State) : s.setCsu s.csu = s := rfl

@[simp] theorem State.setVdu_resetHeld (s : State) (x : Vdu) : (s.setVdu x).resetHeld = s.resetHeld := rfl
@[simp] theorem State.setVdu_rli (s : State) (x : Vdu) : (s.setVdu x).rli = s.rli := rfl
@[simp] theorem State.setVdu_oi (s : State) (x : Vdu) : (s.setVdu x).oi = s.oi := rfl
@[simp] theorem State.setVdu_clu (s : State) (x : Vdu) : (s.setVdu x).clu = s.clu := rfl
@[simp] theorem State.setVdu_ckr (s : State) (x : Vdu) : (s.setVdu x).ckr = s.ckr := rfl
@[simp] theorem State.setVdu_spu (s : State) (x : Vdu) : (s.setVdu x).spu = s.spu := rfl
@[simp] theorem State.setVdu_bem (s : State) (x : Vdu) : (s.setVdu x).bem = s.bem := rfl
@[simp] theorem State.setVdu_ltu (s : State) (x : Vdu) : (s.setVdu x).ltu = s.ltu := rfl
@[simp] theorem State.setVdu_csu (s : State) (x : Vdu) : (s.setVdu x).csu = s.csu := rfl
@[simp] theorem State.setVdu_vdu (s : State) (x : Vdu) : (s.setVdu x).vdu = x := rfl
@[simp] theorem State.setVdu_opu (s : State) (x : Vdu) : (s.setVdu x).opu = s.opu := rfl
@[simp] theorem State.setVdu_clock (s : State) (x : Vdu) : (s.setVdu x).clock = s.clock := rfl
@[simp] theorem State.setVdu_choices (s : State) (x : Vdu) : (s.setVdu x).choices = s.choices := rfl
@[simp] theorem State.setVdu_arrived (s : State) (x : Vdu) : (s.setVdu x).arrived = s.arrived := rfl
@[simp] theorem State.setVdu_taken (s : State) (x : Vdu) : (s.setVdu x).taken = s.taken := rfl
@[simp] theorem State.setVdu_pending (s : State) (x : Vdu) : (s.setVdu x).pending = s.pending := rfl
@[simp] theorem State.setVdu_setVdu (s : State) (x y : Vdu) : (s.setVdu x).setVdu y = s.setVdu y := rfl
@[simp] theorem State.setVdu_self (s : State) : s.setVdu s.vdu = s := rfl

@[simp] theorem State.setOpu_resetHeld (s : State) (x : Opu) : (s.setOpu x).resetHeld = s.resetHeld := rfl
@[simp] theorem State.setOpu_rli (s : State) (x : Opu) : (s.setOpu x).rli = s.rli := rfl
@[simp] theorem State.setOpu_oi (s : State) (x : Opu) : (s.setOpu x).oi = s.oi := rfl
@[simp] theorem State.setOpu_clu (s : State) (x : Opu) : (s.setOpu x).clu = s.clu := rfl
@[simp] theorem State.setOpu_ckr (s : State) (x : Opu) : (s.setOpu x).ckr = s.ckr := rfl
@[simp] theorem State.setOpu_spu (s : State) (x : Opu) : (s.setOpu x).spu = s.spu := rfl
@[simp] theorem State.setOpu_bem (s : State) (x : Opu) : (s.setOpu x).bem = s.bem := rfl
@[simp] theorem State.setOpu_ltu (s : State) (x : Opu) : (s.setOpu x).ltu = s.ltu := rfl
@[simp] theorem State.setOpu_csu (s : State) (x : Opu) : (s.setOpu x).csu = s.csu := rfl
@[simp] theorem State.setOpu_vdu (s : State) (x : Opu) : (s.setOpu x).vdu = s.vdu := rfl
@[simp] theorem State.setOpu_opu (s : State) (x : Opu) : (s.setOpu x).opu = x := rfl
@[simp] theorem State.setOpu_clock (s : State) (x : Opu) : (s.setOpu x).clock = s.clock := rfl
@[simp] theorem State.setOpu_choices (s : State) (x : Opu) : (s.setOpu x).choices = s.choices := rfl
@[simp] theorem State.setOpu_arrived (s : State) (x : Opu) : (s.setOpu x).arrived = s.arrived := rfl
@[simp] theorem State.setOpu_taken (s : State) (x : Opu) : (s.setOpu x).taken = s.taken := rfl
@[simp] theorem State.setOpu_pending (s : State) (x : Opu) : (s.setOpu x).pending = s.pending := rfl
@[simp] theorem State.setOpu_setOpu (s : State) (x y : Opu) : (s.setOpu x).setOpu y = s.setOpu y := rfl
@[simp] theorem State.setOpu_self (s : State) : s.setOpu s.opu = s := rfl

@[simp] theorem State.setClock_resetHeld (s : State) (x : Nat) : (s.setClock x).resetHeld = s.resetHeld := rfl
@[simp] theorem State.setClock_rli (s : State) (x : Nat) : (s.setClock x).rli = s.rli := rfl
@[simp] theorem State.setClock_oi (s : State) (x : Nat) : (s.setClock x).oi = s.oi := rfl
@[simp] theorem State.setClock_clu (s : State) (x : Nat) : (s.setClock x).clu = s.clu := rfl
@[simp] theorem State.setClock_ckr (s : State) (x : Nat) : (s.setClock x).ckr = s.ckr := rfl
@[simp] theorem State.setClock_spu (s : State) (x : Nat) : (s.setClock x).spu = s.spu := rfl
@[simp] theorem State.setClock_bem (s : State) (x : Nat) : (s.setClock x).bem = s.bem := rfl
@[simp] theorem State.setClock_ltu (s : State) (x : Nat) : (s.setClock x).ltu = s.ltu := rfl
@[simp] theorem State.setClock_csu (s : State) (x : Nat) : (s.setClock x).csu = s.csu := rfl
@[simp] theorem State.setClock_vdu (s : State) (x : Nat) : (s.setClock x).vdu = s.vdu := rfl
@[simp] theorem State.setClock_opu (s : State) (x : Nat) : (s.setClock x).opu = s.opu := rfl
@[simp] theorem State.setClock_clock (s : State) (x : Nat) : (s.setClock x).clock = x := rfl
@[simp] theorem State.setClock_choices (s : State) (x : Nat) : (s.setClock x).choices = s.choices := rfl
@[simp] theorem State.setClock_arrived (s : State) (x : Nat) : (s.setClock x).arrived = s.arrived := rfl
@[simp] theorem State.setClock_taken (s : State) (x : Nat) : (s.setClock x).taken = s.taken := rfl
@[simp] theorem State.setClock_pending (s : State) (x : Nat) : (s.setClock x).pending = s.pending := rfl
@[simp] theorem State.setClock_setClock (s : State) (x y : Nat) : (s.setClock x).setClock y = s.setClock y := rfl
@[simp] theorem State.setClock_self (s : State) : s.setClock s.clock = s := rfl

@[simp] theorem State.setChoices_resetHeld (s : State) (x : Nat) : (s.setChoices x).resetHeld = s.resetHeld := rfl
@[simp] theorem State.setChoices_rli (s : State) (x : Nat) : (s.setChoices x).rli = s.rli := rfl
@[simp] theorem State.setChoices_oi (s : State) (x : Nat) : (s.setChoices x).oi = s.oi := rfl
@[simp] theorem State.setChoices_clu (s : State) (x : Nat) : (s.setChoices x).clu = s.clu := rfl
@[simp] theorem State.setChoices_ckr (s : State) (x : Nat) : (s.setChoices x).ckr = s.ckr := rfl
@[simp] theorem State.setChoices_spu (s : State) (x : Nat) : (s.setChoices x).spu = s.spu := rfl
@[simp] theorem State.setChoices_bem (s : State) (x : Nat) : (s.setChoices x).bem = s.bem := rfl
@[simp] theorem State.setChoices_ltu (s : State) (x : Nat) : (s.setChoices x).ltu = s.ltu := rfl
@[simp] theorem State.setChoices_csu (s : State) (x : Nat) : (s.setChoices x).csu = s.csu := rfl
@[simp] theorem State.setChoices_vdu (s : State) (x : Nat) : (s.setChoices x).vdu = s.vdu := rfl
@[simp] theorem State.setChoices_opu (s : State) (x : Nat) : (s.setChoices x).opu = s.opu := rfl
@[simp] theorem State.setChoices_clock (s : State) (x : Nat) : (s.setChoices x).clock = s.clock := rfl
@[simp] theorem State.setChoices_choices (s : State) (x : Nat) : (s.setChoices x).choices = x := rfl
@[simp] theorem State.setChoices_arrived (s : State) (x : Nat) : (s.setChoices x).arrived = s.arrived := rfl
@[simp] theorem State.setChoices_taken (s : State) (x : Nat) : (s.setChoices x).taken = s.taken := rfl
@[simp] theorem State.setChoices_pending (s : State) (x : Nat) : (s.setChoices x).pending = s.pending := rfl
@[simp] theorem State.setChoices_setChoices (s : State) (x y : Nat) : (s.setChoices x).setChoices y = s.setChoices y := rfl
@[simp] theorem State.setChoices_self (s : State) : s.setChoices s.choices = s := rfl

@[simp] theorem State.setArrived_resetHeld (s : State) (x : List Instr) : (s.setArrived x).resetHeld = s.resetHeld := rfl
@[simp] theorem State.setArrived_rli (s : State) (x : List Instr) : (s.setArrived x).rli = s.rli := rfl
@[simp] theorem State.setArrived_oi (s : State) (x : List Instr) : (s.setArrived x).oi = s.oi := rfl
@[simp] theorem State.setArrived_clu (s : State) (x : List Instr) : (s.setArrived x).clu = s.clu := rfl
@[simp] theorem State.setArrived_ckr (s : State) (x : List Instr) : (s.setArrived x).ckr = s.ckr := rfl
@[simp] theorem State.setArrived_spu (s : State) (x : List Instr) : (s.setArrived x).spu = s.spu := rfl
@[simp] theorem State.setArrived_bem (s : State) (x : List Instr) : (s.setArrived x).bem = s.bem := rfl
@[simp] theorem State.setArrived_ltu (s : State) (x : List Instr) : (s.setArrived x).ltu = s.ltu := rfl
@[simp] theorem State.setArrived_csu (s : State) (x : List Instr) : (s.setArrived x).csu = s.csu := rfl
@[simp] theorem State.setArrived_vdu (s : State) (x : List Instr) : (s.setArrived x).vdu = s.vdu := rfl
@[simp] theorem State.setArrived_opu (s : State) (x : List Instr) : (s.setArrived x).opu = s.opu := rfl
@[simp] theorem State.setArrived_clock (s : State) (x : List Instr) : (s.setArrived x).clock = s.clock := rfl
@[simp] theorem State.setArrived_choices (s : State) (x : List Instr) : (s.setArrived x).choices = s.choices := rfl
@[simp] theorem State.setArrived_arrived (s : State) (x : List Instr) : (s.setArrived x).arrived = x := rfl
@[simp] theorem State.setArrived_taken (s : State) (x : List Instr) : (s.setArrived x).taken = s.taken := rfl
@[simp] theorem State.setArrived_pending (s : State) (x : List Instr) : (s.setArrived x).pending = s.pending := rfl
@[simp] theorem State.setArrived_setArrived (s : State) (x y : List Instr) : (s.setArrived x).setArrived y = s.setArrived y := rfl
@[simp] theorem State.setArrived_self (s : State) : s.setArrived s.arrived = s := rfl

@[simp] theorem State.setTaken_resetHeld (s : State) (x : Bool) : (s.setTaken x).resetHeld = s.resetHeld := rfl
@[simp] theorem State.setTaken_rli (s : State) (x : Bool) : (s.setTaken x).rli = s.rli := rfl
@[simp] theorem State.setTaken_oi (s : State) (x : Bool) : (s.setTaken x).oi = s.oi := rfl
@[simp] theorem State.setTaken_clu (s : State) (x : Bool) : (s.setTaken x).clu = s.clu := rfl
@[simp] theorem State.setTaken_ckr (s : State) (x : Bool) : (s.setTaken x).ckr = s.ckr := rfl
@[simp] theorem State.setTaken_spu (s : State) (x : Bool) : (s.setTaken x).spu = s.spu := rfl
@[simp] theorem State.setTaken_bem (s : State) (x : Bool) : (s.setTaken x).bem = s.bem := rfl
@[simp] theorem State.setTaken_ltu (s : State) (x : Bool) : (s.setTaken x).ltu = s.ltu := rfl
@[simp] theorem State.setTaken_csu (s : State) (x : Bool) : (s.setTaken x).csu = s.csu := rfl
@[simp] theorem State.setTaken_vdu (s : State) (x : Bool) : (s.setTaken x).vdu = s.vdu := rfl
@[simp] theorem State.setTaken_opu (s : State) (x : Bool) : (s.setTaken x).opu = s.opu := rfl
@[simp] theorem State.setTaken_clock (s : State) (x : Bool) : (s.setTaken x).clock = s.clock := rfl
@[simp] theorem State.setTaken_choices (s : State) (x : Bool) : (s.setTaken x).choices = s.choices := rfl
@[simp] theorem State.setTaken_arrived (s : State) (x : Bool) : (s.setTaken x).arrived = s.arrived := rfl
@[simp] theorem State.setTaken_taken (s : State) (x : Bool) : (s.setTaken x).taken = x := rfl
@[simp] theorem State.setTaken_pending (s : State) (x : Bool) : (s.setTaken x).pending = s.pending := rfl
@[simp] theorem State.setTaken_setTaken (s : State) (x y : Bool) : (s.setTaken x).setTaken y = s.setTaken y := rfl
@[simp] theorem State.setTaken_self (s : State) : s.setTaken s.taken = s := rfl

@[simp] theorem State.setPending_resetHeld (s : State) (x : List Instr) : (s.setPending x).resetHeld = s.resetHeld := rfl
@[simp] theorem State.setPending_rli (s : State) (x : List Instr) : (s.setPending x).rli = s.rli := rfl
@[simp] theorem State.setPending_oi (s : State) (x : List Instr) : (s.setPending x).oi = s.oi := rfl
@[simp] theorem State.setPending_clu (s : State) (x : List Instr) : (s.setPending x).clu = s.clu := rfl
@[simp] theorem State.setPending_ckr (s : State) (x : List Instr) : (s.setPending x).ckr = s.ckr := rfl
@[simp] theorem State.setPending_spu (s : State) (x : List Instr) : (s.setPending x).spu = s.spu := rfl
@[simp] theorem State.setPending_bem (s : State) (x : List Instr) : (s.setPending x).bem = s.bem := rfl
@[simp] theorem State.setPending_ltu (s : State) (x : List Instr) : (s.setPending x).ltu = s.ltu := rfl
@[simp] theorem State.setPending_csu (s : State) (x : List Instr) : (s.setPending x).csu = s.csu := rfl
@[simp] theorem State.setPending_vdu (s : State) (x : List Instr) : (s.setPending x).vdu = s.vdu := rfl
@[simp] theorem State.setPending_opu (s : State) (x : List Instr) : (s.setPending x).opu = s.opu := rfl
@[simp] theorem State.setPending_clock (s : State) (x : List Instr) : (s.setPending x).clock = s.clock := rfl
@[simp] theorem State.setPending_choices (s : State) (x : List Instr) : (s.setPending x).choices = s.choices := rfl
@[simp] theorem State.setPending_arrived (s : State) (x : List Instr) : (s.setPending x).arrived = s.arrived := rfl
@[simp] theorem State.setPending_taken (s : State) (x : List Instr) : (s.setPending x).taken = s.taken := rfl
@[simp] theorem State.setPending_pending (s : State) (x : List Instr) : (s.setPending x).pending = x := rfl
@[simp] theorem State.setPending_setPending (s : State) (x y : List Instr) : (s.setPending x).setPending y = s.setPending y := rfl
@[simp] theorem State.setPending_self (s : State) : s.setPending s.pending = s := rfl

end Sys2Proof.Machine
end

