-- ==== Sys2Proof/Laws/Bus.lean ====
section
/-! SUPPORT. The blocks that each operation of the Bus Emulator leaves as they are. -/

namespace Sys2Proof.Machine

/-- What every step of a fold keeps, the fold keeps. -/
theorem foldl_keeps {α β : Type} (p : State → β) (g : State → α → State) (h : ∀ s a, p (g s a) = p s) :
    ∀ (l : List α) (s : State), p (l.foldl g s) = p s
  | [], _ => rfl
  | a :: l, s => (foldl_keeps p g h l (g s a)).trans (h s a)

@[simp] theorem setSlot_resetHeld (n : Nat) (m : MessageSlot) (s : State) : (setSlot n m s).resetHeld = s.resetHeld := by
  unfold setSlot
  simp
@[simp] theorem setSlot_rli (n : Nat) (m : MessageSlot) (s : State) : (setSlot n m s).rli = s.rli := by
  unfold setSlot
  simp
@[simp] theorem setSlot_oi (n : Nat) (m : MessageSlot) (s : State) : (setSlot n m s).oi = s.oi := by
  unfold setSlot
  simp
@[simp] theorem setSlot_clu (n : Nat) (m : MessageSlot) (s : State) : (setSlot n m s).clu = s.clu := by
  unfold setSlot
  simp
@[simp] theorem setSlot_ckr (n : Nat) (m : MessageSlot) (s : State) : (setSlot n m s).ckr = s.ckr := by
  unfold setSlot
  simp
@[simp] theorem setSlot_spu (n : Nat) (m : MessageSlot) (s : State) : (setSlot n m s).spu = s.spu := by
  unfold setSlot
  simp
@[simp] theorem setSlot_ltu (n : Nat) (m : MessageSlot) (s : State) : (setSlot n m s).ltu = s.ltu := by
  unfold setSlot
  simp
@[simp] theorem setSlot_csu (n : Nat) (m : MessageSlot) (s : State) : (setSlot n m s).csu = s.csu := by
  unfold setSlot
  simp
@[simp] theorem setSlot_vdu (n : Nat) (m : MessageSlot) (s : State) : (setSlot n m s).vdu = s.vdu := by
  unfold setSlot
  simp
@[simp] theorem setSlot_opu (n : Nat) (m : MessageSlot) (s : State) : (setSlot n m s).opu = s.opu := by
  unfold setSlot
  simp
@[simp] theorem setSlot_clock (n : Nat) (m : MessageSlot) (s : State) : (setSlot n m s).clock = s.clock := by
  unfold setSlot
  simp
@[simp] theorem setSlot_choices (n : Nat) (m : MessageSlot) (s : State) : (setSlot n m s).choices = s.choices := by
  unfold setSlot
  simp
@[simp] theorem setSlot_arrived (n : Nat) (m : MessageSlot) (s : State) : (setSlot n m s).arrived = s.arrived := by
  unfold setSlot
  simp
@[simp] theorem setSlot_taken (n : Nat) (m : MessageSlot) (s : State) : (setSlot n m s).taken = s.taken := by
  unfold setSlot
  simp
@[simp] theorem setSlot_pending (n : Nat) (m : MessageSlot) (s : State) : (setSlot n m s).pending = s.pending := by
  unfold setSlot
  simp

@[simp] theorem reportBusLate_resetHeld (s : State) : (reportBusLate s).resetHeld = s.resetHeld := by
  unfold reportBusLate
  simp
@[simp] theorem reportBusLate_rli (s : State) : (reportBusLate s).rli = s.rli := by
  unfold reportBusLate
  simp
@[simp] theorem reportBusLate_oi (s : State) : (reportBusLate s).oi = s.oi := by
  unfold reportBusLate
  simp
@[simp] theorem reportBusLate_clu (s : State) : (reportBusLate s).clu = s.clu := by
  unfold reportBusLate
  simp
@[simp] theorem reportBusLate_spu (s : State) : (reportBusLate s).spu = s.spu := by
  unfold reportBusLate
  simp
@[simp] theorem reportBusLate_bem (s : State) : (reportBusLate s).bem = s.bem := by
  unfold reportBusLate
  simp
@[simp] theorem reportBusLate_ltu (s : State) : (reportBusLate s).ltu = s.ltu := by
  unfold reportBusLate
  simp
@[simp] theorem reportBusLate_csu (s : State) : (reportBusLate s).csu = s.csu := by
  unfold reportBusLate
  simp
@[simp] theorem reportBusLate_vdu (s : State) : (reportBusLate s).vdu = s.vdu := by
  unfold reportBusLate
  simp
@[simp] theorem reportBusLate_opu (s : State) : (reportBusLate s).opu = s.opu := by
  unfold reportBusLate
  simp
@[simp] theorem reportBusLate_clock (s : State) : (reportBusLate s).clock = s.clock := by
  unfold reportBusLate
  simp
@[simp] theorem reportBusLate_choices (s : State) : (reportBusLate s).choices = s.choices := by
  unfold reportBusLate
  simp
@[simp] theorem reportBusLate_arrived (s : State) : (reportBusLate s).arrived = s.arrived := by
  unfold reportBusLate
  simp
@[simp] theorem reportBusLate_taken (s : State) : (reportBusLate s).taken = s.taken := by
  unfold reportBusLate
  simp
@[simp] theorem reportBusLate_pending (s : State) : (reportBusLate s).pending = s.pending := by
  unfold reportBusLate
  simp

@[simp] theorem setLate_resetHeld (n : Nat) (b : Bool) (s : State) : (setLate n b s).resetHeld = s.resetHeld := by
  unfold setLate
  simp
@[simp] theorem setLate_rli (n : Nat) (b : Bool) (s : State) : (setLate n b s).rli = s.rli := by
  unfold setLate
  simp
@[simp] theorem setLate_oi (n : Nat) (b : Bool) (s : State) : (setLate n b s).oi = s.oi := by
  unfold setLate
  simp
@[simp] theorem setLate_clu (n : Nat) (b : Bool) (s : State) : (setLate n b s).clu = s.clu := by
  unfold setLate
  simp
@[simp] theorem setLate_ckr (n : Nat) (b : Bool) (s : State) : (setLate n b s).ckr = s.ckr := by
  unfold setLate
  simp
@[simp] theorem setLate_spu (n : Nat) (b : Bool) (s : State) : (setLate n b s).spu = s.spu := by
  unfold setLate
  simp
@[simp] theorem setLate_ltu (n : Nat) (b : Bool) (s : State) : (setLate n b s).ltu = s.ltu := by
  unfold setLate
  simp
@[simp] theorem setLate_csu (n : Nat) (b : Bool) (s : State) : (setLate n b s).csu = s.csu := by
  unfold setLate
  simp
@[simp] theorem setLate_vdu (n : Nat) (b : Bool) (s : State) : (setLate n b s).vdu = s.vdu := by
  unfold setLate
  simp
@[simp] theorem setLate_opu (n : Nat) (b : Bool) (s : State) : (setLate n b s).opu = s.opu := by
  unfold setLate
  simp
@[simp] theorem setLate_clock (n : Nat) (b : Bool) (s : State) : (setLate n b s).clock = s.clock := by
  unfold setLate
  simp
@[simp] theorem setLate_choices (n : Nat) (b : Bool) (s : State) : (setLate n b s).choices = s.choices := by
  unfold setLate
  simp
@[simp] theorem setLate_arrived (n : Nat) (b : Bool) (s : State) : (setLate n b s).arrived = s.arrived := by
  unfold setLate
  simp
@[simp] theorem setLate_taken (n : Nat) (b : Bool) (s : State) : (setLate n b s).taken = s.taken := by
  unfold setLate
  simp
@[simp] theorem setLate_pending (n : Nat) (b : Bool) (s : State) : (setLate n b s).pending = s.pending := by
  unfold setLate
  simp

@[simp] theorem enqueue_resetHeld (x : TxInstance) (s : State) : (enqueue x s).resetHeld = s.resetHeld := by
  unfold enqueue
  try dsimp only
  (repeat' split) <;> simp
@[simp] theorem enqueue_rli (x : TxInstance) (s : State) : (enqueue x s).rli = s.rli := by
  unfold enqueue
  try dsimp only
  (repeat' split) <;> simp
@[simp] theorem enqueue_oi (x : TxInstance) (s : State) : (enqueue x s).oi = s.oi := by
  unfold enqueue
  try dsimp only
  (repeat' split) <;> simp
@[simp] theorem enqueue_clu (x : TxInstance) (s : State) : (enqueue x s).clu = s.clu := by
  unfold enqueue
  try dsimp only
  (repeat' split) <;> simp
@[simp] theorem enqueue_spu (x : TxInstance) (s : State) : (enqueue x s).spu = s.spu := by
  unfold enqueue
  try dsimp only
  (repeat' split) <;> simp
@[simp] theorem enqueue_ltu (x : TxInstance) (s : State) : (enqueue x s).ltu = s.ltu := by
  unfold enqueue
  try dsimp only
  (repeat' split) <;> simp
@[simp] theorem enqueue_csu (x : TxInstance) (s : State) : (enqueue x s).csu = s.csu := by
  unfold enqueue
  try dsimp only
  (repeat' split) <;> simp
@[simp] theorem enqueue_vdu (x : TxInstance) (s : State) : (enqueue x s).vdu = s.vdu := by
  unfold enqueue
  try dsimp only
  (repeat' split) <;> simp
@[simp] theorem enqueue_opu (x : TxInstance) (s : State) : (enqueue x s).opu = s.opu := by
  unfold enqueue
  try dsimp only
  (repeat' split) <;> simp
@[simp] theorem enqueue_clock (x : TxInstance) (s : State) : (enqueue x s).clock = s.clock := by
  unfold enqueue
  try dsimp only
  (repeat' split) <;> simp
@[simp] theorem enqueue_choices (x : TxInstance) (s : State) : (enqueue x s).choices = s.choices := by
  unfold enqueue
  try dsimp only
  (repeat' split) <;> simp
@[simp] theorem enqueue_arrived (x : TxInstance) (s : State) : (enqueue x s).arrived = s.arrived := by
  unfold enqueue
  try dsimp only
  (repeat' split) <;> simp
@[simp] theorem enqueue_taken (x : TxInstance) (s : State) : (enqueue x s).taken = s.taken := by
  unfold enqueue
  try dsimp only
  (repeat' split) <;> simp
@[simp] theorem enqueue_pending (x : TxInstance) (s : State) : (enqueue x s).pending = s.pending := by
  unfold enqueue
  try dsimp only
  (repeat' split) <;> simp

@[simp] theorem snapshot_resetHeld (n : Nat) (s : State) : (snapshot n s).resetHeld = s.resetHeld := by
  unfold snapshot
  simp
@[simp] theorem snapshot_rli (n : Nat) (s : State) : (snapshot n s).rli = s.rli := by
  unfold snapshot
  simp
@[simp] theorem snapshot_oi (n : Nat) (s : State) : (snapshot n s).oi = s.oi := by
  unfold snapshot
  simp
@[simp] theorem snapshot_clu (n : Nat) (s : State) : (snapshot n s).clu = s.clu := by
  unfold snapshot
  simp
@[simp] theorem snapshot_spu (n : Nat) (s : State) : (snapshot n s).spu = s.spu := by
  unfold snapshot
  simp
@[simp] theorem snapshot_ltu (n : Nat) (s : State) : (snapshot n s).ltu = s.ltu := by
  unfold snapshot
  simp
@[simp] theorem snapshot_csu (n : Nat) (s : State) : (snapshot n s).csu = s.csu := by
  unfold snapshot
  simp
@[simp] theorem snapshot_vdu (n : Nat) (s : State) : (snapshot n s).vdu = s.vdu := by
  unfold snapshot
  simp
@[simp] theorem snapshot_opu (n : Nat) (s : State) : (snapshot n s).opu = s.opu := by
  unfold snapshot
  simp
@[simp] theorem snapshot_clock (n : Nat) (s : State) : (snapshot n s).clock = s.clock := by
  unfold snapshot
  simp
@[simp] theorem snapshot_choices (n : Nat) (s : State) : (snapshot n s).choices = s.choices := by
  unfold snapshot
  simp
@[simp] theorem snapshot_arrived (n : Nat) (s : State) : (snapshot n s).arrived = s.arrived := by
  unfold snapshot
  simp
@[simp] theorem snapshot_taken (n : Nat) (s : State) : (snapshot n s).taken = s.taken := by
  unfold snapshot
  simp
@[simp] theorem snapshot_pending (n : Nat) (s : State) : (snapshot n s).pending = s.pending := by
  unfold snapshot
  simp

@[simp] theorem fallDue_resetHeld (n : Nat) (s : State) : (fallDue n s).resetHeld = s.resetHeld := by
  unfold fallDue
  try dsimp only
  (repeat' split) <;> simp
@[simp] theorem fallDue_rli (n : Nat) (s : State) : (fallDue n s).rli = s.rli := by
  unfold fallDue
  try dsimp only
  (repeat' split) <;> simp
@[simp] theorem fallDue_oi (n : Nat) (s : State) : (fallDue n s).oi = s.oi := by
  unfold fallDue
  try dsimp only
  (repeat' split) <;> simp
@[simp] theorem fallDue_clu (n : Nat) (s : State) : (fallDue n s).clu = s.clu := by
  unfold fallDue
  try dsimp only
  (repeat' split) <;> simp
@[simp] theorem fallDue_spu (n : Nat) (s : State) : (fallDue n s).spu = s.spu := by
  unfold fallDue
  try dsimp only
  (repeat' split) <;> simp
@[simp] theorem fallDue_ltu (n : Nat) (s : State) : (fallDue n s).ltu = s.ltu := by
  unfold fallDue
  try dsimp only
  (repeat' split) <;> simp
@[simp] theorem fallDue_csu (n : Nat) (s : State) : (fallDue n s).csu = s.csu := by
  unfold fallDue
  try dsimp only
  (repeat' split) <;> simp
@[simp] theorem fallDue_vdu (n : Nat) (s : State) : (fallDue n s).vdu = s.vdu := by
  unfold fallDue
  try dsimp only
  (repeat' split) <;> simp
@[simp] theorem fallDue_opu (n : Nat) (s : State) : (fallDue n s).opu = s.opu := by
  unfold fallDue
  try dsimp only
  (repeat' split) <;> simp
@[simp] theorem fallDue_clock (n : Nat) (s : State) : (fallDue n s).clock = s.clock := by
  unfold fallDue
  try dsimp only
  (repeat' split) <;> simp
@[simp] theorem fallDue_choices (n : Nat) (s : State) : (fallDue n s).choices = s.choices := by
  unfold fallDue
  try dsimp only
  (repeat' split) <;> simp
@[simp] theorem fallDue_arrived (n : Nat) (s : State) : (fallDue n s).arrived = s.arrived := by
  unfold fallDue
  try dsimp only
  (repeat' split) <;> simp
@[simp] theorem fallDue_taken (n : Nat) (s : State) : (fallDue n s).taken = s.taken := by
  unfold fallDue
  try dsimp only
  (repeat' split) <;> simp
@[simp] theorem fallDue_pending (n : Nat) (s : State) : (fallDue n s).pending = s.pending := by
  unfold fallDue
  try dsimp only
  (repeat' split) <;> simp

@[simp] theorem eventDue_resetHeld (n : Nat) (s : State) : (eventDue n s).resetHeld = s.resetHeld := by
  unfold eventDue
  try dsimp only
  (repeat' split) <;> simp
@[simp] theorem eventDue_rli (n : Nat) (s : State) : (eventDue n s).rli = s.rli := by
  unfold eventDue
  try dsimp only
  (repeat' split) <;> simp
@[simp] theorem eventDue_oi (n : Nat) (s : State) : (eventDue n s).oi = s.oi := by
  unfold eventDue
  try dsimp only
  (repeat' split) <;> simp
@[simp] theorem eventDue_clu (n : Nat) (s : State) : (eventDue n s).clu = s.clu := by
  unfold eventDue
  try dsimp only
  (repeat' split) <;> simp
@[simp] theorem eventDue_spu (n : Nat) (s : State) : (eventDue n s).spu = s.spu := by
  unfold eventDue
  try dsimp only
  (repeat' split) <;> simp
@[simp] theorem eventDue_ltu (n : Nat) (s : State) : (eventDue n s).ltu = s.ltu := by
  unfold eventDue
  try dsimp only
  (repeat' split) <;> simp
@[simp] theorem eventDue_csu (n : Nat) (s : State) : (eventDue n s).csu = s.csu := by
  unfold eventDue
  try dsimp only
  (repeat' split) <;> simp
@[simp] theorem eventDue_vdu (n : Nat) (s : State) : (eventDue n s).vdu = s.vdu := by
  unfold eventDue
  try dsimp only
  (repeat' split) <;> simp
@[simp] theorem eventDue_opu (n : Nat) (s : State) : (eventDue n s).opu = s.opu := by
  unfold eventDue
  try dsimp only
  (repeat' split) <;> simp
@[simp] theorem eventDue_clock (n : Nat) (s : State) : (eventDue n s).clock = s.clock := by
  unfold eventDue
  try dsimp only
  (repeat' split) <;> simp
@[simp] theorem eventDue_choices (n : Nat) (s : State) : (eventDue n s).choices = s.choices := by
  unfold eventDue
  try dsimp only
  (repeat' split) <;> simp
@[simp] theorem eventDue_arrived (n : Nat) (s : State) : (eventDue n s).arrived = s.arrived := by
  unfold eventDue
  try dsimp only
  (repeat' split) <;> simp
@[simp] theorem eventDue_taken (n : Nat) (s : State) : (eventDue n s).taken = s.taken := by
  unfold eventDue
  try dsimp only
  (repeat' split) <;> simp
@[simp] theorem eventDue_pending (n : Nat) (s : State) : (eventDue n s).pending = s.pending := by
  unfold eventDue
  try dsimp only
  (repeat' split) <;> simp

@[simp] theorem allEventDue_resetHeld (s : State) : (allEventDue s).resetHeld = s.resetHeld := foldl_keeps (·.resetHeld) _ (fun s n => eventDue_resetHeld n s) _ s
@[simp] theorem allEventDue_rli (s : State) : (allEventDue s).rli = s.rli := foldl_keeps (·.rli) _ (fun s n => eventDue_rli n s) _ s
@[simp] theorem allEventDue_oi (s : State) : (allEventDue s).oi = s.oi := foldl_keeps (·.oi) _ (fun s n => eventDue_oi n s) _ s
@[simp] theorem allEventDue_clu (s : State) : (allEventDue s).clu = s.clu := foldl_keeps (·.clu) _ (fun s n => eventDue_clu n s) _ s
@[simp] theorem allEventDue_spu (s : State) : (allEventDue s).spu = s.spu := foldl_keeps (·.spu) _ (fun s n => eventDue_spu n s) _ s
@[simp] theorem allEventDue_ltu (s : State) : (allEventDue s).ltu = s.ltu := foldl_keeps (·.ltu) _ (fun s n => eventDue_ltu n s) _ s
@[simp] theorem allEventDue_csu (s : State) : (allEventDue s).csu = s.csu := foldl_keeps (·.csu) _ (fun s n => eventDue_csu n s) _ s
@[simp] theorem allEventDue_vdu (s : State) : (allEventDue s).vdu = s.vdu := foldl_keeps (·.vdu) _ (fun s n => eventDue_vdu n s) _ s
@[simp] theorem allEventDue_opu (s : State) : (allEventDue s).opu = s.opu := foldl_keeps (·.opu) _ (fun s n => eventDue_opu n s) _ s
@[simp] theorem allEventDue_clock (s : State) : (allEventDue s).clock = s.clock := foldl_keeps (·.clock) _ (fun s n => eventDue_clock n s) _ s
@[simp] theorem allEventDue_choices (s : State) : (allEventDue s).choices = s.choices := foldl_keeps (·.choices) _ (fun s n => eventDue_choices n s) _ s
@[simp] theorem allEventDue_arrived (s : State) : (allEventDue s).arrived = s.arrived := foldl_keeps (·.arrived) _ (fun s n => eventDue_arrived n s) _ s
@[simp] theorem allEventDue_taken (s : State) : (allEventDue s).taken = s.taken := foldl_keeps (·.taken) _ (fun s n => eventDue_taken n s) _ s
@[simp] theorem allEventDue_pending (s : State) : (allEventDue s).pending = s.pending := foldl_keeps (·.pending) _ (fun s n => eventDue_pending n s) _ s

@[simp] theorem zeroDue_resetHeld (s : State) : (zeroDue s).resetHeld = s.resetHeld := foldl_keeps (·.resetHeld) _ (fun s n => by split <;> simp) _ s
@[simp] theorem zeroDue_rli (s : State) : (zeroDue s).rli = s.rli := foldl_keeps (·.rli) _ (fun s n => by split <;> simp) _ s
@[simp] theorem zeroDue_oi (s : State) : (zeroDue s).oi = s.oi := foldl_keeps (·.oi) _ (fun s n => by split <;> simp) _ s
@[simp] theorem zeroDue_clu (s : State) : (zeroDue s).clu = s.clu := foldl_keeps (·.clu) _ (fun s n => by split <;> simp) _ s
@[simp] theorem zeroDue_spu (s : State) : (zeroDue s).spu = s.spu := foldl_keeps (·.spu) _ (fun s n => by split <;> simp) _ s
@[simp] theorem zeroDue_ltu (s : State) : (zeroDue s).ltu = s.ltu := foldl_keeps (·.ltu) _ (fun s n => by split <;> simp) _ s
@[simp] theorem zeroDue_csu (s : State) : (zeroDue s).csu = s.csu := foldl_keeps (·.csu) _ (fun s n => by split <;> simp) _ s
@[simp] theorem zeroDue_vdu (s : State) : (zeroDue s).vdu = s.vdu := foldl_keeps (·.vdu) _ (fun s n => by split <;> simp) _ s
@[simp] theorem zeroDue_opu (s : State) : (zeroDue s).opu = s.opu := foldl_keeps (·.opu) _ (fun s n => by split <;> simp) _ s
@[simp] theorem zeroDue_clock (s : State) : (zeroDue s).clock = s.clock := foldl_keeps (·.clock) _ (fun s n => by split <;> simp) _ s
@[simp] theorem zeroDue_choices (s : State) : (zeroDue s).choices = s.choices := foldl_keeps (·.choices) _ (fun s n => by split <;> simp) _ s
@[simp] theorem zeroDue_arrived (s : State) : (zeroDue s).arrived = s.arrived := foldl_keeps (·.arrived) _ (fun s n => by split <;> simp) _ s
@[simp] theorem zeroDue_taken (s : State) : (zeroDue s).taken = s.taken := foldl_keeps (·.taken) _ (fun s n => by split <;> simp) _ s
@[simp] theorem zeroDue_pending (s : State) : (zeroDue s).pending = s.pending := foldl_keeps (·.pending) _ (fun s n => by split <;> simp) _ s

@[simp] theorem emptyQueue_resetHeld (s : State) : (emptyQueue s).resetHeld = s.resetHeld := by
  unfold emptyQueue
  simp
@[simp] theorem emptyQueue_rli (s : State) : (emptyQueue s).rli = s.rli := by
  unfold emptyQueue
  simp
@[simp] theorem emptyQueue_oi (s : State) : (emptyQueue s).oi = s.oi := by
  unfold emptyQueue
  simp
@[simp] theorem emptyQueue_clu (s : State) : (emptyQueue s).clu = s.clu := by
  unfold emptyQueue
  simp
@[simp] theorem emptyQueue_ckr (s : State) : (emptyQueue s).ckr = s.ckr := by
  unfold emptyQueue
  simp
@[simp] theorem emptyQueue_spu (s : State) : (emptyQueue s).spu = s.spu := by
  unfold emptyQueue
  simp
@[simp] theorem emptyQueue_ltu (s : State) : (emptyQueue s).ltu = s.ltu := by
  unfold emptyQueue
  simp
@[simp] theorem emptyQueue_csu (s : State) : (emptyQueue s).csu = s.csu := by
  unfold emptyQueue
  simp
@[simp] theorem emptyQueue_vdu (s : State) : (emptyQueue s).vdu = s.vdu := by
  unfold emptyQueue
  simp
@[simp] theorem emptyQueue_opu (s : State) : (emptyQueue s).opu = s.opu := by
  unfold emptyQueue
  simp
@[simp] theorem emptyQueue_clock (s : State) : (emptyQueue s).clock = s.clock := by
  unfold emptyQueue
  simp
@[simp] theorem emptyQueue_choices (s : State) : (emptyQueue s).choices = s.choices := by
  unfold emptyQueue
  simp
@[simp] theorem emptyQueue_arrived (s : State) : (emptyQueue s).arrived = s.arrived := by
  unfold emptyQueue
  simp
@[simp] theorem emptyQueue_taken (s : State) : (emptyQueue s).taken = s.taken := by
  unfold emptyQueue
  simp
@[simp] theorem emptyQueue_pending (s : State) : (emptyQueue s).pending = s.pending := by
  unfold emptyQueue
  simp

@[simp] theorem clearMessages_resetHeld (s : State) : (clearMessages s).resetHeld = s.resetHeld := by
  unfold clearMessages
  simp
@[simp] theorem clearMessages_rli (s : State) : (clearMessages s).rli = s.rli := by
  unfold clearMessages
  simp
@[simp] theorem clearMessages_oi (s : State) : (clearMessages s).oi = s.oi := by
  unfold clearMessages
  simp
@[simp] theorem clearMessages_clu (s : State) : (clearMessages s).clu = s.clu := by
  unfold clearMessages
  simp
@[simp] theorem clearMessages_ckr (s : State) : (clearMessages s).ckr = s.ckr := by
  unfold clearMessages
  simp
@[simp] theorem clearMessages_spu (s : State) : (clearMessages s).spu = s.spu := by
  unfold clearMessages
  simp
@[simp] theorem clearMessages_ltu (s : State) : (clearMessages s).ltu = s.ltu := by
  unfold clearMessages
  simp
@[simp] theorem clearMessages_csu (s : State) : (clearMessages s).csu = s.csu := by
  unfold clearMessages
  simp
@[simp] theorem clearMessages_vdu (s : State) : (clearMessages s).vdu = s.vdu := by
  unfold clearMessages
  simp
@[simp] theorem clearMessages_opu (s : State) : (clearMessages s).opu = s.opu := by
  unfold clearMessages
  simp
@[simp] theorem clearMessages_clock (s : State) : (clearMessages s).clock = s.clock := by
  unfold clearMessages
  simp
@[simp] theorem clearMessages_choices (s : State) : (clearMessages s).choices = s.choices := by
  unfold clearMessages
  simp
@[simp] theorem clearMessages_arrived (s : State) : (clearMessages s).arrived = s.arrived := by
  unfold clearMessages
  simp
@[simp] theorem clearMessages_taken (s : State) : (clearMessages s).taken = s.taken := by
  unfold clearMessages
  simp
@[simp] theorem clearMessages_pending (s : State) : (clearMessages s).pending = s.pending := by
  unfold clearMessages
  simp

@[simp] theorem stopTraffic_resetHeld (s : State) : (stopTraffic s).resetHeld = s.resetHeld := by
  unfold stopTraffic
  simp
@[simp] theorem stopTraffic_rli (s : State) : (stopTraffic s).rli = s.rli := by
  unfold stopTraffic
  simp
@[simp] theorem stopTraffic_oi (s : State) : (stopTraffic s).oi = s.oi := by
  unfold stopTraffic
  simp
@[simp] theorem stopTraffic_clu (s : State) : (stopTraffic s).clu = s.clu := by
  unfold stopTraffic
  simp
@[simp] theorem stopTraffic_ckr (s : State) : (stopTraffic s).ckr = s.ckr := by
  unfold stopTraffic
  simp
@[simp] theorem stopTraffic_spu (s : State) : (stopTraffic s).spu = s.spu := by
  unfold stopTraffic
  simp
@[simp] theorem stopTraffic_ltu (s : State) : (stopTraffic s).ltu = s.ltu := by
  unfold stopTraffic
  simp
@[simp] theorem stopTraffic_csu (s : State) : (stopTraffic s).csu = s.csu := by
  unfold stopTraffic
  simp
@[simp] theorem stopTraffic_vdu (s : State) : (stopTraffic s).vdu = s.vdu := by
  unfold stopTraffic
  simp
@[simp] theorem stopTraffic_opu (s : State) : (stopTraffic s).opu = s.opu := by
  unfold stopTraffic
  simp
@[simp] theorem stopTraffic_clock (s : State) : (stopTraffic s).clock = s.clock := by
  unfold stopTraffic
  simp
@[simp] theorem stopTraffic_choices (s : State) : (stopTraffic s).choices = s.choices := by
  unfold stopTraffic
  simp
@[simp] theorem stopTraffic_arrived (s : State) : (stopTraffic s).arrived = s.arrived := by
  unfold stopTraffic
  simp
@[simp] theorem stopTraffic_taken (s : State) : (stopTraffic s).taken = s.taken := by
  unfold stopTraffic
  simp
@[simp] theorem stopTraffic_pending (s : State) : (stopTraffic s).pending = s.pending := by
  unfold stopTraffic
  simp

@[simp] theorem startTraffic_resetHeld (s : State) : (startTraffic s).resetHeld = s.resetHeld := by
  unfold startTraffic
  simp
@[simp] theorem startTraffic_rli (s : State) : (startTraffic s).rli = s.rli := by
  unfold startTraffic
  simp
@[simp] theorem startTraffic_oi (s : State) : (startTraffic s).oi = s.oi := by
  unfold startTraffic
  simp
@[simp] theorem startTraffic_clu (s : State) : (startTraffic s).clu = s.clu := by
  unfold startTraffic
  simp
@[simp] theorem startTraffic_spu (s : State) : (startTraffic s).spu = s.spu := by
  unfold startTraffic
  simp
@[simp] theorem startTraffic_ltu (s : State) : (startTraffic s).ltu = s.ltu := by
  unfold startTraffic
  simp
@[simp] theorem startTraffic_csu (s : State) : (startTraffic s).csu = s.csu := by
  unfold startTraffic
  simp
@[simp] theorem startTraffic_vdu (s : State) : (startTraffic s).vdu = s.vdu := by
  unfold startTraffic
  simp
@[simp] theorem startTraffic_opu (s : State) : (startTraffic s).opu = s.opu := by
  unfold startTraffic
  simp
@[simp] theorem startTraffic_clock (s : State) : (startTraffic s).clock = s.clock := by
  unfold startTraffic
  simp
@[simp] theorem startTraffic_choices (s : State) : (startTraffic s).choices = s.choices := by
  unfold startTraffic
  simp
@[simp] theorem startTraffic_arrived (s : State) : (startTraffic s).arrived = s.arrived := by
  unfold startTraffic
  simp
@[simp] theorem startTraffic_taken (s : State) : (startTraffic s).taken = s.taken := by
  unfold startTraffic
  simp
@[simp] theorem startTraffic_pending (s : State) : (startTraffic s).pending = s.pending := by
  unfold startTraffic
  simp

@[simp] theorem messageOn_resetHeld (n : Nat) (s : State) : (messageOn n s).resetHeld = s.resetHeld := by
  unfold messageOn
  try dsimp only
  (repeat' split) <;> simp
@[simp] theorem messageOn_rli (n : Nat) (s : State) : (messageOn n s).rli = s.rli := by
  unfold messageOn
  try dsimp only
  (repeat' split) <;> simp
@[simp] theorem messageOn_oi (n : Nat) (s : State) : (messageOn n s).oi = s.oi := by
  unfold messageOn
  try dsimp only
  (repeat' split) <;> simp
@[simp] theorem messageOn_clu (n : Nat) (s : State) : (messageOn n s).clu = s.clu := by
  unfold messageOn
  try dsimp only
  (repeat' split) <;> simp
@[simp] theorem messageOn_spu (n : Nat) (s : State) : (messageOn n s).spu = s.spu := by
  unfold messageOn
  try dsimp only
  (repeat' split) <;> simp
@[simp] theorem messageOn_ltu (n : Nat) (s : State) : (messageOn n s).ltu = s.ltu := by
  unfold messageOn
  try dsimp only
  (repeat' split) <;> simp
@[simp] theorem messageOn_csu (n : Nat) (s : State) : (messageOn n s).csu = s.csu := by
  unfold messageOn
  try dsimp only
  (repeat' split) <;> simp
@[simp] theorem messageOn_vdu (n : Nat) (s : State) : (messageOn n s).vdu = s.vdu := by
  unfold messageOn
  try dsimp only
  (repeat' split) <;> simp
@[simp] theorem messageOn_opu (n : Nat) (s : State) : (messageOn n s).opu = s.opu := by
  unfold messageOn
  try dsimp only
  (repeat' split) <;> simp
@[simp] theorem messageOn_clock (n : Nat) (s : State) : (messageOn n s).clock = s.clock := by
  unfold messageOn
  try dsimp only
  (repeat' split) <;> simp
@[simp] theorem messageOn_choices (n : Nat) (s : State) : (messageOn n s).choices = s.choices := by
  unfold messageOn
  try dsimp only
  (repeat' split) <;> simp
@[simp] theorem messageOn_arrived (n : Nat) (s : State) : (messageOn n s).arrived = s.arrived := by
  unfold messageOn
  try dsimp only
  (repeat' split) <;> simp
@[simp] theorem messageOn_taken (n : Nat) (s : State) : (messageOn n s).taken = s.taken := by
  unfold messageOn
  try dsimp only
  (repeat' split) <;> simp
@[simp] theorem messageOn_pending (n : Nat) (s : State) : (messageOn n s).pending = s.pending := by
  unfold messageOn
  try dsimp only
  (repeat' split) <;> simp

@[simp] theorem messageOff_resetHeld (n : Nat) (s : State) : (messageOff n s).resetHeld = s.resetHeld := by
  unfold messageOff
  try dsimp only
  (repeat' split) <;> simp
@[simp] theorem messageOff_rli (n : Nat) (s : State) : (messageOff n s).rli = s.rli := by
  unfold messageOff
  try dsimp only
  (repeat' split) <;> simp
@[simp] theorem messageOff_oi (n : Nat) (s : State) : (messageOff n s).oi = s.oi := by
  unfold messageOff
  try dsimp only
  (repeat' split) <;> simp
@[simp] theorem messageOff_clu (n : Nat) (s : State) : (messageOff n s).clu = s.clu := by
  unfold messageOff
  try dsimp only
  (repeat' split) <;> simp
@[simp] theorem messageOff_ckr (n : Nat) (s : State) : (messageOff n s).ckr = s.ckr := by
  unfold messageOff
  try dsimp only
  (repeat' split) <;> simp
@[simp] theorem messageOff_spu (n : Nat) (s : State) : (messageOff n s).spu = s.spu := by
  unfold messageOff
  try dsimp only
  (repeat' split) <;> simp
@[simp] theorem messageOff_ltu (n : Nat) (s : State) : (messageOff n s).ltu = s.ltu := by
  unfold messageOff
  try dsimp only
  (repeat' split) <;> simp
@[simp] theorem messageOff_csu (n : Nat) (s : State) : (messageOff n s).csu = s.csu := by
  unfold messageOff
  try dsimp only
  (repeat' split) <;> simp
@[simp] theorem messageOff_vdu (n : Nat) (s : State) : (messageOff n s).vdu = s.vdu := by
  unfold messageOff
  try dsimp only
  (repeat' split) <;> simp
@[simp] theorem messageOff_opu (n : Nat) (s : State) : (messageOff n s).opu = s.opu := by
  unfold messageOff
  try dsimp only
  (repeat' split) <;> simp
@[simp] theorem messageOff_clock (n : Nat) (s : State) : (messageOff n s).clock = s.clock := by
  unfold messageOff
  try dsimp only
  (repeat' split) <;> simp
@[simp] theorem messageOff_choices (n : Nat) (s : State) : (messageOff n s).choices = s.choices := by
  unfold messageOff
  try dsimp only
  (repeat' split) <;> simp
@[simp] theorem messageOff_arrived (n : Nat) (s : State) : (messageOff n s).arrived = s.arrived := by
  unfold messageOff
  try dsimp only
  (repeat' split) <;> simp
@[simp] theorem messageOff_taken (n : Nat) (s : State) : (messageOff n s).taken = s.taken := by
  unfold messageOff
  try dsimp only
  (repeat' split) <;> simp
@[simp] theorem messageOff_pending (n : Nat) (s : State) : (messageOff n s).pending = s.pending := by
  unfold messageOff
  try dsimp only
  (repeat' split) <;> simp

@[simp] theorem writeSlot_resetHeld (n start len : Nat) (p : Payload) (s : State) : (writeSlot n start len p s).resetHeld = s.resetHeld := by
  unfold writeSlot
  try dsimp only
  (repeat' split) <;> simp
@[simp] theorem writeSlot_rli (n start len : Nat) (p : Payload) (s : State) : (writeSlot n start len p s).rli = s.rli := by
  unfold writeSlot
  try dsimp only
  (repeat' split) <;> simp
@[simp] theorem writeSlot_oi (n start len : Nat) (p : Payload) (s : State) : (writeSlot n start len p s).oi = s.oi := by
  unfold writeSlot
  try dsimp only
  (repeat' split) <;> simp
@[simp] theorem writeSlot_clu (n start len : Nat) (p : Payload) (s : State) : (writeSlot n start len p s).clu = s.clu := by
  unfold writeSlot
  try dsimp only
  (repeat' split) <;> simp
@[simp] theorem writeSlot_spu (n start len : Nat) (p : Payload) (s : State) : (writeSlot n start len p s).spu = s.spu := by
  unfold writeSlot
  try dsimp only
  (repeat' split) <;> simp
@[simp] theorem writeSlot_ltu (n start len : Nat) (p : Payload) (s : State) : (writeSlot n start len p s).ltu = s.ltu := by
  unfold writeSlot
  try dsimp only
  (repeat' split) <;> simp
@[simp] theorem writeSlot_csu (n start len : Nat) (p : Payload) (s : State) : (writeSlot n start len p s).csu = s.csu := by
  unfold writeSlot
  try dsimp only
  (repeat' split) <;> simp
@[simp] theorem writeSlot_vdu (n start len : Nat) (p : Payload) (s : State) : (writeSlot n start len p s).vdu = s.vdu := by
  unfold writeSlot
  try dsimp only
  (repeat' split) <;> simp
@[simp] theorem writeSlot_opu (n start len : Nat) (p : Payload) (s : State) : (writeSlot n start len p s).opu = s.opu := by
  unfold writeSlot
  try dsimp only
  (repeat' split) <;> simp
@[simp] theorem writeSlot_clock (n start len : Nat) (p : Payload) (s : State) : (writeSlot n start len p s).clock = s.clock := by
  unfold writeSlot
  try dsimp only
  (repeat' split) <;> simp
@[simp] theorem writeSlot_choices (n start len : Nat) (p : Payload) (s : State) : (writeSlot n start len p s).choices = s.choices := by
  unfold writeSlot
  try dsimp only
  (repeat' split) <;> simp
@[simp] theorem writeSlot_arrived (n start len : Nat) (p : Payload) (s : State) : (writeSlot n start len p s).arrived = s.arrived := by
  unfold writeSlot
  try dsimp only
  (repeat' split) <;> simp
@[simp] theorem writeSlot_taken (n start len : Nat) (p : Payload) (s : State) : (writeSlot n start len p s).taken = s.taken := by
  unfold writeSlot
  try dsimp only
  (repeat' split) <;> simp
@[simp] theorem writeSlot_pending (n start len : Nat) (p : Payload) (s : State) : (writeSlot n start len p s).pending = s.pending := by
  unfold writeSlot
  try dsimp only
  (repeat' split) <;> simp

@[simp] theorem applyRestore_resetHeld (e : RestoreEntry) (s : State) : (applyRestore e s).resetHeld = s.resetHeld := by
  unfold applyRestore
  simp
@[simp] theorem applyRestore_rli (e : RestoreEntry) (s : State) : (applyRestore e s).rli = s.rli := by
  unfold applyRestore
  simp
@[simp] theorem applyRestore_oi (e : RestoreEntry) (s : State) : (applyRestore e s).oi = s.oi := by
  unfold applyRestore
  simp
@[simp] theorem applyRestore_clu (e : RestoreEntry) (s : State) : (applyRestore e s).clu = s.clu := by
  unfold applyRestore
  simp
@[simp] theorem applyRestore_spu (e : RestoreEntry) (s : State) : (applyRestore e s).spu = s.spu := by
  unfold applyRestore
  simp
@[simp] theorem applyRestore_ltu (e : RestoreEntry) (s : State) : (applyRestore e s).ltu = s.ltu := by
  unfold applyRestore
  simp
@[simp] theorem applyRestore_csu (e : RestoreEntry) (s : State) : (applyRestore e s).csu = s.csu := by
  unfold applyRestore
  simp
@[simp] theorem applyRestore_vdu (e : RestoreEntry) (s : State) : (applyRestore e s).vdu = s.vdu := by
  unfold applyRestore
  simp
@[simp] theorem applyRestore_opu (e : RestoreEntry) (s : State) : (applyRestore e s).opu = s.opu := by
  unfold applyRestore
  simp
@[simp] theorem applyRestore_clock (e : RestoreEntry) (s : State) : (applyRestore e s).clock = s.clock := by
  unfold applyRestore
  simp
@[simp] theorem applyRestore_choices (e : RestoreEntry) (s : State) : (applyRestore e s).choices = s.choices := by
  unfold applyRestore
  simp
@[simp] theorem applyRestore_arrived (e : RestoreEntry) (s : State) : (applyRestore e s).arrived = s.arrived := by
  unfold applyRestore
  simp
@[simp] theorem applyRestore_taken (e : RestoreEntry) (s : State) : (applyRestore e s).taken = s.taken := by
  unfold applyRestore
  simp
@[simp] theorem applyRestore_pending (e : RestoreEntry) (s : State) : (applyRestore e s).pending = s.pending := by
  unfold applyRestore
  simp

@[simp] theorem writeChallenge_resetHeld (code : Nat) (s : State) : (writeChallenge code s).resetHeld = s.resetHeld := by
  unfold writeChallenge
  simp
@[simp] theorem writeChallenge_rli (code : Nat) (s : State) : (writeChallenge code s).rli = s.rli := by
  unfold writeChallenge
  simp
@[simp] theorem writeChallenge_oi (code : Nat) (s : State) : (writeChallenge code s).oi = s.oi := by
  unfold writeChallenge
  simp
@[simp] theorem writeChallenge_clu (code : Nat) (s : State) : (writeChallenge code s).clu = s.clu := by
  unfold writeChallenge
  simp
@[simp] theorem writeChallenge_spu (code : Nat) (s : State) : (writeChallenge code s).spu = s.spu := by
  unfold writeChallenge
  simp
@[simp] theorem writeChallenge_ltu (code : Nat) (s : State) : (writeChallenge code s).ltu = s.ltu := by
  unfold writeChallenge
  simp
@[simp] theorem writeChallenge_csu (code : Nat) (s : State) : (writeChallenge code s).csu = s.csu := by
  unfold writeChallenge
  simp
@[simp] theorem writeChallenge_vdu (code : Nat) (s : State) : (writeChallenge code s).vdu = s.vdu := by
  unfold writeChallenge
  simp
@[simp] theorem writeChallenge_opu (code : Nat) (s : State) : (writeChallenge code s).opu = s.opu := by
  unfold writeChallenge
  simp
@[simp] theorem writeChallenge_clock (code : Nat) (s : State) : (writeChallenge code s).clock = s.clock := by
  unfold writeChallenge
  simp
@[simp] theorem writeChallenge_choices (code : Nat) (s : State) : (writeChallenge code s).choices = s.choices := by
  unfold writeChallenge
  simp
@[simp] theorem writeChallenge_arrived (code : Nat) (s : State) : (writeChallenge code s).arrived = s.arrived := by
  unfold writeChallenge
  simp
@[simp] theorem writeChallenge_taken (code : Nat) (s : State) : (writeChallenge code s).taken = s.taken := by
  unfold writeChallenge
  simp
@[simp] theorem writeChallenge_pending (code : Nat) (s : State) : (writeChallenge code s).pending = s.pending := by
  unfold writeChallenge
  simp

@[simp] theorem attemptStart_resetHeld (s : State) : (attemptStart s).resetHeld = s.resetHeld := by
  unfold attemptStart
  try dsimp only
  (repeat' split) <;> simp
@[simp] theorem attemptStart_rli (s : State) : (attemptStart s).rli = s.rli := by
  unfold attemptStart
  try dsimp only
  (repeat' split) <;> simp
@[simp] theorem attemptStart_oi (s : State) : (attemptStart s).oi = s.oi := by
  unfold attemptStart
  try dsimp only
  (repeat' split) <;> simp
@[simp] theorem attemptStart_clu (s : State) : (attemptStart s).clu = s.clu := by
  unfold attemptStart
  try dsimp only
  (repeat' split) <;> simp
@[simp] theorem attemptStart_ckr (s : State) : (attemptStart s).ckr = s.ckr := by
  unfold attemptStart
  try dsimp only
  (repeat' split) <;> simp
@[simp] theorem attemptStart_spu (s : State) : (attemptStart s).spu = s.spu := by
  unfold attemptStart
  try dsimp only
  (repeat' split) <;> simp
@[simp] theorem attemptStart_ltu (s : State) : (attemptStart s).ltu = s.ltu := by
  unfold attemptStart
  try dsimp only
  (repeat' split) <;> simp
@[simp] theorem attemptStart_csu (s : State) : (attemptStart s).csu = s.csu := by
  unfold attemptStart
  try dsimp only
  (repeat' split) <;> simp
@[simp] theorem attemptStart_vdu (s : State) : (attemptStart s).vdu = s.vdu := by
  unfold attemptStart
  try dsimp only
  (repeat' split) <;> simp
@[simp] theorem attemptStart_opu (s : State) : (attemptStart s).opu = s.opu := by
  unfold attemptStart
  try dsimp only
  (repeat' split) <;> simp
@[simp] theorem attemptStart_clock (s : State) : (attemptStart s).clock = s.clock := by
  unfold attemptStart
  try dsimp only
  (repeat' split) <;> simp
@[simp] theorem attemptStart_choices (s : State) : (attemptStart s).choices = s.choices := by
  unfold attemptStart
  try dsimp only
  (repeat' split) <;> simp
@[simp] theorem attemptStart_arrived (s : State) : (attemptStart s).arrived = s.arrived := by
  unfold attemptStart
  try dsimp only
  (repeat' split) <;> simp
@[simp] theorem attemptStart_taken (s : State) : (attemptStart s).taken = s.taken := by
  unfold attemptStart
  try dsimp only
  (repeat' split) <;> simp
@[simp] theorem attemptStart_pending (s : State) : (attemptStart s).pending = s.pending := by
  unfold attemptStart
  try dsimp only
  (repeat' split) <;> simp

@[simp] theorem returnLost_resetHeld (x : TxInstance) (s : State) : (returnLost x s).resetHeld = s.resetHeld := by
  unfold returnLost
  try dsimp only
  (repeat' split) <;> simp
@[simp] theorem returnLost_rli (x : TxInstance) (s : State) : (returnLost x s).rli = s.rli := by
  unfold returnLost
  try dsimp only
  (repeat' split) <;> simp
@[simp] theorem returnLost_oi (x : TxInstance) (s : State) : (returnLost x s).oi = s.oi := by
  unfold returnLost
  try dsimp only
  (repeat' split) <;> simp
@[simp] theorem returnLost_clu (x : TxInstance) (s : State) : (returnLost x s).clu = s.clu := by
  unfold returnLost
  try dsimp only
  (repeat' split) <;> simp
@[simp] theorem returnLost_spu (x : TxInstance) (s : State) : (returnLost x s).spu = s.spu := by
  unfold returnLost
  try dsimp only
  (repeat' split) <;> simp
@[simp] theorem returnLost_ltu (x : TxInstance) (s : State) : (returnLost x s).ltu = s.ltu := by
  unfold returnLost
  try dsimp only
  (repeat' split) <;> simp
@[simp] theorem returnLost_csu (x : TxInstance) (s : State) : (returnLost x s).csu = s.csu := by
  unfold returnLost
  try dsimp only
  (repeat' split) <;> simp
@[simp] theorem returnLost_vdu (x : TxInstance) (s : State) : (returnLost x s).vdu = s.vdu := by
  unfold returnLost
  try dsimp only
  (repeat' split) <;> simp
@[simp] theorem returnLost_opu (x : TxInstance) (s : State) : (returnLost x s).opu = s.opu := by
  unfold returnLost
  try dsimp only
  (repeat' split) <;> simp
@[simp] theorem returnLost_clock (x : TxInstance) (s : State) : (returnLost x s).clock = s.clock := by
  unfold returnLost
  try dsimp only
  (repeat' split) <;> simp
@[simp] theorem returnLost_choices (x : TxInstance) (s : State) : (returnLost x s).choices = s.choices := by
  unfold returnLost
  try dsimp only
  (repeat' split) <;> simp
@[simp] theorem returnLost_arrived (x : TxInstance) (s : State) : (returnLost x s).arrived = s.arrived := by
  unfold returnLost
  try dsimp only
  (repeat' split) <;> simp
@[simp] theorem returnLost_taken (x : TxInstance) (s : State) : (returnLost x s).taken = s.taken := by
  unfold returnLost
  try dsimp only
  (repeat' split) <;> simp
@[simp] theorem returnLost_pending (x : TxInstance) (s : State) : (returnLost x s).pending = s.pending := by
  unfold returnLost
  try dsimp only
  (repeat' split) <;> simp

@[simp] theorem enterBusSilent_resetHeld (s : State) : (enterBusSilent s).resetHeld = s.resetHeld := by
  unfold enterBusSilent
  simp
@[simp] theorem enterBusSilent_rli (s : State) : (enterBusSilent s).rli = s.rli := by
  unfold enterBusSilent
  simp
@[simp] theorem enterBusSilent_oi (s : State) : (enterBusSilent s).oi = s.oi := by
  unfold enterBusSilent
  simp
@[simp] theorem enterBusSilent_clu (s : State) : (enterBusSilent s).clu = s.clu := by
  unfold enterBusSilent
  simp
@[simp] theorem enterBusSilent_ckr (s : State) : (enterBusSilent s).ckr = s.ckr := by
  unfold enterBusSilent
  simp
@[simp] theorem enterBusSilent_spu (s : State) : (enterBusSilent s).spu = s.spu := by
  unfold enterBusSilent
  simp
@[simp] theorem enterBusSilent_ltu (s : State) : (enterBusSilent s).ltu = s.ltu := by
  unfold enterBusSilent
  simp
@[simp] theorem enterBusSilent_csu (s : State) : (enterBusSilent s).csu = s.csu := by
  unfold enterBusSilent
  simp
@[simp] theorem enterBusSilent_vdu (s : State) : (enterBusSilent s).vdu = s.vdu := by
  unfold enterBusSilent
  simp
@[simp] theorem enterBusSilent_opu (s : State) : (enterBusSilent s).opu = s.opu := by
  unfold enterBusSilent
  simp
@[simp] theorem enterBusSilent_clock (s : State) : (enterBusSilent s).clock = s.clock := by
  unfold enterBusSilent
  simp
@[simp] theorem enterBusSilent_choices (s : State) : (enterBusSilent s).choices = s.choices := by
  unfold enterBusSilent
  simp
@[simp] theorem enterBusSilent_arrived (s : State) : (enterBusSilent s).arrived = s.arrived := by
  unfold enterBusSilent
  simp
@[simp] theorem enterBusSilent_taken (s : State) : (enterBusSilent s).taken = s.taken := by
  unfold enterBusSilent
  simp
@[simp] theorem enterBusSilent_pending (s : State) : (enterBusSilent s).pending = s.pending := by
  unfold enterBusSilent
  simp

@[simp] theorem attemptEnd_resetHeld (o : CanOutcome) (s : State) : ((attemptEnd o s).1).resetHeld = s.resetHeld := by
  unfold attemptEnd
  try dsimp only
  (repeat' split) <;> simp
@[simp] theorem attemptEnd_rli (o : CanOutcome) (s : State) : ((attemptEnd o s).1).rli = s.rli := by
  unfold attemptEnd
  try dsimp only
  (repeat' split) <;> simp
@[simp] theorem attemptEnd_oi (o : CanOutcome) (s : State) : ((attemptEnd o s).1).oi = s.oi := by
  unfold attemptEnd
  try dsimp only
  (repeat' split) <;> simp
@[simp] theorem attemptEnd_clu (o : CanOutcome) (s : State) : ((attemptEnd o s).1).clu = s.clu := by
  unfold attemptEnd
  try dsimp only
  (repeat' split) <;> simp
@[simp] theorem attemptEnd_spu (o : CanOutcome) (s : State) : ((attemptEnd o s).1).spu = s.spu := by
  unfold attemptEnd
  try dsimp only
  (repeat' split) <;> simp
@[simp] theorem attemptEnd_ltu (o : CanOutcome) (s : State) : ((attemptEnd o s).1).ltu = s.ltu := by
  unfold attemptEnd
  try dsimp only
  (repeat' split) <;> simp
@[simp] theorem attemptEnd_csu (o : CanOutcome) (s : State) : ((attemptEnd o s).1).csu = s.csu := by
  unfold attemptEnd
  try dsimp only
  (repeat' split) <;> simp
@[simp] theorem attemptEnd_vdu (o : CanOutcome) (s : State) : ((attemptEnd o s).1).vdu = s.vdu := by
  unfold attemptEnd
  try dsimp only
  (repeat' split) <;> simp
@[simp] theorem attemptEnd_opu (o : CanOutcome) (s : State) : ((attemptEnd o s).1).opu = s.opu := by
  unfold attemptEnd
  try dsimp only
  (repeat' split) <;> simp
@[simp] theorem attemptEnd_clock (o : CanOutcome) (s : State) : ((attemptEnd o s).1).clock = s.clock := by
  unfold attemptEnd
  try dsimp only
  (repeat' split) <;> simp
@[simp] theorem attemptEnd_choices (o : CanOutcome) (s : State) : ((attemptEnd o s).1).choices = s.choices := by
  unfold attemptEnd
  try dsimp only
  (repeat' split) <;> simp
@[simp] theorem attemptEnd_arrived (o : CanOutcome) (s : State) : ((attemptEnd o s).1).arrived = s.arrived := by
  unfold attemptEnd
  try dsimp only
  (repeat' split) <;> simp
@[simp] theorem attemptEnd_taken (o : CanOutcome) (s : State) : ((attemptEnd o s).1).taken = s.taken := by
  unfold attemptEnd
  try dsimp only
  (repeat' split) <;> simp
@[simp] theorem attemptEnd_pending (o : CanOutcome) (s : State) : ((attemptEnd o s).1).pending = s.pending := by
  unfold attemptEnd
  try dsimp only
  (repeat' split) <;> simp

@[simp] theorem leaveBusSilent_resetHeld (s : State) : (leaveBusSilent s).resetHeld = s.resetHeld := by
  unfold leaveBusSilent
  try dsimp only
  (repeat' split) <;> simp
@[simp] theorem leaveBusSilent_rli (s : State) : (leaveBusSilent s).rli = s.rli := by
  unfold leaveBusSilent
  try dsimp only
  (repeat' split) <;> simp
@[simp] theorem leaveBusSilent_oi (s : State) : (leaveBusSilent s).oi = s.oi := by
  unfold leaveBusSilent
  try dsimp only
  (repeat' split) <;> simp
@[simp] theorem leaveBusSilent_clu (s : State) : (leaveBusSilent s).clu = s.clu := by
  unfold leaveBusSilent
  try dsimp only
  (repeat' split) <;> simp
@[simp] theorem leaveBusSilent_spu (s : State) : (leaveBusSilent s).spu = s.spu := by
  unfold leaveBusSilent
  try dsimp only
  (repeat' split) <;> simp
@[simp] theorem leaveBusSilent_ltu (s : State) : (leaveBusSilent s).ltu = s.ltu := by
  unfold leaveBusSilent
  try dsimp only
  (repeat' split) <;> simp
@[simp] theorem leaveBusSilent_csu (s : State) : (leaveBusSilent s).csu = s.csu := by
  unfold leaveBusSilent
  try dsimp only
  (repeat' split) <;> simp
@[simp] theorem leaveBusSilent_vdu (s : State) : (leaveBusSilent s).vdu = s.vdu := by
  unfold leaveBusSilent
  try dsimp only
  (repeat' split) <;> simp
@[simp] theorem leaveBusSilent_opu (s : State) : (leaveBusSilent s).opu = s.opu := by
  unfold leaveBusSilent
  try dsimp only
  (repeat' split) <;> simp
@[simp] theorem leaveBusSilent_clock (s : State) : (leaveBusSilent s).clock = s.clock := by
  unfold leaveBusSilent
  try dsimp only
  (repeat' split) <;> simp
@[simp] theorem leaveBusSilent_choices (s : State) : (leaveBusSilent s).choices = s.choices := by
  unfold leaveBusSilent
  try dsimp only
  (repeat' split) <;> simp
@[simp] theorem leaveBusSilent_arrived (s : State) : (leaveBusSilent s).arrived = s.arrived := by
  unfold leaveBusSilent
  try dsimp only
  (repeat' split) <;> simp
@[simp] theorem leaveBusSilent_taken (s : State) : (leaveBusSilent s).taken = s.taken := by
  unfold leaveBusSilent
  try dsimp only
  (repeat' split) <;> simp
@[simp] theorem leaveBusSilent_pending (s : State) : (leaveBusSilent s).pending = s.pending := by
  unfold leaveBusSilent
  try dsimp only
  (repeat' split) <;> simp

@[simp] theorem setCapture_resetHeld (n : Nat) (c : CaptureSlot) (s : State) : (setCapture n c s).resetHeld = s.resetHeld := by
  unfold setCapture
  simp
@[simp] theorem setCapture_rli (n : Nat) (c : CaptureSlot) (s : State) : (setCapture n c s).rli = s.rli := by
  unfold setCapture
  simp
@[simp] theorem setCapture_oi (n : Nat) (c : CaptureSlot) (s : State) : (setCapture n c s).oi = s.oi := by
  unfold setCapture
  simp
@[simp] theorem setCapture_clu (n : Nat) (c : CaptureSlot) (s : State) : (setCapture n c s).clu = s.clu := by
  unfold setCapture
  simp
@[simp] theorem setCapture_ckr (n : Nat) (c : CaptureSlot) (s : State) : (setCapture n c s).ckr = s.ckr := by
  unfold setCapture
  simp
@[simp] theorem setCapture_spu (n : Nat) (c : CaptureSlot) (s : State) : (setCapture n c s).spu = s.spu := by
  unfold setCapture
  simp
@[simp] theorem setCapture_ltu (n : Nat) (c : CaptureSlot) (s : State) : (setCapture n c s).ltu = s.ltu := by
  unfold setCapture
  simp
@[simp] theorem setCapture_csu (n : Nat) (c : CaptureSlot) (s : State) : (setCapture n c s).csu = s.csu := by
  unfold setCapture
  simp
@[simp] theorem setCapture_vdu (n : Nat) (c : CaptureSlot) (s : State) : (setCapture n c s).vdu = s.vdu := by
  unfold setCapture
  simp
@[simp] theorem setCapture_opu (n : Nat) (c : CaptureSlot) (s : State) : (setCapture n c s).opu = s.opu := by
  unfold setCapture
  simp
@[simp] theorem setCapture_clock (n : Nat) (c : CaptureSlot) (s : State) : (setCapture n c s).clock = s.clock := by
  unfold setCapture
  simp
@[simp] theorem setCapture_choices (n : Nat) (c : CaptureSlot) (s : State) : (setCapture n c s).choices = s.choices := by
  unfold setCapture
  simp
@[simp] theorem setCapture_arrived (n : Nat) (c : CaptureSlot) (s : State) : (setCapture n c s).arrived = s.arrived := by
  unfold setCapture
  simp
@[simp] theorem setCapture_taken (n : Nat) (c : CaptureSlot) (s : State) : (setCapture n c s).taken = s.taken := by
  unfold setCapture
  simp
@[simp] theorem setCapture_pending (n : Nat) (c : CaptureSlot) (s : State) : (setCapture n c s).pending = s.pending := by
  unfold setCapture
  simp

@[simp] theorem validPair_resetHeld (v : Half) (k : Serial) (s : State) : ((validPair v k s).1).resetHeld = s.resetHeld := by
  unfold validPair
  try dsimp only
  (repeat' split) <;> simp
@[simp] theorem validPair_rli (v : Half) (k : Serial) (s : State) : ((validPair v k s).1).rli = s.rli := by
  unfold validPair
  try dsimp only
  (repeat' split) <;> simp
@[simp] theorem validPair_oi (v : Half) (k : Serial) (s : State) : ((validPair v k s).1).oi = s.oi := by
  unfold validPair
  try dsimp only
  (repeat' split) <;> simp
@[simp] theorem validPair_clu (v : Half) (k : Serial) (s : State) : ((validPair v k s).1).clu = s.clu := by
  unfold validPair
  try dsimp only
  (repeat' split) <;> simp
@[simp] theorem validPair_ckr (v : Half) (k : Serial) (s : State) : ((validPair v k s).1).ckr = s.ckr := by
  unfold validPair
  try dsimp only
  (repeat' split) <;> simp
@[simp] theorem validPair_spu (v : Half) (k : Serial) (s : State) : ((validPair v k s).1).spu = s.spu := by
  unfold validPair
  try dsimp only
  (repeat' split) <;> simp
@[simp] theorem validPair_ltu (v : Half) (k : Serial) (s : State) : ((validPair v k s).1).ltu = s.ltu := by
  unfold validPair
  try dsimp only
  (repeat' split) <;> simp
@[simp] theorem validPair_csu (v : Half) (k : Serial) (s : State) : ((validPair v k s).1).csu = s.csu := by
  unfold validPair
  try dsimp only
  (repeat' split) <;> simp
@[simp] theorem validPair_vdu (v : Half) (k : Serial) (s : State) : ((validPair v k s).1).vdu = s.vdu := by
  unfold validPair
  try dsimp only
  (repeat' split) <;> simp
@[simp] theorem validPair_opu (v : Half) (k : Serial) (s : State) : ((validPair v k s).1).opu = s.opu := by
  unfold validPair
  try dsimp only
  (repeat' split) <;> simp
@[simp] theorem validPair_clock (v : Half) (k : Serial) (s : State) : ((validPair v k s).1).clock = s.clock := by
  unfold validPair
  try dsimp only
  (repeat' split) <;> simp
@[simp] theorem validPair_choices (v : Half) (k : Serial) (s : State) : ((validPair v k s).1).choices = s.choices := by
  unfold validPair
  try dsimp only
  (repeat' split) <;> simp
@[simp] theorem validPair_arrived (v : Half) (k : Serial) (s : State) : ((validPair v k s).1).arrived = s.arrived := by
  unfold validPair
  try dsimp only
  (repeat' split) <;> simp
@[simp] theorem validPair_taken (v : Half) (k : Serial) (s : State) : ((validPair v k s).1).taken = s.taken := by
  unfold validPair
  try dsimp only
  (repeat' split) <;> simp
@[simp] theorem validPair_pending (v : Half) (k : Serial) (s : State) : ((validPair v k s).1).pending = s.pending := by
  unfold validPair
  try dsimp only
  (repeat' split) <;> simp

@[simp] theorem captureInto_resetHeld (n : Nat) (f : CanFrame) (s : State) : ((captureInto n f s).1).resetHeld = s.resetHeld := by
  unfold captureInto
  try dsimp only
  (repeat' split) <;> simp
@[simp] theorem captureInto_rli (n : Nat) (f : CanFrame) (s : State) : ((captureInto n f s).1).rli = s.rli := by
  unfold captureInto
  try dsimp only
  (repeat' split) <;> simp
@[simp] theorem captureInto_oi (n : Nat) (f : CanFrame) (s : State) : ((captureInto n f s).1).oi = s.oi := by
  unfold captureInto
  try dsimp only
  (repeat' split) <;> simp
@[simp] theorem captureInto_clu (n : Nat) (f : CanFrame) (s : State) : ((captureInto n f s).1).clu = s.clu := by
  unfold captureInto
  try dsimp only
  (repeat' split) <;> simp
@[simp] theorem captureInto_ckr (n : Nat) (f : CanFrame) (s : State) : ((captureInto n f s).1).ckr = s.ckr := by
  unfold captureInto
  try dsimp only
  (repeat' split) <;> simp
@[simp] theorem captureInto_spu (n : Nat) (f : CanFrame) (s : State) : ((captureInto n f s).1).spu = s.spu := by
  unfold captureInto
  try dsimp only
  (repeat' split) <;> simp
@[simp] theorem captureInto_ltu (n : Nat) (f : CanFrame) (s : State) : ((captureInto n f s).1).ltu = s.ltu := by
  unfold captureInto
  try dsimp only
  (repeat' split) <;> simp
@[simp] theorem captureInto_csu (n : Nat) (f : CanFrame) (s : State) : ((captureInto n f s).1).csu = s.csu := by
  unfold captureInto
  try dsimp only
  (repeat' split) <;> simp
@[simp] theorem captureInto_vdu (n : Nat) (f : CanFrame) (s : State) : ((captureInto n f s).1).vdu = s.vdu := by
  unfold captureInto
  try dsimp only
  (repeat' split) <;> simp
@[simp] theorem captureInto_opu (n : Nat) (f : CanFrame) (s : State) : ((captureInto n f s).1).opu = s.opu := by
  unfold captureInto
  try dsimp only
  (repeat' split) <;> simp
@[simp] theorem captureInto_clock (n : Nat) (f : CanFrame) (s : State) : ((captureInto n f s).1).clock = s.clock := by
  unfold captureInto
  try dsimp only
  (repeat' split) <;> simp
@[simp] theorem captureInto_choices (n : Nat) (f : CanFrame) (s : State) : ((captureInto n f s).1).choices = s.choices := by
  unfold captureInto
  try dsimp only
  (repeat' split) <;> simp
@[simp] theorem captureInto_arrived (n : Nat) (f : CanFrame) (s : State) : ((captureInto n f s).1).arrived = s.arrived := by
  unfold captureInto
  try dsimp only
  (repeat' split) <;> simp
@[simp] theorem captureInto_taken (n : Nat) (f : CanFrame) (s : State) : ((captureInto n f s).1).taken = s.taken := by
  unfold captureInto
  try dsimp only
  (repeat' split) <;> simp
@[simp] theorem captureInto_pending (n : Nat) (f : CanFrame) (s : State) : ((captureInto n f s).1).pending = s.pending := by
  unfold captureInto
  try dsimp only
  (repeat' split) <;> simp

@[simp] theorem clearFresh_resetHeld (n : Nat) (s : State) : (clearFresh n s).resetHeld = s.resetHeld := by
  unfold clearFresh
  simp
@[simp] theorem clearFresh_rli (n : Nat) (s : State) : (clearFresh n s).rli = s.rli := by
  unfold clearFresh
  simp
@[simp] theorem clearFresh_oi (n : Nat) (s : State) : (clearFresh n s).oi = s.oi := by
  unfold clearFresh
  simp
@[simp] theorem clearFresh_clu (n : Nat) (s : State) : (clearFresh n s).clu = s.clu := by
  unfold clearFresh
  simp
@[simp] theorem clearFresh_ckr (n : Nat) (s : State) : (clearFresh n s).ckr = s.ckr := by
  unfold clearFresh
  simp
@[simp] theorem clearFresh_spu (n : Nat) (s : State) : (clearFresh n s).spu = s.spu := by
  unfold clearFresh
  simp
@[simp] theorem clearFresh_ltu (n : Nat) (s : State) : (clearFresh n s).ltu = s.ltu := by
  unfold clearFresh
  simp
@[simp] theorem clearFresh_csu (n : Nat) (s : State) : (clearFresh n s).csu = s.csu := by
  unfold clearFresh
  simp
@[simp] theorem clearFresh_vdu (n : Nat) (s : State) : (clearFresh n s).vdu = s.vdu := by
  unfold clearFresh
  simp
@[simp] theorem clearFresh_opu (n : Nat) (s : State) : (clearFresh n s).opu = s.opu := by
  unfold clearFresh
  simp
@[simp] theorem clearFresh_clock (n : Nat) (s : State) : (clearFresh n s).clock = s.clock := by
  unfold clearFresh
  simp
@[simp] theorem clearFresh_choices (n : Nat) (s : State) : (clearFresh n s).choices = s.choices := by
  unfold clearFresh
  simp
@[simp] theorem clearFresh_arrived (n : Nat) (s : State) : (clearFresh n s).arrived = s.arrived := by
  unfold clearFresh
  simp
@[simp] theorem clearFresh_taken (n : Nat) (s : State) : (clearFresh n s).taken = s.taken := by
  unfold clearFresh
  simp
@[simp] theorem clearFresh_pending (n : Nat) (s : State) : (clearFresh n s).pending = s.pending := by
  unfold clearFresh
  simp

@[simp] theorem beginIdentity_resetHeld (v : Half) (s : State) : (beginIdentity v s).resetHeld = s.resetHeld := by
  unfold beginIdentity
  simp
@[simp] theorem beginIdentity_rli (v : Half) (s : State) : (beginIdentity v s).rli = s.rli := by
  unfold beginIdentity
  simp
@[simp] theorem beginIdentity_oi (v : Half) (s : State) : (beginIdentity v s).oi = s.oi := by
  unfold beginIdentity
  simp
@[simp] theorem beginIdentity_clu (v : Half) (s : State) : (beginIdentity v s).clu = s.clu := by
  unfold beginIdentity
  simp
@[simp] theorem beginIdentity_ckr (v : Half) (s : State) : (beginIdentity v s).ckr = s.ckr := by
  unfold beginIdentity
  simp
@[simp] theorem beginIdentity_spu (v : Half) (s : State) : (beginIdentity v s).spu = s.spu := by
  unfold beginIdentity
  simp
@[simp] theorem beginIdentity_ltu (v : Half) (s : State) : (beginIdentity v s).ltu = s.ltu := by
  unfold beginIdentity
  simp
@[simp] theorem beginIdentity_csu (v : Half) (s : State) : (beginIdentity v s).csu = s.csu := by
  unfold beginIdentity
  simp
@[simp] theorem beginIdentity_vdu (v : Half) (s : State) : (beginIdentity v s).vdu = s.vdu := by
  unfold beginIdentity
  simp
@[simp] theorem beginIdentity_opu (v : Half) (s : State) : (beginIdentity v s).opu = s.opu := by
  unfold beginIdentity
  simp
@[simp] theorem beginIdentity_clock (v : Half) (s : State) : (beginIdentity v s).clock = s.clock := by
  unfold beginIdentity
  simp
@[simp] theorem beginIdentity_choices (v : Half) (s : State) : (beginIdentity v s).choices = s.choices := by
  unfold beginIdentity
  simp
@[simp] theorem beginIdentity_arrived (v : Half) (s : State) : (beginIdentity v s).arrived = s.arrived := by
  unfold beginIdentity
  simp
@[simp] theorem beginIdentity_taken (v : Half) (s : State) : (beginIdentity v s).taken = s.taken := by
  unfold beginIdentity
  simp
@[simp] theorem beginIdentity_pending (v : Half) (s : State) : (beginIdentity v s).pending = s.pending := by
  unfold beginIdentity
  simp

end Sys2Proof.Machine
end

