-- ==== Sys2Proof/Laws/Panel.lean ====
section
/-! SUPPORT. The blocks that each operation of the Operator Unit leaves as they are. -/

namespace Sys2Proof.Machine

@[simp] theorem promptHandover_resetHeld (p : Prompt) (s : State) : (promptHandover p s).resetHeld = s.resetHeld := by
  unfold promptHandover
  simp
@[simp] theorem promptHandover_rli (p : Prompt) (s : State) : (promptHandover p s).rli = s.rli := by
  unfold promptHandover
  simp
@[simp] theorem promptHandover_oi (p : Prompt) (s : State) : (promptHandover p s).oi = s.oi := by
  unfold promptHandover
  simp
@[simp] theorem promptHandover_clu (p : Prompt) (s : State) : (promptHandover p s).clu = s.clu := by
  unfold promptHandover
  simp
@[simp] theorem promptHandover_ckr (p : Prompt) (s : State) : (promptHandover p s).ckr = s.ckr := by
  unfold promptHandover
  simp
@[simp] theorem promptHandover_spu (p : Prompt) (s : State) : (promptHandover p s).spu = s.spu := by
  unfold promptHandover
  simp
@[simp] theorem promptHandover_bem (p : Prompt) (s : State) : (promptHandover p s).bem = s.bem := by
  unfold promptHandover
  simp
@[simp] theorem promptHandover_ltu (p : Prompt) (s : State) : (promptHandover p s).ltu = s.ltu := by
  unfold promptHandover
  simp
@[simp] theorem promptHandover_csu (p : Prompt) (s : State) : (promptHandover p s).csu = s.csu := by
  unfold promptHandover
  simp
@[simp] theorem promptHandover_vdu (p : Prompt) (s : State) : (promptHandover p s).vdu = s.vdu := by
  unfold promptHandover
  simp
@[simp] theorem promptHandover_clock (p : Prompt) (s : State) : (promptHandover p s).clock = s.clock := by
  unfold promptHandover
  simp
@[simp] theorem promptHandover_choices (p : Prompt) (s : State) : (promptHandover p s).choices = s.choices := by
  unfold promptHandover
  simp
@[simp] theorem promptHandover_arrived (p : Prompt) (s : State) : (promptHandover p s).arrived = s.arrived := by
  unfold promptHandover
  simp
@[simp] theorem promptHandover_taken (p : Prompt) (s : State) : (promptHandover p s).taken = s.taken := by
  unfold promptHandover
  simp
@[simp] theorem promptHandover_pending (p : Prompt) (s : State) : (promptHandover p s).pending = s.pending := by
  unfold promptHandover
  simp

@[simp] theorem challengeSnapshot_resetHeld (s : State) : (challengeSnapshot s).resetHeld = s.resetHeld := by
  unfold challengeSnapshot
  try dsimp only
  (repeat' split) <;> simp
@[simp] theorem challengeSnapshot_rli (s : State) : (challengeSnapshot s).rli = s.rli := by
  unfold challengeSnapshot
  try dsimp only
  (repeat' split) <;> simp
@[simp] theorem challengeSnapshot_oi (s : State) : (challengeSnapshot s).oi = s.oi := by
  unfold challengeSnapshot
  try dsimp only
  (repeat' split) <;> simp
@[simp] theorem challengeSnapshot_clu (s : State) : (challengeSnapshot s).clu = s.clu := by
  unfold challengeSnapshot
  try dsimp only
  (repeat' split) <;> simp
@[simp] theorem challengeSnapshot_spu (s : State) : (challengeSnapshot s).spu = s.spu := by
  unfold challengeSnapshot
  try dsimp only
  (repeat' split) <;> simp
@[simp] theorem challengeSnapshot_bem (s : State) : (challengeSnapshot s).bem = s.bem := by
  unfold challengeSnapshot
  try dsimp only
  (repeat' split) <;> simp
@[simp] theorem challengeSnapshot_ltu (s : State) : (challengeSnapshot s).ltu = s.ltu := by
  unfold challengeSnapshot
  try dsimp only
  (repeat' split) <;> simp
@[simp] theorem challengeSnapshot_csu (s : State) : (challengeSnapshot s).csu = s.csu := by
  unfold challengeSnapshot
  try dsimp only
  (repeat' split) <;> simp
@[simp] theorem challengeSnapshot_vdu (s : State) : (challengeSnapshot s).vdu = s.vdu := by
  unfold challengeSnapshot
  try dsimp only
  (repeat' split) <;> simp
@[simp] theorem challengeSnapshot_opu (s : State) : (challengeSnapshot s).opu = s.opu := by
  unfold challengeSnapshot
  try dsimp only
  (repeat' split) <;> simp
@[simp] theorem challengeSnapshot_clock (s : State) : (challengeSnapshot s).clock = s.clock := by
  unfold challengeSnapshot
  try dsimp only
  (repeat' split) <;> simp
@[simp] theorem challengeSnapshot_choices (s : State) : (challengeSnapshot s).choices = s.choices := by
  unfold challengeSnapshot
  try dsimp only
  (repeat' split) <;> simp
@[simp] theorem challengeSnapshot_arrived (s : State) : (challengeSnapshot s).arrived = s.arrived := by
  unfold challengeSnapshot
  try dsimp only
  (repeat' split) <;> simp
@[simp] theorem challengeSnapshot_taken (s : State) : (challengeSnapshot s).taken = s.taken := by
  unfold challengeSnapshot
  try dsimp only
  (repeat' split) <;> simp
@[simp] theorem challengeSnapshot_pending (s : State) : (challengeSnapshot s).pending = s.pending := by
  unfold challengeSnapshot
  try dsimp only
  (repeat' split) <;> simp

@[simp] theorem challengeEntry_resetHeld (s : State) : (challengeEntry s).resetHeld = s.resetHeld := by
  unfold challengeEntry
  simp
@[simp] theorem challengeEntry_rli (s : State) : (challengeEntry s).rli = s.rli := by
  unfold challengeEntry
  simp
@[simp] theorem challengeEntry_oi (s : State) : (challengeEntry s).oi = s.oi := by
  unfold challengeEntry
  simp
@[simp] theorem challengeEntry_clu (s : State) : (challengeEntry s).clu = s.clu := by
  unfold challengeEntry
  simp
@[simp] theorem challengeEntry_spu (s : State) : (challengeEntry s).spu = s.spu := by
  unfold challengeEntry
  simp
@[simp] theorem challengeEntry_ltu (s : State) : (challengeEntry s).ltu = s.ltu := by
  unfold challengeEntry
  simp
@[simp] theorem challengeEntry_csu (s : State) : (challengeEntry s).csu = s.csu := by
  unfold challengeEntry
  simp
@[simp] theorem challengeEntry_vdu (s : State) : (challengeEntry s).vdu = s.vdu := by
  unfold challengeEntry
  simp
@[simp] theorem challengeEntry_clock (s : State) : (challengeEntry s).clock = s.clock := by
  unfold challengeEntry
  simp
@[simp] theorem challengeEntry_choices (s : State) : (challengeEntry s).choices = s.choices := by
  unfold challengeEntry
  simp
@[simp] theorem challengeEntry_arrived (s : State) : (challengeEntry s).arrived = s.arrived := by
  unfold challengeEntry
  simp
@[simp] theorem challengeEntry_taken (s : State) : (challengeEntry s).taken = s.taken := by
  unfold challengeEntry
  simp
@[simp] theorem challengeEntry_pending (s : State) : (challengeEntry s).pending = s.pending := by
  unfold challengeEntry
  simp

@[simp] theorem promptBegin_resetHeld (s : State) : (promptBegin s).resetHeld = s.resetHeld := by
  unfold promptBegin
  try dsimp only
  (repeat' split) <;> simp
@[simp] theorem promptBegin_rli (s : State) : (promptBegin s).rli = s.rli := by
  unfold promptBegin
  try dsimp only
  (repeat' split) <;> simp
@[simp] theorem promptBegin_oi (s : State) : (promptBegin s).oi = s.oi := by
  unfold promptBegin
  try dsimp only
  (repeat' split) <;> simp
@[simp] theorem promptBegin_clu (s : State) : (promptBegin s).clu = s.clu := by
  unfold promptBegin
  try dsimp only
  (repeat' split) <;> simp
@[simp] theorem promptBegin_spu (s : State) : (promptBegin s).spu = s.spu := by
  unfold promptBegin
  try dsimp only
  (repeat' split) <;> simp
@[simp] theorem promptBegin_ltu (s : State) : (promptBegin s).ltu = s.ltu := by
  unfold promptBegin
  try dsimp only
  (repeat' split) <;> simp
@[simp] theorem promptBegin_csu (s : State) : (promptBegin s).csu = s.csu := by
  unfold promptBegin
  try dsimp only
  (repeat' split) <;> simp
@[simp] theorem promptBegin_vdu (s : State) : (promptBegin s).vdu = s.vdu := by
  unfold promptBegin
  try dsimp only
  (repeat' split) <;> simp
@[simp] theorem promptBegin_clock (s : State) : (promptBegin s).clock = s.clock := by
  unfold promptBegin
  try dsimp only
  (repeat' split) <;> simp
@[simp] theorem promptBegin_choices (s : State) : (promptBegin s).choices = s.choices := by
  unfold promptBegin
  try dsimp only
  (repeat' split) <;> simp
@[simp] theorem promptBegin_arrived (s : State) : (promptBegin s).arrived = s.arrived := by
  unfold promptBegin
  try dsimp only
  (repeat' split) <;> simp
@[simp] theorem promptBegin_taken (s : State) : (promptBegin s).taken = s.taken := by
  unfold promptBegin
  try dsimp only
  (repeat' split) <;> simp
@[simp] theorem promptBegin_pending (s : State) : (promptBegin s).pending = s.pending := by
  unfold promptBegin
  try dsimp only
  (repeat' split) <;> simp

@[simp] theorem promptEnd_resetHeld (s : State) : (promptEnd s).resetHeld = s.resetHeld := by
  unfold promptEnd
  try dsimp only
  (repeat' split) <;> simp
@[simp] theorem promptEnd_rli (s : State) : (promptEnd s).rli = s.rli := by
  unfold promptEnd
  try dsimp only
  (repeat' split) <;> simp
@[simp] theorem promptEnd_oi (s : State) : (promptEnd s).oi = s.oi := by
  unfold promptEnd
  try dsimp only
  (repeat' split) <;> simp
@[simp] theorem promptEnd_clu (s : State) : (promptEnd s).clu = s.clu := by
  unfold promptEnd
  try dsimp only
  (repeat' split) <;> simp
@[simp] theorem promptEnd_ckr (s : State) : (promptEnd s).ckr = s.ckr := by
  unfold promptEnd
  try dsimp only
  (repeat' split) <;> simp
@[simp] theorem promptEnd_spu (s : State) : (promptEnd s).spu = s.spu := by
  unfold promptEnd
  try dsimp only
  (repeat' split) <;> simp
@[simp] theorem promptEnd_bem (s : State) : (promptEnd s).bem = s.bem := by
  unfold promptEnd
  try dsimp only
  (repeat' split) <;> simp
@[simp] theorem promptEnd_ltu (s : State) : (promptEnd s).ltu = s.ltu := by
  unfold promptEnd
  try dsimp only
  (repeat' split) <;> simp
@[simp] theorem promptEnd_csu (s : State) : (promptEnd s).csu = s.csu := by
  unfold promptEnd
  try dsimp only
  (repeat' split) <;> simp
@[simp] theorem promptEnd_vdu (s : State) : (promptEnd s).vdu = s.vdu := by
  unfold promptEnd
  try dsimp only
  (repeat' split) <;> simp
@[simp] theorem promptEnd_clock (s : State) : (promptEnd s).clock = s.clock := by
  unfold promptEnd
  try dsimp only
  (repeat' split) <;> simp
@[simp] theorem promptEnd_choices (s : State) : (promptEnd s).choices = s.choices := by
  unfold promptEnd
  try dsimp only
  (repeat' split) <;> simp
@[simp] theorem promptEnd_arrived (s : State) : (promptEnd s).arrived = s.arrived := by
  unfold promptEnd
  try dsimp only
  (repeat' split) <;> simp
@[simp] theorem promptEnd_taken (s : State) : (promptEnd s).taken = s.taken := by
  unfold promptEnd
  try dsimp only
  (repeat' split) <;> simp
@[simp] theorem promptEnd_pending (s : State) : (promptEnd s).pending = s.pending := by
  unfold promptEnd
  try dsimp only
  (repeat' split) <;> simp

@[simp] theorem correctAnswer_resetHeld (s : State) : ((correctAnswer s).1).resetHeld = s.resetHeld := by
  unfold correctAnswer
  try dsimp only
  (repeat' split) <;> simp
@[simp] theorem correctAnswer_rli (s : State) : ((correctAnswer s).1).rli = s.rli := by
  unfold correctAnswer
  try dsimp only
  (repeat' split) <;> simp
@[simp] theorem correctAnswer_oi (s : State) : ((correctAnswer s).1).oi = s.oi := by
  unfold correctAnswer
  try dsimp only
  (repeat' split) <;> simp
@[simp] theorem correctAnswer_clu (s : State) : ((correctAnswer s).1).clu = s.clu := by
  unfold correctAnswer
  try dsimp only
  (repeat' split) <;> simp
@[simp] theorem correctAnswer_spu (s : State) : ((correctAnswer s).1).spu = s.spu := by
  unfold correctAnswer
  try dsimp only
  (repeat' split) <;> simp
@[simp] theorem correctAnswer_ltu (s : State) : ((correctAnswer s).1).ltu = s.ltu := by
  unfold correctAnswer
  try dsimp only
  (repeat' split) <;> simp
@[simp] theorem correctAnswer_csu (s : State) : ((correctAnswer s).1).csu = s.csu := by
  unfold correctAnswer
  try dsimp only
  (repeat' split) <;> simp
@[simp] theorem correctAnswer_vdu (s : State) : ((correctAnswer s).1).vdu = s.vdu := by
  unfold correctAnswer
  try dsimp only
  (repeat' split) <;> simp
@[simp] theorem correctAnswer_clock (s : State) : ((correctAnswer s).1).clock = s.clock := by
  unfold correctAnswer
  try dsimp only
  (repeat' split) <;> simp
@[simp] theorem correctAnswer_choices (s : State) : ((correctAnswer s).1).choices = s.choices := by
  unfold correctAnswer
  try dsimp only
  (repeat' split) <;> simp
@[simp] theorem correctAnswer_arrived (s : State) : ((correctAnswer s).1).arrived = s.arrived := by
  unfold correctAnswer
  try dsimp only
  (repeat' split) <;> simp
@[simp] theorem correctAnswer_taken (s : State) : ((correctAnswer s).1).taken = s.taken := by
  unfold correctAnswer
  try dsimp only
  (repeat' split) <;> simp
@[simp] theorem correctAnswer_pending (s : State) : ((correctAnswer s).1).pending = s.pending := by
  unfold correctAnswer
  try dsimp only
  (repeat' split) <;> simp

@[simp] theorem failedAttempt_resetHeld (s : State) : ((failedAttempt s).1).resetHeld = s.resetHeld := by
  unfold failedAttempt
  try dsimp only
  (repeat' split) <;> simp
@[simp] theorem failedAttempt_rli (s : State) : ((failedAttempt s).1).rli = s.rli := by
  unfold failedAttempt
  try dsimp only
  (repeat' split) <;> simp
@[simp] theorem failedAttempt_oi (s : State) : ((failedAttempt s).1).oi = s.oi := by
  unfold failedAttempt
  try dsimp only
  (repeat' split) <;> simp
@[simp] theorem failedAttempt_clu (s : State) : ((failedAttempt s).1).clu = s.clu := by
  unfold failedAttempt
  try dsimp only
  (repeat' split) <;> simp
@[simp] theorem failedAttempt_ckr (s : State) : ((failedAttempt s).1).ckr = s.ckr := by
  unfold failedAttempt
  try dsimp only
  (repeat' split) <;> simp
@[simp] theorem failedAttempt_spu (s : State) : ((failedAttempt s).1).spu = s.spu := by
  unfold failedAttempt
  try dsimp only
  (repeat' split) <;> simp
@[simp] theorem failedAttempt_bem (s : State) : ((failedAttempt s).1).bem = s.bem := by
  unfold failedAttempt
  try dsimp only
  (repeat' split) <;> simp
@[simp] theorem failedAttempt_ltu (s : State) : ((failedAttempt s).1).ltu = s.ltu := by
  unfold failedAttempt
  try dsimp only
  (repeat' split) <;> simp
@[simp] theorem failedAttempt_csu (s : State) : ((failedAttempt s).1).csu = s.csu := by
  unfold failedAttempt
  try dsimp only
  (repeat' split) <;> simp
@[simp] theorem failedAttempt_vdu (s : State) : ((failedAttempt s).1).vdu = s.vdu := by
  unfold failedAttempt
  try dsimp only
  (repeat' split) <;> simp
@[simp] theorem failedAttempt_clock (s : State) : ((failedAttempt s).1).clock = s.clock := by
  unfold failedAttempt
  try dsimp only
  (repeat' split) <;> simp
@[simp] theorem failedAttempt_choices (s : State) : ((failedAttempt s).1).choices = s.choices := by
  unfold failedAttempt
  try dsimp only
  (repeat' split) <;> simp
@[simp] theorem failedAttempt_arrived (s : State) : ((failedAttempt s).1).arrived = s.arrived := by
  unfold failedAttempt
  try dsimp only
  (repeat' split) <;> simp
@[simp] theorem failedAttempt_taken (s : State) : ((failedAttempt s).1).taken = s.taken := by
  unfold failedAttempt
  try dsimp only
  (repeat' split) <;> simp
@[simp] theorem failedAttempt_pending (s : State) : ((failedAttempt s).1).pending = s.pending := by
  unfold failedAttempt
  try dsimp only
  (repeat' split) <;> simp

@[simp] theorem digitKey_resetHeld (d : Nat) (s : State) : ((digitKey d s).1).resetHeld = s.resetHeld := by
  unfold digitKey
  try dsimp only
  (repeat' split) <;> simp
@[simp] theorem digitKey_rli (d : Nat) (s : State) : ((digitKey d s).1).rli = s.rli := by
  unfold digitKey
  try dsimp only
  (repeat' split) <;> simp
@[simp] theorem digitKey_oi (d : Nat) (s : State) : ((digitKey d s).1).oi = s.oi := by
  unfold digitKey
  try dsimp only
  (repeat' split) <;> simp
@[simp] theorem digitKey_clu (d : Nat) (s : State) : ((digitKey d s).1).clu = s.clu := by
  unfold digitKey
  try dsimp only
  (repeat' split) <;> simp
@[simp] theorem digitKey_spu (d : Nat) (s : State) : ((digitKey d s).1).spu = s.spu := by
  unfold digitKey
  try dsimp only
  (repeat' split) <;> simp
@[simp] theorem digitKey_ltu (d : Nat) (s : State) : ((digitKey d s).1).ltu = s.ltu := by
  unfold digitKey
  try dsimp only
  (repeat' split) <;> simp
@[simp] theorem digitKey_csu (d : Nat) (s : State) : ((digitKey d s).1).csu = s.csu := by
  unfold digitKey
  try dsimp only
  (repeat' split) <;> simp
@[simp] theorem digitKey_vdu (d : Nat) (s : State) : ((digitKey d s).1).vdu = s.vdu := by
  unfold digitKey
  try dsimp only
  (repeat' split) <;> simp
@[simp] theorem digitKey_clock (d : Nat) (s : State) : ((digitKey d s).1).clock = s.clock := by
  unfold digitKey
  try dsimp only
  (repeat' split) <;> simp
@[simp] theorem digitKey_choices (d : Nat) (s : State) : ((digitKey d s).1).choices = s.choices := by
  unfold digitKey
  try dsimp only
  (repeat' split) <;> simp
@[simp] theorem digitKey_arrived (d : Nat) (s : State) : ((digitKey d s).1).arrived = s.arrived := by
  unfold digitKey
  try dsimp only
  (repeat' split) <;> simp
@[simp] theorem digitKey_taken (d : Nat) (s : State) : ((digitKey d s).1).taken = s.taken := by
  unfold digitKey
  try dsimp only
  (repeat' split) <;> simp
@[simp] theorem digitKey_pending (d : Nat) (s : State) : ((digitKey d s).1).pending = s.pending := by
  unfold digitKey
  try dsimp only
  (repeat' split) <;> simp

@[simp] theorem clearKey_resetHeld (s : State) : (clearKey s).resetHeld = s.resetHeld := by
  unfold clearKey
  try dsimp only
  (repeat' split) <;> simp
@[simp] theorem clearKey_rli (s : State) : (clearKey s).rli = s.rli := by
  unfold clearKey
  try dsimp only
  (repeat' split) <;> simp
@[simp] theorem clearKey_oi (s : State) : (clearKey s).oi = s.oi := by
  unfold clearKey
  try dsimp only
  (repeat' split) <;> simp
@[simp] theorem clearKey_clu (s : State) : (clearKey s).clu = s.clu := by
  unfold clearKey
  try dsimp only
  (repeat' split) <;> simp
@[simp] theorem clearKey_ckr (s : State) : (clearKey s).ckr = s.ckr := by
  unfold clearKey
  try dsimp only
  (repeat' split) <;> simp
@[simp] theorem clearKey_spu (s : State) : (clearKey s).spu = s.spu := by
  unfold clearKey
  try dsimp only
  (repeat' split) <;> simp
@[simp] theorem clearKey_bem (s : State) : (clearKey s).bem = s.bem := by
  unfold clearKey
  try dsimp only
  (repeat' split) <;> simp
@[simp] theorem clearKey_ltu (s : State) : (clearKey s).ltu = s.ltu := by
  unfold clearKey
  try dsimp only
  (repeat' split) <;> simp
@[simp] theorem clearKey_csu (s : State) : (clearKey s).csu = s.csu := by
  unfold clearKey
  try dsimp only
  (repeat' split) <;> simp
@[simp] theorem clearKey_vdu (s : State) : (clearKey s).vdu = s.vdu := by
  unfold clearKey
  try dsimp only
  (repeat' split) <;> simp
@[simp] theorem clearKey_clock (s : State) : (clearKey s).clock = s.clock := by
  unfold clearKey
  try dsimp only
  (repeat' split) <;> simp
@[simp] theorem clearKey_choices (s : State) : (clearKey s).choices = s.choices := by
  unfold clearKey
  try dsimp only
  (repeat' split) <;> simp
@[simp] theorem clearKey_arrived (s : State) : (clearKey s).arrived = s.arrived := by
  unfold clearKey
  try dsimp only
  (repeat' split) <;> simp
@[simp] theorem clearKey_taken (s : State) : (clearKey s).taken = s.taken := by
  unfold clearKey
  try dsimp only
  (repeat' split) <;> simp
@[simp] theorem clearKey_pending (s : State) : (clearKey s).pending = s.pending := by
  unfold clearKey
  try dsimp only
  (repeat' split) <;> simp

@[simp] theorem passKey_resetHeld (s : State) : ((passKey s).1).resetHeld = s.resetHeld := by
  unfold passKey
  try dsimp only
  (repeat' split) <;> simp
@[simp] theorem passKey_rli (s : State) : ((passKey s).1).rli = s.rli := by
  unfold passKey
  try dsimp only
  (repeat' split) <;> simp
@[simp] theorem passKey_oi (s : State) : ((passKey s).1).oi = s.oi := by
  unfold passKey
  try dsimp only
  (repeat' split) <;> simp
@[simp] theorem passKey_clu (s : State) : ((passKey s).1).clu = s.clu := by
  unfold passKey
  try dsimp only
  (repeat' split) <;> simp
@[simp] theorem passKey_ckr (s : State) : ((passKey s).1).ckr = s.ckr := by
  unfold passKey
  try dsimp only
  (repeat' split) <;> simp
@[simp] theorem passKey_spu (s : State) : ((passKey s).1).spu = s.spu := by
  unfold passKey
  try dsimp only
  (repeat' split) <;> simp
@[simp] theorem passKey_bem (s : State) : ((passKey s).1).bem = s.bem := by
  unfold passKey
  try dsimp only
  (repeat' split) <;> simp
@[simp] theorem passKey_ltu (s : State) : ((passKey s).1).ltu = s.ltu := by
  unfold passKey
  try dsimp only
  (repeat' split) <;> simp
@[simp] theorem passKey_csu (s : State) : ((passKey s).1).csu = s.csu := by
  unfold passKey
  try dsimp only
  (repeat' split) <;> simp
@[simp] theorem passKey_vdu (s : State) : ((passKey s).1).vdu = s.vdu := by
  unfold passKey
  try dsimp only
  (repeat' split) <;> simp
@[simp] theorem passKey_clock (s : State) : ((passKey s).1).clock = s.clock := by
  unfold passKey
  try dsimp only
  (repeat' split) <;> simp
@[simp] theorem passKey_choices (s : State) : ((passKey s).1).choices = s.choices := by
  unfold passKey
  try dsimp only
  (repeat' split) <;> simp
@[simp] theorem passKey_arrived (s : State) : ((passKey s).1).arrived = s.arrived := by
  unfold passKey
  try dsimp only
  (repeat' split) <;> simp
@[simp] theorem passKey_taken (s : State) : ((passKey s).1).taken = s.taken := by
  unfold passKey
  try dsimp only
  (repeat' split) <;> simp
@[simp] theorem passKey_pending (s : State) : ((passKey s).1).pending = s.pending := by
  unfold passKey
  try dsimp only
  (repeat' split) <;> simp

@[simp] theorem failKey_resetHeld (s : State) : ((failKey s).1).resetHeld = s.resetHeld := by
  unfold failKey
  try dsimp only
  (repeat' split) <;> simp
@[simp] theorem failKey_rli (s : State) : ((failKey s).1).rli = s.rli := by
  unfold failKey
  try dsimp only
  (repeat' split) <;> simp
@[simp] theorem failKey_oi (s : State) : ((failKey s).1).oi = s.oi := by
  unfold failKey
  try dsimp only
  (repeat' split) <;> simp
@[simp] theorem failKey_clu (s : State) : ((failKey s).1).clu = s.clu := by
  unfold failKey
  try dsimp only
  (repeat' split) <;> simp
@[simp] theorem failKey_ckr (s : State) : ((failKey s).1).ckr = s.ckr := by
  unfold failKey
  try dsimp only
  (repeat' split) <;> simp
@[simp] theorem failKey_spu (s : State) : ((failKey s).1).spu = s.spu := by
  unfold failKey
  try dsimp only
  (repeat' split) <;> simp
@[simp] theorem failKey_bem (s : State) : ((failKey s).1).bem = s.bem := by
  unfold failKey
  try dsimp only
  (repeat' split) <;> simp
@[simp] theorem failKey_ltu (s : State) : ((failKey s).1).ltu = s.ltu := by
  unfold failKey
  try dsimp only
  (repeat' split) <;> simp
@[simp] theorem failKey_csu (s : State) : ((failKey s).1).csu = s.csu := by
  unfold failKey
  try dsimp only
  (repeat' split) <;> simp
@[simp] theorem failKey_vdu (s : State) : ((failKey s).1).vdu = s.vdu := by
  unfold failKey
  try dsimp only
  (repeat' split) <;> simp
@[simp] theorem failKey_clock (s : State) : ((failKey s).1).clock = s.clock := by
  unfold failKey
  try dsimp only
  (repeat' split) <;> simp
@[simp] theorem failKey_choices (s : State) : ((failKey s).1).choices = s.choices := by
  unfold failKey
  try dsimp only
  (repeat' split) <;> simp
@[simp] theorem failKey_arrived (s : State) : ((failKey s).1).arrived = s.arrived := by
  unfold failKey
  try dsimp only
  (repeat' split) <;> simp
@[simp] theorem failKey_taken (s : State) : ((failKey s).1).taken = s.taken := by
  unfold failKey
  try dsimp only
  (repeat' split) <;> simp
@[simp] theorem failKey_pending (s : State) : ((failKey s).1).pending = s.pending := by
  unfold failKey
  try dsimp only
  (repeat' split) <;> simp

@[simp] theorem promptTimeout_resetHeld (s : State) : ((promptTimeout s).1).resetHeld = s.resetHeld := by
  unfold promptTimeout
  try dsimp only
  (repeat' split) <;> simp
@[simp] theorem promptTimeout_rli (s : State) : ((promptTimeout s).1).rli = s.rli := by
  unfold promptTimeout
  try dsimp only
  (repeat' split) <;> simp
@[simp] theorem promptTimeout_oi (s : State) : ((promptTimeout s).1).oi = s.oi := by
  unfold promptTimeout
  try dsimp only
  (repeat' split) <;> simp
@[simp] theorem promptTimeout_clu (s : State) : ((promptTimeout s).1).clu = s.clu := by
  unfold promptTimeout
  try dsimp only
  (repeat' split) <;> simp
@[simp] theorem promptTimeout_ckr (s : State) : ((promptTimeout s).1).ckr = s.ckr := by
  unfold promptTimeout
  try dsimp only
  (repeat' split) <;> simp
@[simp] theorem promptTimeout_spu (s : State) : ((promptTimeout s).1).spu = s.spu := by
  unfold promptTimeout
  try dsimp only
  (repeat' split) <;> simp
@[simp] theorem promptTimeout_bem (s : State) : ((promptTimeout s).1).bem = s.bem := by
  unfold promptTimeout
  try dsimp only
  (repeat' split) <;> simp
@[simp] theorem promptTimeout_ltu (s : State) : ((promptTimeout s).1).ltu = s.ltu := by
  unfold promptTimeout
  try dsimp only
  (repeat' split) <;> simp
@[simp] theorem promptTimeout_csu (s : State) : ((promptTimeout s).1).csu = s.csu := by
  unfold promptTimeout
  try dsimp only
  (repeat' split) <;> simp
@[simp] theorem promptTimeout_vdu (s : State) : ((promptTimeout s).1).vdu = s.vdu := by
  unfold promptTimeout
  try dsimp only
  (repeat' split) <;> simp
@[simp] theorem promptTimeout_clock (s : State) : ((promptTimeout s).1).clock = s.clock := by
  unfold promptTimeout
  try dsimp only
  (repeat' split) <;> simp
@[simp] theorem promptTimeout_choices (s : State) : ((promptTimeout s).1).choices = s.choices := by
  unfold promptTimeout
  try dsimp only
  (repeat' split) <;> simp
@[simp] theorem promptTimeout_arrived (s : State) : ((promptTimeout s).1).arrived = s.arrived := by
  unfold promptTimeout
  try dsimp only
  (repeat' split) <;> simp
@[simp] theorem promptTimeout_taken (s : State) : ((promptTimeout s).1).taken = s.taken := by
  unfold promptTimeout
  try dsimp only
  (repeat' split) <;> simp
@[simp] theorem promptTimeout_pending (s : State) : ((promptTimeout s).1).pending = s.pending := by
  unfold promptTimeout
  try dsimp only
  (repeat' split) <;> simp

end Sys2Proof.Machine
end

