-- ==== Sys2Proof/Laws/Claims.lean ====
section
/-! SUPPORT. The blocks that each operation of the Claim Unit and each hand-in leaves as they are. -/

namespace Sys2Proof.Machine

@[simp] theorem handIn_resetHeld (s : State) : (handIn s).resetHeld = s.resetHeld := by
  unfold handIn
  simp
@[simp] theorem handIn_oi (s : State) : (handIn s).oi = s.oi := by
  unfold handIn
  simp
@[simp] theorem handIn_clu (s : State) : (handIn s).clu = s.clu := by
  unfold handIn
  simp
@[simp] theorem handIn_ckr (s : State) : (handIn s).ckr = s.ckr := by
  unfold handIn
  simp
@[simp] theorem handIn_spu (s : State) : (handIn s).spu = s.spu := by
  unfold handIn
  simp
@[simp] theorem handIn_bem (s : State) : (handIn s).bem = s.bem := by
  unfold handIn
  simp
@[simp] theorem handIn_ltu (s : State) : (handIn s).ltu = s.ltu := by
  unfold handIn
  simp
@[simp] theorem handIn_csu (s : State) : (handIn s).csu = s.csu := by
  unfold handIn
  simp
@[simp] theorem handIn_vdu (s : State) : (handIn s).vdu = s.vdu := by
  unfold handIn
  simp
@[simp] theorem handIn_opu (s : State) : (handIn s).opu = s.opu := by
  unfold handIn
  simp
@[simp] theorem handIn_clock (s : State) : (handIn s).clock = s.clock := by
  unfold handIn
  simp
@[simp] theorem handIn_choices (s : State) : (handIn s).choices = s.choices := by
  unfold handIn
  simp
@[simp] theorem handIn_arrived (s : State) : (handIn s).arrived = s.arrived := by
  unfold handIn
  simp
@[simp] theorem handIn_taken (s : State) : (handIn s).taken = s.taken := by
  unfold handIn
  simp
@[simp] theorem handIn_pending (s : State) : (handIn s).pending = s.pending := by
  unfold handIn
  simp

@[simp] theorem handInReply_resetHeld (x : Reply) (s : State) : (handInReply x s).resetHeld = s.resetHeld := by
  unfold handInReply
  simp
@[simp] theorem handInReply_oi (x : Reply) (s : State) : (handInReply x s).oi = s.oi := by
  unfold handInReply
  simp
@[simp] theorem handInReply_clu (x : Reply) (s : State) : (handInReply x s).clu = s.clu := by
  unfold handInReply
  simp
@[simp] theorem handInReply_ckr (x : Reply) (s : State) : (handInReply x s).ckr = s.ckr := by
  unfold handInReply
  simp
@[simp] theorem handInReply_spu (x : Reply) (s : State) : (handInReply x s).spu = s.spu := by
  unfold handInReply
  simp
@[simp] theorem handInReply_bem (x : Reply) (s : State) : (handInReply x s).bem = s.bem := by
  unfold handInReply
  simp
@[simp] theorem handInReply_ltu (x : Reply) (s : State) : (handInReply x s).ltu = s.ltu := by
  unfold handInReply
  simp
@[simp] theorem handInReply_csu (x : Reply) (s : State) : (handInReply x s).csu = s.csu := by
  unfold handInReply
  simp
@[simp] theorem handInReply_vdu (x : Reply) (s : State) : (handInReply x s).vdu = s.vdu := by
  unfold handInReply
  simp
@[simp] theorem handInReply_opu (x : Reply) (s : State) : (handInReply x s).opu = s.opu := by
  unfold handInReply
  simp
@[simp] theorem handInReply_clock (x : Reply) (s : State) : (handInReply x s).clock = s.clock := by
  unfold handInReply
  simp
@[simp] theorem handInReply_choices (x : Reply) (s : State) : (handInReply x s).choices = s.choices := by
  unfold handInReply
  simp
@[simp] theorem handInReply_arrived (x : Reply) (s : State) : (handInReply x s).arrived = s.arrived := by
  unfold handInReply
  simp
@[simp] theorem handInReply_taken (x : Reply) (s : State) : (handInReply x s).taken = s.taken := by
  unfold handInReply
  simp
@[simp] theorem handInReply_pending (x : Reply) (s : State) : (handInReply x s).pending = s.pending := by
  unfold handInReply
  simp

@[simp] theorem givePlace_resetHeld (s : State) : (givePlace s).resetHeld = s.resetHeld := by
  unfold givePlace
  try dsimp only
  (repeat' split) <;> simp
@[simp] theorem givePlace_rli (s : State) : (givePlace s).rli = s.rli := by
  unfold givePlace
  try dsimp only
  (repeat' split) <;> simp
@[simp] theorem givePlace_oi (s : State) : (givePlace s).oi = s.oi := by
  unfold givePlace
  try dsimp only
  (repeat' split) <;> simp
@[simp] theorem givePlace_clu (s : State) : (givePlace s).clu = s.clu := by
  unfold givePlace
  try dsimp only
  (repeat' split) <;> simp
@[simp] theorem givePlace_ckr (s : State) : (givePlace s).ckr = s.ckr := by
  unfold givePlace
  try dsimp only
  (repeat' split) <;> simp
@[simp] theorem givePlace_spu (s : State) : (givePlace s).spu = s.spu := by
  unfold givePlace
  try dsimp only
  (repeat' split) <;> simp
@[simp] theorem givePlace_bem (s : State) : (givePlace s).bem = s.bem := by
  unfold givePlace
  try dsimp only
  (repeat' split) <;> simp
@[simp] theorem givePlace_ltu (s : State) : (givePlace s).ltu = s.ltu := by
  unfold givePlace
  try dsimp only
  (repeat' split) <;> simp
@[simp] theorem givePlace_csu (s : State) : (givePlace s).csu = s.csu := by
  unfold givePlace
  try dsimp only
  (repeat' split) <;> simp
@[simp] theorem givePlace_vdu (s : State) : (givePlace s).vdu = s.vdu := by
  unfold givePlace
  try dsimp only
  (repeat' split) <;> simp
@[simp] theorem givePlace_clock (s : State) : (givePlace s).clock = s.clock := by
  unfold givePlace
  try dsimp only
  (repeat' split) <;> simp
@[simp] theorem givePlace_choices (s : State) : (givePlace s).choices = s.choices := by
  unfold givePlace
  try dsimp only
  (repeat' split) <;> simp
@[simp] theorem givePlace_arrived (s : State) : (givePlace s).arrived = s.arrived := by
  unfold givePlace
  try dsimp only
  (repeat' split) <;> simp
@[simp] theorem givePlace_taken (s : State) : (givePlace s).taken = s.taken := by
  unfold givePlace
  try dsimp only
  (repeat' split) <;> simp
@[simp] theorem givePlace_pending (s : State) : (givePlace s).pending = s.pending := by
  unfold givePlace
  try dsimp only
  (repeat' split) <;> simp

@[simp] theorem takeClaim_resetHeld (q : ClaimRequest) (s : State) : (takeClaim q s).resetHeld = s.resetHeld := by
  unfold takeClaim
  simp
@[simp] theorem takeClaim_oi (q : ClaimRequest) (s : State) : (takeClaim q s).oi = s.oi := by
  unfold takeClaim
  simp
@[simp] theorem takeClaim_ckr (q : ClaimRequest) (s : State) : (takeClaim q s).ckr = s.ckr := by
  unfold takeClaim
  simp
@[simp] theorem takeClaim_spu (q : ClaimRequest) (s : State) : (takeClaim q s).spu = s.spu := by
  unfold takeClaim
  simp
@[simp] theorem takeClaim_bem (q : ClaimRequest) (s : State) : (takeClaim q s).bem = s.bem := by
  unfold takeClaim
  simp
@[simp] theorem takeClaim_ltu (q : ClaimRequest) (s : State) : (takeClaim q s).ltu = s.ltu := by
  unfold takeClaim
  simp
@[simp] theorem takeClaim_csu (q : ClaimRequest) (s : State) : (takeClaim q s).csu = s.csu := by
  unfold takeClaim
  simp
@[simp] theorem takeClaim_vdu (q : ClaimRequest) (s : State) : (takeClaim q s).vdu = s.vdu := by
  unfold takeClaim
  simp
@[simp] theorem takeClaim_clock (q : ClaimRequest) (s : State) : (takeClaim q s).clock = s.clock := by
  unfold takeClaim
  simp
@[simp] theorem takeClaim_choices (q : ClaimRequest) (s : State) : (takeClaim q s).choices = s.choices := by
  unfold takeClaim
  simp
@[simp] theorem takeClaim_arrived (q : ClaimRequest) (s : State) : (takeClaim q s).arrived = s.arrived := by
  unfold takeClaim
  simp
@[simp] theorem takeClaim_taken (q : ClaimRequest) (s : State) : (takeClaim q s).taken = s.taken := by
  unfold takeClaim
  simp
@[simp] theorem takeClaim_pending (q : ClaimRequest) (s : State) : (takeClaim q s).pending = s.pending := by
  unfold takeClaim
  simp

@[simp] theorem deferRequest_resetHeld (q : ClaimRequest) (s : State) : (deferRequest q s).resetHeld = s.resetHeld := by
  unfold deferRequest takeFirst
  dsimp only
  (repeat' split) <;> simp
@[simp] theorem deferRequest_rli (q : ClaimRequest) (s : State) : (deferRequest q s).rli = s.rli := by
  unfold deferRequest takeFirst
  dsimp only
  (repeat' split) <;> simp
@[simp] theorem deferRequest_oi (q : ClaimRequest) (s : State) : (deferRequest q s).oi = s.oi := by
  unfold deferRequest takeFirst
  dsimp only
  (repeat' split) <;> simp
@[simp] theorem deferRequest_ckr (q : ClaimRequest) (s : State) : (deferRequest q s).ckr = s.ckr := by
  unfold deferRequest takeFirst
  dsimp only
  (repeat' split) <;> simp
@[simp] theorem deferRequest_spu (q : ClaimRequest) (s : State) : (deferRequest q s).spu = s.spu := by
  unfold deferRequest takeFirst
  dsimp only
  (repeat' split) <;> simp
@[simp] theorem deferRequest_bem (q : ClaimRequest) (s : State) : (deferRequest q s).bem = s.bem := by
  unfold deferRequest takeFirst
  dsimp only
  (repeat' split) <;> simp
@[simp] theorem deferRequest_ltu (q : ClaimRequest) (s : State) : (deferRequest q s).ltu = s.ltu := by
  unfold deferRequest takeFirst
  dsimp only
  (repeat' split) <;> simp
@[simp] theorem deferRequest_csu (q : ClaimRequest) (s : State) : (deferRequest q s).csu = s.csu := by
  unfold deferRequest takeFirst
  dsimp only
  (repeat' split) <;> simp
@[simp] theorem deferRequest_vdu (q : ClaimRequest) (s : State) : (deferRequest q s).vdu = s.vdu := by
  unfold deferRequest takeFirst
  dsimp only
  (repeat' split) <;> simp
@[simp] theorem deferRequest_opu (q : ClaimRequest) (s : State) : (deferRequest q s).opu = s.opu := by
  unfold deferRequest takeFirst
  dsimp only
  (repeat' split) <;> simp
@[simp] theorem deferRequest_clock (q : ClaimRequest) (s : State) : (deferRequest q s).clock = s.clock := by
  unfold deferRequest takeFirst
  dsimp only
  (repeat' split) <;> simp
@[simp] theorem deferRequest_arrived (q : ClaimRequest) (s : State) : (deferRequest q s).arrived = s.arrived := by
  unfold deferRequest takeFirst
  dsimp only
  (repeat' split) <;> simp
@[simp] theorem deferRequest_taken (q : ClaimRequest) (s : State) : (deferRequest q s).taken = s.taken := by
  unfold deferRequest takeFirst
  dsimp only
  (repeat' split) <;> simp
@[simp] theorem deferRequest_pending (q : ClaimRequest) (s : State) : (deferRequest q s).pending = s.pending := by
  unfold deferRequest takeFirst
  dsimp only
  (repeat' split) <;> simp

@[simp] theorem requestClaim_resetHeld (q : ClaimRequest) (s : State) : (requestClaim q s).resetHeld = s.resetHeld := by
  unfold requestClaim
  try dsimp only
  (repeat' split) <;> simp
@[simp] theorem requestClaim_oi (q : ClaimRequest) (s : State) : (requestClaim q s).oi = s.oi := by
  unfold requestClaim
  try dsimp only
  (repeat' split) <;> simp
@[simp] theorem requestClaim_ckr (q : ClaimRequest) (s : State) : (requestClaim q s).ckr = s.ckr := by
  unfold requestClaim
  try dsimp only
  (repeat' split) <;> simp
@[simp] theorem requestClaim_spu (q : ClaimRequest) (s : State) : (requestClaim q s).spu = s.spu := by
  unfold requestClaim
  try dsimp only
  (repeat' split) <;> simp
@[simp] theorem requestClaim_bem (q : ClaimRequest) (s : State) : (requestClaim q s).bem = s.bem := by
  unfold requestClaim
  try dsimp only
  (repeat' split) <;> simp
@[simp] theorem requestClaim_ltu (q : ClaimRequest) (s : State) : (requestClaim q s).ltu = s.ltu := by
  unfold requestClaim
  try dsimp only
  (repeat' split) <;> simp
@[simp] theorem requestClaim_csu (q : ClaimRequest) (s : State) : (requestClaim q s).csu = s.csu := by
  unfold requestClaim
  try dsimp only
  (repeat' split) <;> simp
@[simp] theorem requestClaim_vdu (q : ClaimRequest) (s : State) : (requestClaim q s).vdu = s.vdu := by
  unfold requestClaim
  try dsimp only
  (repeat' split) <;> simp
@[simp] theorem requestClaim_clock (q : ClaimRequest) (s : State) : (requestClaim q s).clock = s.clock := by
  unfold requestClaim
  try dsimp only
  (repeat' split) <;> simp
@[simp] theorem requestClaim_arrived (q : ClaimRequest) (s : State) : (requestClaim q s).arrived = s.arrived := by
  unfold requestClaim
  try dsimp only
  (repeat' split) <;> simp
@[simp] theorem requestClaim_taken (q : ClaimRequest) (s : State) : (requestClaim q s).taken = s.taken := by
  unfold requestClaim
  try dsimp only
  (repeat' split) <;> simp
@[simp] theorem requestClaim_pending (q : ClaimRequest) (s : State) : (requestClaim q s).pending = s.pending := by
  unfold requestClaim
  try dsimp only
  (repeat' split) <;> simp

@[simp] theorem takeDeferred_resetHeld (s : State) : (takeDeferred s).resetHeld = s.resetHeld := by
  unfold takeDeferred
  try dsimp only
  (repeat' split) <;> simp
@[simp] theorem takeDeferred_oi (s : State) : (takeDeferred s).oi = s.oi := by
  unfold takeDeferred
  try dsimp only
  (repeat' split) <;> simp
@[simp] theorem takeDeferred_ckr (s : State) : (takeDeferred s).ckr = s.ckr := by
  unfold takeDeferred
  try dsimp only
  (repeat' split) <;> simp
@[simp] theorem takeDeferred_spu (s : State) : (takeDeferred s).spu = s.spu := by
  unfold takeDeferred
  try dsimp only
  (repeat' split) <;> simp
@[simp] theorem takeDeferred_bem (s : State) : (takeDeferred s).bem = s.bem := by
  unfold takeDeferred
  try dsimp only
  (repeat' split) <;> simp
@[simp] theorem takeDeferred_ltu (s : State) : (takeDeferred s).ltu = s.ltu := by
  unfold takeDeferred
  try dsimp only
  (repeat' split) <;> simp
@[simp] theorem takeDeferred_csu (s : State) : (takeDeferred s).csu = s.csu := by
  unfold takeDeferred
  try dsimp only
  (repeat' split) <;> simp
@[simp] theorem takeDeferred_vdu (s : State) : (takeDeferred s).vdu = s.vdu := by
  unfold takeDeferred
  try dsimp only
  (repeat' split) <;> simp
@[simp] theorem takeDeferred_clock (s : State) : (takeDeferred s).clock = s.clock := by
  unfold takeDeferred
  try dsimp only
  (repeat' split) <;> simp
@[simp] theorem takeDeferred_choices (s : State) : (takeDeferred s).choices = s.choices := by
  unfold takeDeferred
  try dsimp only
  (repeat' split) <;> simp
@[simp] theorem takeDeferred_arrived (s : State) : (takeDeferred s).arrived = s.arrived := by
  unfold takeDeferred
  try dsimp only
  (repeat' split) <;> simp
@[simp] theorem takeDeferred_taken (s : State) : (takeDeferred s).taken = s.taken := by
  unfold takeDeferred
  try dsimp only
  (repeat' split) <;> simp
@[simp] theorem takeDeferred_pending (s : State) : (takeDeferred s).pending = s.pending := by
  unfold takeDeferred
  try dsimp only
  (repeat' split) <;> simp

@[simp] theorem removeClaim_resetHeld (s : State) : (removeClaim s).resetHeld = s.resetHeld := by
  unfold removeClaim
  simp
@[simp] theorem removeClaim_oi (s : State) : (removeClaim s).oi = s.oi := by
  unfold removeClaim
  simp
@[simp] theorem removeClaim_ckr (s : State) : (removeClaim s).ckr = s.ckr := by
  unfold removeClaim
  simp
@[simp] theorem removeClaim_spu (s : State) : (removeClaim s).spu = s.spu := by
  unfold removeClaim
  simp
@[simp] theorem removeClaim_bem (s : State) : (removeClaim s).bem = s.bem := by
  unfold removeClaim
  simp
@[simp] theorem removeClaim_ltu (s : State) : (removeClaim s).ltu = s.ltu := by
  unfold removeClaim
  simp
@[simp] theorem removeClaim_csu (s : State) : (removeClaim s).csu = s.csu := by
  unfold removeClaim
  simp
@[simp] theorem removeClaim_vdu (s : State) : (removeClaim s).vdu = s.vdu := by
  unfold removeClaim
  simp
@[simp] theorem removeClaim_opu (s : State) : (removeClaim s).opu = s.opu := by
  unfold removeClaim
  simp
@[simp] theorem removeClaim_clock (s : State) : (removeClaim s).clock = s.clock := by
  unfold removeClaim
  simp
@[simp] theorem removeClaim_choices (s : State) : (removeClaim s).choices = s.choices := by
  unfold removeClaim
  simp
@[simp] theorem removeClaim_arrived (s : State) : (removeClaim s).arrived = s.arrived := by
  unfold removeClaim
  simp
@[simp] theorem removeClaim_taken (s : State) : (removeClaim s).taken = s.taken := by
  unfold removeClaim
  simp
@[simp] theorem removeClaim_pending (s : State) : (removeClaim s).pending = s.pending := by
  unfold removeClaim
  simp

@[simp] theorem dropDeferred_resetHeld (w : Requester) (r : Resource) (s : State) : (dropDeferred w r s).resetHeld = s.resetHeld := by
  unfold dropDeferred
  try dsimp only
  (repeat' split) <;> simp
@[simp] theorem dropDeferred_rli (w : Requester) (r : Resource) (s : State) : (dropDeferred w r s).rli = s.rli := by
  unfold dropDeferred
  try dsimp only
  (repeat' split) <;> simp
@[simp] theorem dropDeferred_oi (w : Requester) (r : Resource) (s : State) : (dropDeferred w r s).oi = s.oi := by
  unfold dropDeferred
  try dsimp only
  (repeat' split) <;> simp
@[simp] theorem dropDeferred_ckr (w : Requester) (r : Resource) (s : State) : (dropDeferred w r s).ckr = s.ckr := by
  unfold dropDeferred
  try dsimp only
  (repeat' split) <;> simp
@[simp] theorem dropDeferred_spu (w : Requester) (r : Resource) (s : State) : (dropDeferred w r s).spu = s.spu := by
  unfold dropDeferred
  try dsimp only
  (repeat' split) <;> simp
@[simp] theorem dropDeferred_bem (w : Requester) (r : Resource) (s : State) : (dropDeferred w r s).bem = s.bem := by
  unfold dropDeferred
  try dsimp only
  (repeat' split) <;> simp
@[simp] theorem dropDeferred_ltu (w : Requester) (r : Resource) (s : State) : (dropDeferred w r s).ltu = s.ltu := by
  unfold dropDeferred
  try dsimp only
  (repeat' split) <;> simp
@[simp] theorem dropDeferred_csu (w : Requester) (r : Resource) (s : State) : (dropDeferred w r s).csu = s.csu := by
  unfold dropDeferred
  try dsimp only
  (repeat' split) <;> simp
@[simp] theorem dropDeferred_vdu (w : Requester) (r : Resource) (s : State) : (dropDeferred w r s).vdu = s.vdu := by
  unfold dropDeferred
  try dsimp only
  (repeat' split) <;> simp
@[simp] theorem dropDeferred_opu (w : Requester) (r : Resource) (s : State) : (dropDeferred w r s).opu = s.opu := by
  unfold dropDeferred
  try dsimp only
  (repeat' split) <;> simp
@[simp] theorem dropDeferred_clock (w : Requester) (r : Resource) (s : State) : (dropDeferred w r s).clock = s.clock := by
  unfold dropDeferred
  try dsimp only
  (repeat' split) <;> simp
@[simp] theorem dropDeferred_choices (w : Requester) (r : Resource) (s : State) : (dropDeferred w r s).choices = s.choices := by
  unfold dropDeferred
  try dsimp only
  (repeat' split) <;> simp
@[simp] theorem dropDeferred_arrived (w : Requester) (r : Resource) (s : State) : (dropDeferred w r s).arrived = s.arrived := by
  unfold dropDeferred
  try dsimp only
  (repeat' split) <;> simp
@[simp] theorem dropDeferred_taken (w : Requester) (r : Resource) (s : State) : (dropDeferred w r s).taken = s.taken := by
  unfold dropDeferred
  try dsimp only
  (repeat' split) <;> simp
@[simp] theorem dropDeferred_pending (w : Requester) (r : Resource) (s : State) : (dropDeferred w r s).pending = s.pending := by
  unfold dropDeferred
  try dsimp only
  (repeat' split) <;> simp

@[simp] theorem releaseClaim_resetHeld (w : Requester) (r : Resource) (s : State) : (releaseClaim w r s).resetHeld = s.resetHeld := by
  unfold releaseClaim
  try dsimp only
  (repeat' split) <;> simp
@[simp] theorem releaseClaim_oi (w : Requester) (r : Resource) (s : State) : (releaseClaim w r s).oi = s.oi := by
  unfold releaseClaim
  try dsimp only
  (repeat' split) <;> simp
@[simp] theorem releaseClaim_ckr (w : Requester) (r : Resource) (s : State) : (releaseClaim w r s).ckr = s.ckr := by
  unfold releaseClaim
  try dsimp only
  (repeat' split) <;> simp
@[simp] theorem releaseClaim_spu (w : Requester) (r : Resource) (s : State) : (releaseClaim w r s).spu = s.spu := by
  unfold releaseClaim
  try dsimp only
  (repeat' split) <;> simp
@[simp] theorem releaseClaim_bem (w : Requester) (r : Resource) (s : State) : (releaseClaim w r s).bem = s.bem := by
  unfold releaseClaim
  try dsimp only
  (repeat' split) <;> simp
@[simp] theorem releaseClaim_ltu (w : Requester) (r : Resource) (s : State) : (releaseClaim w r s).ltu = s.ltu := by
  unfold releaseClaim
  try dsimp only
  (repeat' split) <;> simp
@[simp] theorem releaseClaim_csu (w : Requester) (r : Resource) (s : State) : (releaseClaim w r s).csu = s.csu := by
  unfold releaseClaim
  try dsimp only
  (repeat' split) <;> simp
@[simp] theorem releaseClaim_vdu (w : Requester) (r : Resource) (s : State) : (releaseClaim w r s).vdu = s.vdu := by
  unfold releaseClaim
  try dsimp only
  (repeat' split) <;> simp
@[simp] theorem releaseClaim_clock (w : Requester) (r : Resource) (s : State) : (releaseClaim w r s).clock = s.clock := by
  unfold releaseClaim
  try dsimp only
  (repeat' split) <;> simp
@[simp] theorem releaseClaim_choices (w : Requester) (r : Resource) (s : State) : (releaseClaim w r s).choices = s.choices := by
  unfold releaseClaim
  try dsimp only
  (repeat' split) <;> simp
@[simp] theorem releaseClaim_arrived (w : Requester) (r : Resource) (s : State) : (releaseClaim w r s).arrived = s.arrived := by
  unfold releaseClaim
  try dsimp only
  (repeat' split) <;> simp
@[simp] theorem releaseClaim_taken (w : Requester) (r : Resource) (s : State) : (releaseClaim w r s).taken = s.taken := by
  unfold releaseClaim
  try dsimp only
  (repeat' split) <;> simp
@[simp] theorem releaseClaim_pending (w : Requester) (r : Resource) (s : State) : (releaseClaim w r s).pending = s.pending := by
  unfold releaseClaim
  try dsimp only
  (repeat' split) <;> simp

@[simp] theorem releaseAllOf_resetHeld (w : Requester) (s : State) : (releaseAllOf w s).resetHeld = s.resetHeld := by
  unfold releaseAllOf
  simp
@[simp] theorem releaseAllOf_oi (w : Requester) (s : State) : (releaseAllOf w s).oi = s.oi := by
  unfold releaseAllOf
  simp
@[simp] theorem releaseAllOf_ckr (w : Requester) (s : State) : (releaseAllOf w s).ckr = s.ckr := by
  unfold releaseAllOf
  simp
@[simp] theorem releaseAllOf_spu (w : Requester) (s : State) : (releaseAllOf w s).spu = s.spu := by
  unfold releaseAllOf
  simp
@[simp] theorem releaseAllOf_bem (w : Requester) (s : State) : (releaseAllOf w s).bem = s.bem := by
  unfold releaseAllOf
  simp
@[simp] theorem releaseAllOf_ltu (w : Requester) (s : State) : (releaseAllOf w s).ltu = s.ltu := by
  unfold releaseAllOf
  simp
@[simp] theorem releaseAllOf_csu (w : Requester) (s : State) : (releaseAllOf w s).csu = s.csu := by
  unfold releaseAllOf
  simp
@[simp] theorem releaseAllOf_vdu (w : Requester) (s : State) : (releaseAllOf w s).vdu = s.vdu := by
  unfold releaseAllOf
  simp
@[simp] theorem releaseAllOf_clock (w : Requester) (s : State) : (releaseAllOf w s).clock = s.clock := by
  unfold releaseAllOf
  simp
@[simp] theorem releaseAllOf_choices (w : Requester) (s : State) : (releaseAllOf w s).choices = s.choices := by
  unfold releaseAllOf
  simp
@[simp] theorem releaseAllOf_arrived (w : Requester) (s : State) : (releaseAllOf w s).arrived = s.arrived := by
  unfold releaseAllOf
  simp
@[simp] theorem releaseAllOf_taken (w : Requester) (s : State) : (releaseAllOf w s).taken = s.taken := by
  unfold releaseAllOf
  simp
@[simp] theorem releaseAllOf_pending (w : Requester) (s : State) : (releaseAllOf w s).pending = s.pending := by
  unfold releaseAllOf
  simp

@[simp] theorem releaseEverything_resetHeld (s : State) : (releaseEverything s).resetHeld = s.resetHeld := by
  unfold releaseEverything
  try dsimp only
  (repeat' split) <;> simp
@[simp] theorem releaseEverything_oi (s : State) : (releaseEverything s).oi = s.oi := by
  unfold releaseEverything
  try dsimp only
  (repeat' split) <;> simp
@[simp] theorem releaseEverything_ckr (s : State) : (releaseEverything s).ckr = s.ckr := by
  unfold releaseEverything
  try dsimp only
  (repeat' split) <;> simp
@[simp] theorem releaseEverything_spu (s : State) : (releaseEverything s).spu = s.spu := by
  unfold releaseEverything
  try dsimp only
  (repeat' split) <;> simp
@[simp] theorem releaseEverything_bem (s : State) : (releaseEverything s).bem = s.bem := by
  unfold releaseEverything
  try dsimp only
  (repeat' split) <;> simp
@[simp] theorem releaseEverything_ltu (s : State) : (releaseEverything s).ltu = s.ltu := by
  unfold releaseEverything
  try dsimp only
  (repeat' split) <;> simp
@[simp] theorem releaseEverything_csu (s : State) : (releaseEverything s).csu = s.csu := by
  unfold releaseEverything
  try dsimp only
  (repeat' split) <;> simp
@[simp] theorem releaseEverything_vdu (s : State) : (releaseEverything s).vdu = s.vdu := by
  unfold releaseEverything
  try dsimp only
  (repeat' split) <;> simp
@[simp] theorem releaseEverything_opu (s : State) : (releaseEverything s).opu = s.opu := by
  unfold releaseEverything
  try dsimp only
  (repeat' split) <;> simp
@[simp] theorem releaseEverything_clock (s : State) : (releaseEverything s).clock = s.clock := by
  unfold releaseEverything
  try dsimp only
  (repeat' split) <;> simp
@[simp] theorem releaseEverything_choices (s : State) : (releaseEverything s).choices = s.choices := by
  unfold releaseEverything
  try dsimp only
  (repeat' split) <;> simp
@[simp] theorem releaseEverything_arrived (s : State) : (releaseEverything s).arrived = s.arrived := by
  unfold releaseEverything
  try dsimp only
  (repeat' split) <;> simp
@[simp] theorem releaseEverything_taken (s : State) : (releaseEverything s).taken = s.taken := by
  unfold releaseEverything
  try dsimp only
  (repeat' split) <;> simp
@[simp] theorem releaseEverything_pending (s : State) : (releaseEverything s).pending = s.pending := by
  unfold releaseEverything
  try dsimp only
  (repeat' split) <;> simp

@[simp] theorem setNoisy_resetHeld (s : State) : (setNoisy s).resetHeld = s.resetHeld := by
  unfold setNoisy
  try dsimp only
  (repeat' split) <;> simp
@[simp] theorem setNoisy_oi (s : State) : (setNoisy s).oi = s.oi := by
  unfold setNoisy
  try dsimp only
  (repeat' split) <;> simp
@[simp] theorem setNoisy_ckr (s : State) : (setNoisy s).ckr = s.ckr := by
  unfold setNoisy
  try dsimp only
  (repeat' split) <;> simp
@[simp] theorem setNoisy_spu (s : State) : (setNoisy s).spu = s.spu := by
  unfold setNoisy
  try dsimp only
  (repeat' split) <;> simp
@[simp] theorem setNoisy_bem (s : State) : (setNoisy s).bem = s.bem := by
  unfold setNoisy
  try dsimp only
  (repeat' split) <;> simp
@[simp] theorem setNoisy_ltu (s : State) : (setNoisy s).ltu = s.ltu := by
  unfold setNoisy
  try dsimp only
  (repeat' split) <;> simp
@[simp] theorem setNoisy_csu (s : State) : (setNoisy s).csu = s.csu := by
  unfold setNoisy
  try dsimp only
  (repeat' split) <;> simp
@[simp] theorem setNoisy_vdu (s : State) : (setNoisy s).vdu = s.vdu := by
  unfold setNoisy
  try dsimp only
  (repeat' split) <;> simp
@[simp] theorem setNoisy_opu (s : State) : (setNoisy s).opu = s.opu := by
  unfold setNoisy
  try dsimp only
  (repeat' split) <;> simp
@[simp] theorem setNoisy_clock (s : State) : (setNoisy s).clock = s.clock := by
  unfold setNoisy
  try dsimp only
  (repeat' split) <;> simp
@[simp] theorem setNoisy_choices (s : State) : (setNoisy s).choices = s.choices := by
  unfold setNoisy
  try dsimp only
  (repeat' split) <;> simp
@[simp] theorem setNoisy_arrived (s : State) : (setNoisy s).arrived = s.arrived := by
  unfold setNoisy
  try dsimp only
  (repeat' split) <;> simp
@[simp] theorem setNoisy_taken (s : State) : (setNoisy s).taken = s.taken := by
  unfold setNoisy
  try dsimp only
  (repeat' split) <;> simp
@[simp] theorem setNoisy_pending (s : State) : (setNoisy s).pending = s.pending := by
  unfold setNoisy
  try dsimp only
  (repeat' split) <;> simp

@[simp] theorem clearNoisy_resetHeld (s : State) : (clearNoisy s).resetHeld = s.resetHeld := by
  unfold clearNoisy
  try dsimp only
  (repeat' split) <;> simp
@[simp] theorem clearNoisy_oi (s : State) : (clearNoisy s).oi = s.oi := by
  unfold clearNoisy
  try dsimp only
  (repeat' split) <;> simp
@[simp] theorem clearNoisy_ckr (s : State) : (clearNoisy s).ckr = s.ckr := by
  unfold clearNoisy
  try dsimp only
  (repeat' split) <;> simp
@[simp] theorem clearNoisy_spu (s : State) : (clearNoisy s).spu = s.spu := by
  unfold clearNoisy
  try dsimp only
  (repeat' split) <;> simp
@[simp] theorem clearNoisy_bem (s : State) : (clearNoisy s).bem = s.bem := by
  unfold clearNoisy
  try dsimp only
  (repeat' split) <;> simp
@[simp] theorem clearNoisy_ltu (s : State) : (clearNoisy s).ltu = s.ltu := by
  unfold clearNoisy
  try dsimp only
  (repeat' split) <;> simp
@[simp] theorem clearNoisy_csu (s : State) : (clearNoisy s).csu = s.csu := by
  unfold clearNoisy
  try dsimp only
  (repeat' split) <;> simp
@[simp] theorem clearNoisy_vdu (s : State) : (clearNoisy s).vdu = s.vdu := by
  unfold clearNoisy
  try dsimp only
  (repeat' split) <;> simp
@[simp] theorem clearNoisy_opu (s : State) : (clearNoisy s).opu = s.opu := by
  unfold clearNoisy
  try dsimp only
  (repeat' split) <;> simp
@[simp] theorem clearNoisy_clock (s : State) : (clearNoisy s).clock = s.clock := by
  unfold clearNoisy
  try dsimp only
  (repeat' split) <;> simp
@[simp] theorem clearNoisy_choices (s : State) : (clearNoisy s).choices = s.choices := by
  unfold clearNoisy
  try dsimp only
  (repeat' split) <;> simp
@[simp] theorem clearNoisy_arrived (s : State) : (clearNoisy s).arrived = s.arrived := by
  unfold clearNoisy
  try dsimp only
  (repeat' split) <;> simp
@[simp] theorem clearNoisy_taken (s : State) : (clearNoisy s).taken = s.taken := by
  unfold clearNoisy
  try dsimp only
  (repeat' split) <;> simp
@[simp] theorem clearNoisy_pending (s : State) : (clearNoisy s).pending = s.pending := by
  unfold clearNoisy
  try dsimp only
  (repeat' split) <;> simp

@[simp] theorem audibleRequest_resetHeld (s : State) : ((audibleRequest s).2).resetHeld = s.resetHeld := by
  unfold audibleRequest
  try dsimp only
  (repeat' split) <;> simp
@[simp] theorem audibleRequest_oi (s : State) : ((audibleRequest s).2).oi = s.oi := by
  unfold audibleRequest
  try dsimp only
  (repeat' split) <;> simp
@[simp] theorem audibleRequest_ckr (s : State) : ((audibleRequest s).2).ckr = s.ckr := by
  unfold audibleRequest
  try dsimp only
  (repeat' split) <;> simp
@[simp] theorem audibleRequest_spu (s : State) : ((audibleRequest s).2).spu = s.spu := by
  unfold audibleRequest
  try dsimp only
  (repeat' split) <;> simp
@[simp] theorem audibleRequest_bem (s : State) : ((audibleRequest s).2).bem = s.bem := by
  unfold audibleRequest
  try dsimp only
  (repeat' split) <;> simp
@[simp] theorem audibleRequest_ltu (s : State) : ((audibleRequest s).2).ltu = s.ltu := by
  unfold audibleRequest
  try dsimp only
  (repeat' split) <;> simp
@[simp] theorem audibleRequest_csu (s : State) : ((audibleRequest s).2).csu = s.csu := by
  unfold audibleRequest
  try dsimp only
  (repeat' split) <;> simp
@[simp] theorem audibleRequest_vdu (s : State) : ((audibleRequest s).2).vdu = s.vdu := by
  unfold audibleRequest
  try dsimp only
  (repeat' split) <;> simp
@[simp] theorem audibleRequest_opu (s : State) : ((audibleRequest s).2).opu = s.opu := by
  unfold audibleRequest
  try dsimp only
  (repeat' split) <;> simp
@[simp] theorem audibleRequest_clock (s : State) : ((audibleRequest s).2).clock = s.clock := by
  unfold audibleRequest
  try dsimp only
  (repeat' split) <;> simp
@[simp] theorem audibleRequest_choices (s : State) : ((audibleRequest s).2).choices = s.choices := by
  unfold audibleRequest
  try dsimp only
  (repeat' split) <;> simp
@[simp] theorem audibleRequest_arrived (s : State) : ((audibleRequest s).2).arrived = s.arrived := by
  unfold audibleRequest
  try dsimp only
  (repeat' split) <;> simp
@[simp] theorem audibleRequest_taken (s : State) : ((audibleRequest s).2).taken = s.taken := by
  unfold audibleRequest
  try dsimp only
  (repeat' split) <;> simp
@[simp] theorem audibleRequest_pending (s : State) : ((audibleRequest s).2).pending = s.pending := by
  unfold audibleRequest
  try dsimp only
  (repeat' split) <;> simp

@[simp] theorem withdrawAudible_resetHeld (s : State) : (withdrawAudible s).resetHeld = s.resetHeld := by
  unfold withdrawAudible
  simp
@[simp] theorem withdrawAudible_rli (s : State) : (withdrawAudible s).rli = s.rli := by
  unfold withdrawAudible
  simp
@[simp] theorem withdrawAudible_oi (s : State) : (withdrawAudible s).oi = s.oi := by
  unfold withdrawAudible
  simp
@[simp] theorem withdrawAudible_ckr (s : State) : (withdrawAudible s).ckr = s.ckr := by
  unfold withdrawAudible
  simp
@[simp] theorem withdrawAudible_spu (s : State) : (withdrawAudible s).spu = s.spu := by
  unfold withdrawAudible
  simp
@[simp] theorem withdrawAudible_bem (s : State) : (withdrawAudible s).bem = s.bem := by
  unfold withdrawAudible
  simp
@[simp] theorem withdrawAudible_ltu (s : State) : (withdrawAudible s).ltu = s.ltu := by
  unfold withdrawAudible
  simp
@[simp] theorem withdrawAudible_csu (s : State) : (withdrawAudible s).csu = s.csu := by
  unfold withdrawAudible
  simp
@[simp] theorem withdrawAudible_vdu (s : State) : (withdrawAudible s).vdu = s.vdu := by
  unfold withdrawAudible
  simp
@[simp] theorem withdrawAudible_opu (s : State) : (withdrawAudible s).opu = s.opu := by
  unfold withdrawAudible
  simp
@[simp] theorem withdrawAudible_clock (s : State) : (withdrawAudible s).clock = s.clock := by
  unfold withdrawAudible
  simp
@[simp] theorem withdrawAudible_choices (s : State) : (withdrawAudible s).choices = s.choices := by
  unfold withdrawAudible
  simp
@[simp] theorem withdrawAudible_arrived (s : State) : (withdrawAudible s).arrived = s.arrived := by
  unfold withdrawAudible
  simp
@[simp] theorem withdrawAudible_taken (s : State) : (withdrawAudible s).taken = s.taken := by
  unfold withdrawAudible
  simp
@[simp] theorem withdrawAudible_pending (s : State) : (withdrawAudible s).pending = s.pending := by
  unfold withdrawAudible
  simp

@[simp] theorem settleNotice_resetHeld (a : Option AnnClaim) (s : State) : (settleNotice a s).resetHeld = s.resetHeld := by
  unfold settleNotice
  try dsimp only
  (repeat' split) <;> simp
@[simp] theorem settleNotice_rli (a : Option AnnClaim) (s : State) : (settleNotice a s).rli = s.rli := by
  unfold settleNotice
  try dsimp only
  (repeat' split) <;> simp
@[simp] theorem settleNotice_oi (a : Option AnnClaim) (s : State) : (settleNotice a s).oi = s.oi := by
  unfold settleNotice
  try dsimp only
  (repeat' split) <;> simp
@[simp] theorem settleNotice_ckr (a : Option AnnClaim) (s : State) : (settleNotice a s).ckr = s.ckr := by
  unfold settleNotice
  try dsimp only
  (repeat' split) <;> simp
@[simp] theorem settleNotice_spu (a : Option AnnClaim) (s : State) : (settleNotice a s).spu = s.spu := by
  unfold settleNotice
  try dsimp only
  (repeat' split) <;> simp
@[simp] theorem settleNotice_bem (a : Option AnnClaim) (s : State) : (settleNotice a s).bem = s.bem := by
  unfold settleNotice
  try dsimp only
  (repeat' split) <;> simp
@[simp] theorem settleNotice_ltu (a : Option AnnClaim) (s : State) : (settleNotice a s).ltu = s.ltu := by
  unfold settleNotice
  try dsimp only
  (repeat' split) <;> simp
@[simp] theorem settleNotice_csu (a : Option AnnClaim) (s : State) : (settleNotice a s).csu = s.csu := by
  unfold settleNotice
  try dsimp only
  (repeat' split) <;> simp
@[simp] theorem settleNotice_vdu (a : Option AnnClaim) (s : State) : (settleNotice a s).vdu = s.vdu := by
  unfold settleNotice
  try dsimp only
  (repeat' split) <;> simp
@[simp] theorem settleNotice_opu (a : Option AnnClaim) (s : State) : (settleNotice a s).opu = s.opu := by
  unfold settleNotice
  try dsimp only
  (repeat' split) <;> simp
@[simp] theorem settleNotice_clock (a : Option AnnClaim) (s : State) : (settleNotice a s).clock = s.clock := by
  unfold settleNotice
  try dsimp only
  (repeat' split) <;> simp
@[simp] theorem settleNotice_choices (a : Option AnnClaim) (s : State) : (settleNotice a s).choices = s.choices := by
  unfold settleNotice
  try dsimp only
  (repeat' split) <;> simp
@[simp] theorem settleNotice_arrived (a : Option AnnClaim) (s : State) : (settleNotice a s).arrived = s.arrived := by
  unfold settleNotice
  try dsimp only
  (repeat' split) <;> simp
@[simp] theorem settleNotice_taken (a : Option AnnClaim) (s : State) : (settleNotice a s).taken = s.taken := by
  unfold settleNotice
  try dsimp only
  (repeat' split) <;> simp
@[simp] theorem settleNotice_pending (a : Option AnnClaim) (s : State) : (settleNotice a s).pending = s.pending := by
  unfold settleNotice
  try dsimp only
  (repeat' split) <;> simp

@[simp] theorem writePeer_resetHeld (n : Nat) (p : PeerReport) (s : State) : (writePeer n p s).resetHeld = s.resetHeld := by
  unfold writePeer
  simp
@[simp] theorem writePeer_rli (n : Nat) (p : PeerReport) (s : State) : (writePeer n p s).rli = s.rli := by
  unfold writePeer
  simp
@[simp] theorem writePeer_oi (n : Nat) (p : PeerReport) (s : State) : (writePeer n p s).oi = s.oi := by
  unfold writePeer
  simp
@[simp] theorem writePeer_ckr (n : Nat) (p : PeerReport) (s : State) : (writePeer n p s).ckr = s.ckr := by
  unfold writePeer
  simp
@[simp] theorem writePeer_spu (n : Nat) (p : PeerReport) (s : State) : (writePeer n p s).spu = s.spu := by
  unfold writePeer
  simp
@[simp] theorem writePeer_bem (n : Nat) (p : PeerReport) (s : State) : (writePeer n p s).bem = s.bem := by
  unfold writePeer
  simp
@[simp] theorem writePeer_ltu (n : Nat) (p : PeerReport) (s : State) : (writePeer n p s).ltu = s.ltu := by
  unfold writePeer
  simp
@[simp] theorem writePeer_csu (n : Nat) (p : PeerReport) (s : State) : (writePeer n p s).csu = s.csu := by
  unfold writePeer
  simp
@[simp] theorem writePeer_vdu (n : Nat) (p : PeerReport) (s : State) : (writePeer n p s).vdu = s.vdu := by
  unfold writePeer
  simp
@[simp] theorem writePeer_opu (n : Nat) (p : PeerReport) (s : State) : (writePeer n p s).opu = s.opu := by
  unfold writePeer
  simp
@[simp] theorem writePeer_clock (n : Nat) (p : PeerReport) (s : State) : (writePeer n p s).clock = s.clock := by
  unfold writePeer
  simp
@[simp] theorem writePeer_choices (n : Nat) (p : PeerReport) (s : State) : (writePeer n p s).choices = s.choices := by
  unfold writePeer
  simp
@[simp] theorem writePeer_arrived (n : Nat) (p : PeerReport) (s : State) : (writePeer n p s).arrived = s.arrived := by
  unfold writePeer
  simp
@[simp] theorem writePeer_taken (n : Nat) (p : PeerReport) (s : State) : (writePeer n p s).taken = s.taken := by
  unfold writePeer
  simp
@[simp] theorem writePeer_pending (n : Nat) (p : PeerReport) (s : State) : (writePeer n p s).pending = s.pending := by
  unfold writePeer
  simp

end Sys2Proof.Machine
end

