-- ==== Sys2Proof/Laws/Rail.lean ====
section
/-! SUPPORT. The blocks that each operation of the Supply Unit leaves as they are. -/

namespace Sys2Proof.Machine

@[simp] theorem railTo_resetHeld (r : RailState) (s : State) : (railTo r s).resetHeld = s.resetHeld := by
  unfold railTo
  try dsimp only
  (repeat' split) <;> simp
@[simp] theorem railTo_rli (r : RailState) (s : State) : (railTo r s).rli = s.rli := by
  unfold railTo
  try dsimp only
  (repeat' split) <;> simp
@[simp] theorem railTo_oi (r : RailState) (s : State) : (railTo r s).oi = s.oi := by
  unfold railTo
  try dsimp only
  (repeat' split) <;> simp
@[simp] theorem railTo_clu (r : RailState) (s : State) : (railTo r s).clu = s.clu := by
  unfold railTo
  try dsimp only
  (repeat' split) <;> simp
@[simp] theorem railTo_ckr (r : RailState) (s : State) : (railTo r s).ckr = s.ckr := by
  unfold railTo
  try dsimp only
  (repeat' split) <;> simp
@[simp] theorem railTo_ltu (r : RailState) (s : State) : (railTo r s).ltu = s.ltu := by
  unfold railTo
  try dsimp only
  (repeat' split) <;> simp
@[simp] theorem railTo_csu (r : RailState) (s : State) : (railTo r s).csu = s.csu := by
  unfold railTo
  try dsimp only
  (repeat' split) <;> simp
@[simp] theorem railTo_vdu (r : RailState) (s : State) : (railTo r s).vdu = s.vdu := by
  unfold railTo
  try dsimp only
  (repeat' split) <;> simp
@[simp] theorem railTo_opu (r : RailState) (s : State) : (railTo r s).opu = s.opu := by
  unfold railTo
  try dsimp only
  (repeat' split) <;> simp
@[simp] theorem railTo_clock (r : RailState) (s : State) : (railTo r s).clock = s.clock := by
  unfold railTo
  try dsimp only
  (repeat' split) <;> simp
@[simp] theorem railTo_choices (r : RailState) (s : State) : (railTo r s).choices = s.choices := by
  unfold railTo
  try dsimp only
  (repeat' split) <;> simp
@[simp] theorem railTo_arrived (r : RailState) (s : State) : (railTo r s).arrived = s.arrived := by
  unfold railTo
  try dsimp only
  (repeat' split) <;> simp
@[simp] theorem railTo_taken (r : RailState) (s : State) : (railTo r s).taken = s.taken := by
  unfold railTo
  try dsimp only
  (repeat' split) <;> simp
@[simp] theorem railTo_pending (r : RailState) (s : State) : (railTo r s).pending = s.pending := by
  unfold railTo
  try dsimp only
  (repeat' split) <;> simp

@[simp] theorem powerUp_resetHeld (t r : Nat) (s : State) : (powerUp t r s).resetHeld = s.resetHeld := by
  unfold powerUp
  simp
@[simp] theorem powerUp_rli (t r : Nat) (s : State) : (powerUp t r s).rli = s.rli := by
  unfold powerUp
  simp
@[simp] theorem powerUp_oi (t r : Nat) (s : State) : (powerUp t r s).oi = s.oi := by
  unfold powerUp
  simp
@[simp] theorem powerUp_clu (t r : Nat) (s : State) : (powerUp t r s).clu = s.clu := by
  unfold powerUp
  simp
@[simp] theorem powerUp_ckr (t r : Nat) (s : State) : (powerUp t r s).ckr = s.ckr := by
  unfold powerUp
  simp
@[simp] theorem powerUp_ltu (t r : Nat) (s : State) : (powerUp t r s).ltu = s.ltu := by
  unfold powerUp
  simp
@[simp] theorem powerUp_csu (t r : Nat) (s : State) : (powerUp t r s).csu = s.csu := by
  unfold powerUp
  simp
@[simp] theorem powerUp_vdu (t r : Nat) (s : State) : (powerUp t r s).vdu = s.vdu := by
  unfold powerUp
  simp
@[simp] theorem powerUp_opu (t r : Nat) (s : State) : (powerUp t r s).opu = s.opu := by
  unfold powerUp
  simp
@[simp] theorem powerUp_clock (t r : Nat) (s : State) : (powerUp t r s).clock = s.clock := by
  unfold powerUp
  simp
@[simp] theorem powerUp_choices (t r : Nat) (s : State) : (powerUp t r s).choices = s.choices := by
  unfold powerUp
  simp
@[simp] theorem powerUp_arrived (t r : Nat) (s : State) : (powerUp t r s).arrived = s.arrived := by
  unfold powerUp
  simp
@[simp] theorem powerUp_taken (t r : Nat) (s : State) : (powerUp t r s).taken = s.taken := by
  unfold powerUp
  simp
@[simp] theorem powerUp_pending (t r : Nat) (s : State) : (powerUp t r s).pending = s.pending := by
  unfold powerUp
  simp

@[simp] theorem rampGo_resetHeld (s : State) : (rampGo s).resetHeld = s.resetHeld := by
  unfold rampGo
  try dsimp only
  (repeat' split) <;> simp
@[simp] theorem rampGo_rli (s : State) : (rampGo s).rli = s.rli := by
  unfold rampGo
  try dsimp only
  (repeat' split) <;> simp
@[simp] theorem rampGo_oi (s : State) : (rampGo s).oi = s.oi := by
  unfold rampGo
  try dsimp only
  (repeat' split) <;> simp
@[simp] theorem rampGo_clu (s : State) : (rampGo s).clu = s.clu := by
  unfold rampGo
  try dsimp only
  (repeat' split) <;> simp
@[simp] theorem rampGo_ckr (s : State) : (rampGo s).ckr = s.ckr := by
  unfold rampGo
  try dsimp only
  (repeat' split) <;> simp
@[simp] theorem rampGo_ltu (s : State) : (rampGo s).ltu = s.ltu := by
  unfold rampGo
  try dsimp only
  (repeat' split) <;> simp
@[simp] theorem rampGo_csu (s : State) : (rampGo s).csu = s.csu := by
  unfold rampGo
  try dsimp only
  (repeat' split) <;> simp
@[simp] theorem rampGo_vdu (s : State) : (rampGo s).vdu = s.vdu := by
  unfold rampGo
  try dsimp only
  (repeat' split) <;> simp
@[simp] theorem rampGo_opu (s : State) : (rampGo s).opu = s.opu := by
  unfold rampGo
  try dsimp only
  (repeat' split) <;> simp
@[simp] theorem rampGo_clock (s : State) : (rampGo s).clock = s.clock := by
  unfold rampGo
  try dsimp only
  (repeat' split) <;> simp
@[simp] theorem rampGo_choices (s : State) : (rampGo s).choices = s.choices := by
  unfold rampGo
  try dsimp only
  (repeat' split) <;> simp
@[simp] theorem rampGo_arrived (s : State) : (rampGo s).arrived = s.arrived := by
  unfold rampGo
  try dsimp only
  (repeat' split) <;> simp
@[simp] theorem rampGo_taken (s : State) : (rampGo s).taken = s.taken := by
  unfold rampGo
  try dsimp only
  (repeat' split) <;> simp
@[simp] theorem rampGo_pending (s : State) : (rampGo s).pending = s.pending := by
  unfold rampGo
  try dsimp only
  (repeat' split) <;> simp

@[simp] theorem arriveOn_resetHeld (s : State) : (arriveOn s).resetHeld = s.resetHeld := by
  unfold arriveOn
  simp
@[simp] theorem arriveOn_rli (s : State) : (arriveOn s).rli = s.rli := by
  unfold arriveOn
  simp
@[simp] theorem arriveOn_oi (s : State) : (arriveOn s).oi = s.oi := by
  unfold arriveOn
  simp
@[simp] theorem arriveOn_clu (s : State) : (arriveOn s).clu = s.clu := by
  unfold arriveOn
  simp
@[simp] theorem arriveOn_ckr (s : State) : (arriveOn s).ckr = s.ckr := by
  unfold arriveOn
  simp
@[simp] theorem arriveOn_ltu (s : State) : (arriveOn s).ltu = s.ltu := by
  unfold arriveOn
  simp
@[simp] theorem arriveOn_csu (s : State) : (arriveOn s).csu = s.csu := by
  unfold arriveOn
  simp
@[simp] theorem arriveOn_vdu (s : State) : (arriveOn s).vdu = s.vdu := by
  unfold arriveOn
  simp
@[simp] theorem arriveOn_opu (s : State) : (arriveOn s).opu = s.opu := by
  unfold arriveOn
  simp
@[simp] theorem arriveOn_clock (s : State) : (arriveOn s).clock = s.clock := by
  unfold arriveOn
  simp
@[simp] theorem arriveOn_choices (s : State) : (arriveOn s).choices = s.choices := by
  unfold arriveOn
  simp
@[simp] theorem arriveOn_arrived (s : State) : (arriveOn s).arrived = s.arrived := by
  unfold arriveOn
  simp
@[simp] theorem arriveOn_taken (s : State) : (arriveOn s).taken = s.taken := by
  unfold arriveOn
  simp
@[simp] theorem arriveOn_pending (s : State) : (arriveOn s).pending = s.pending := by
  unfold arriveOn
  simp

@[simp] theorem rampArrive_resetHeld (s : State) : (rampArrive s).resetHeld = s.resetHeld := by
  unfold rampArrive
  simp
@[simp] theorem rampArrive_rli (s : State) : (rampArrive s).rli = s.rli := by
  unfold rampArrive
  simp
@[simp] theorem rampArrive_oi (s : State) : (rampArrive s).oi = s.oi := by
  unfold rampArrive
  simp
@[simp] theorem rampArrive_clu (s : State) : (rampArrive s).clu = s.clu := by
  unfold rampArrive
  simp
@[simp] theorem rampArrive_ltu (s : State) : (rampArrive s).ltu = s.ltu := by
  unfold rampArrive
  simp
@[simp] theorem rampArrive_csu (s : State) : (rampArrive s).csu = s.csu := by
  unfold rampArrive
  simp
@[simp] theorem rampArrive_vdu (s : State) : (rampArrive s).vdu = s.vdu := by
  unfold rampArrive
  simp
@[simp] theorem rampArrive_opu (s : State) : (rampArrive s).opu = s.opu := by
  unfold rampArrive
  simp
@[simp] theorem rampArrive_clock (s : State) : (rampArrive s).clock = s.clock := by
  unfold rampArrive
  simp
@[simp] theorem rampArrive_choices (s : State) : (rampArrive s).choices = s.choices := by
  unfold rampArrive
  simp
@[simp] theorem rampArrive_arrived (s : State) : (rampArrive s).arrived = s.arrived := by
  unfold rampArrive
  simp
@[simp] theorem rampArrive_taken (s : State) : (rampArrive s).taken = s.taken := by
  unfold rampArrive
  simp
@[simp] theorem rampArrive_pending (s : State) : (rampArrive s).pending = s.pending := by
  unfold rampArrive
  simp

@[simp] theorem slewTo_resetHeld (t r : Nat) (s : State) : (slewTo t r s).resetHeld = s.resetHeld := by
  unfold slewTo
  try dsimp only
  (repeat' split) <;> simp
@[simp] theorem slewTo_rli (t r : Nat) (s : State) : (slewTo t r s).rli = s.rli := by
  unfold slewTo
  try dsimp only
  (repeat' split) <;> simp
@[simp] theorem slewTo_oi (t r : Nat) (s : State) : (slewTo t r s).oi = s.oi := by
  unfold slewTo
  try dsimp only
  (repeat' split) <;> simp
@[simp] theorem slewTo_clu (t r : Nat) (s : State) : (slewTo t r s).clu = s.clu := by
  unfold slewTo
  try dsimp only
  (repeat' split) <;> simp
@[simp] theorem slewTo_ckr (t r : Nat) (s : State) : (slewTo t r s).ckr = s.ckr := by
  unfold slewTo
  try dsimp only
  (repeat' split) <;> simp
@[simp] theorem slewTo_ltu (t r : Nat) (s : State) : (slewTo t r s).ltu = s.ltu := by
  unfold slewTo
  try dsimp only
  (repeat' split) <;> simp
@[simp] theorem slewTo_csu (t r : Nat) (s : State) : (slewTo t r s).csu = s.csu := by
  unfold slewTo
  try dsimp only
  (repeat' split) <;> simp
@[simp] theorem slewTo_vdu (t r : Nat) (s : State) : (slewTo t r s).vdu = s.vdu := by
  unfold slewTo
  try dsimp only
  (repeat' split) <;> simp
@[simp] theorem slewTo_opu (t r : Nat) (s : State) : (slewTo t r s).opu = s.opu := by
  unfold slewTo
  try dsimp only
  (repeat' split) <;> simp
@[simp] theorem slewTo_clock (t r : Nat) (s : State) : (slewTo t r s).clock = s.clock := by
  unfold slewTo
  try dsimp only
  (repeat' split) <;> simp
@[simp] theorem slewTo_choices (t r : Nat) (s : State) : (slewTo t r s).choices = s.choices := by
  unfold slewTo
  try dsimp only
  (repeat' split) <;> simp
@[simp] theorem slewTo_arrived (t r : Nat) (s : State) : (slewTo t r s).arrived = s.arrived := by
  unfold slewTo
  try dsimp only
  (repeat' split) <;> simp
@[simp] theorem slewTo_taken (t r : Nat) (s : State) : (slewTo t r s).taken = s.taken := by
  unfold slewTo
  try dsimp only
  (repeat' split) <;> simp
@[simp] theorem slewTo_pending (t r : Nat) (s : State) : (slewTo t r s).pending = s.pending := by
  unfold slewTo
  try dsimp only
  (repeat' split) <;> simp

@[simp] theorem crankTo_resetHeld (d t r : Nat) (s : State) : (crankTo d t r s).resetHeld = s.resetHeld := by
  unfold crankTo
  simp
@[simp] theorem crankTo_rli (d t r : Nat) (s : State) : (crankTo d t r s).rli = s.rli := by
  unfold crankTo
  simp
@[simp] theorem crankTo_oi (d t r : Nat) (s : State) : (crankTo d t r s).oi = s.oi := by
  unfold crankTo
  simp
@[simp] theorem crankTo_clu (d t r : Nat) (s : State) : (crankTo d t r s).clu = s.clu := by
  unfold crankTo
  simp
@[simp] theorem crankTo_ckr (d t r : Nat) (s : State) : (crankTo d t r s).ckr = s.ckr := by
  unfold crankTo
  simp
@[simp] theorem crankTo_ltu (d t r : Nat) (s : State) : (crankTo d t r s).ltu = s.ltu := by
  unfold crankTo
  simp
@[simp] theorem crankTo_csu (d t r : Nat) (s : State) : (crankTo d t r s).csu = s.csu := by
  unfold crankTo
  simp
@[simp] theorem crankTo_vdu (d t r : Nat) (s : State) : (crankTo d t r s).vdu = s.vdu := by
  unfold crankTo
  simp
@[simp] theorem crankTo_opu (d t r : Nat) (s : State) : (crankTo d t r s).opu = s.opu := by
  unfold crankTo
  simp
@[simp] theorem crankTo_clock (d t r : Nat) (s : State) : (crankTo d t r s).clock = s.clock := by
  unfold crankTo
  simp
@[simp] theorem crankTo_choices (d t r : Nat) (s : State) : (crankTo d t r s).choices = s.choices := by
  unfold crankTo
  simp
@[simp] theorem crankTo_arrived (d t r : Nat) (s : State) : (crankTo d t r s).arrived = s.arrived := by
  unfold crankTo
  simp
@[simp] theorem crankTo_taken (d t r : Nat) (s : State) : (crankTo d t r s).taken = s.taken := by
  unfold crankTo
  simp
@[simp] theorem crankTo_pending (d t r : Nat) (s : State) : (crankTo d t r s).pending = s.pending := by
  unfold crankTo
  simp

@[simp] theorem crankRecovery_resetHeld (s : State) : (crankRecovery s).resetHeld = s.resetHeld := by
  unfold crankRecovery
  simp
@[simp] theorem crankRecovery_rli (s : State) : (crankRecovery s).rli = s.rli := by
  unfold crankRecovery
  simp
@[simp] theorem crankRecovery_oi (s : State) : (crankRecovery s).oi = s.oi := by
  unfold crankRecovery
  simp
@[simp] theorem crankRecovery_clu (s : State) : (crankRecovery s).clu = s.clu := by
  unfold crankRecovery
  simp
@[simp] theorem crankRecovery_ckr (s : State) : (crankRecovery s).ckr = s.ckr := by
  unfold crankRecovery
  simp
@[simp] theorem crankRecovery_bem (s : State) : (crankRecovery s).bem = s.bem := by
  unfold crankRecovery
  simp
@[simp] theorem crankRecovery_ltu (s : State) : (crankRecovery s).ltu = s.ltu := by
  unfold crankRecovery
  simp
@[simp] theorem crankRecovery_csu (s : State) : (crankRecovery s).csu = s.csu := by
  unfold crankRecovery
  simp
@[simp] theorem crankRecovery_vdu (s : State) : (crankRecovery s).vdu = s.vdu := by
  unfold crankRecovery
  simp
@[simp] theorem crankRecovery_opu (s : State) : (crankRecovery s).opu = s.opu := by
  unfold crankRecovery
  simp
@[simp] theorem crankRecovery_clock (s : State) : (crankRecovery s).clock = s.clock := by
  unfold crankRecovery
  simp
@[simp] theorem crankRecovery_choices (s : State) : (crankRecovery s).choices = s.choices := by
  unfold crankRecovery
  simp
@[simp] theorem crankRecovery_arrived (s : State) : (crankRecovery s).arrived = s.arrived := by
  unfold crankRecovery
  simp
@[simp] theorem crankRecovery_taken (s : State) : (crankRecovery s).taken = s.taken := by
  unfold crankRecovery
  simp
@[simp] theorem crankRecovery_pending (s : State) : (crankRecovery s).pending = s.pending := by
  unfold crankRecovery
  simp

@[simp] theorem arriveOff_resetHeld (s : State) : (arriveOff s).resetHeld = s.resetHeld := by
  unfold arriveOff
  simp
@[simp] theorem arriveOff_rli (s : State) : (arriveOff s).rli = s.rli := by
  unfold arriveOff
  simp
@[simp] theorem arriveOff_oi (s : State) : (arriveOff s).oi = s.oi := by
  unfold arriveOff
  simp
@[simp] theorem arriveOff_clu (s : State) : (arriveOff s).clu = s.clu := by
  unfold arriveOff
  simp
@[simp] theorem arriveOff_ckr (s : State) : (arriveOff s).ckr = s.ckr := by
  unfold arriveOff
  simp
@[simp] theorem arriveOff_ltu (s : State) : (arriveOff s).ltu = s.ltu := by
  unfold arriveOff
  simp
@[simp] theorem arriveOff_csu (s : State) : (arriveOff s).csu = s.csu := by
  unfold arriveOff
  simp
@[simp] theorem arriveOff_vdu (s : State) : (arriveOff s).vdu = s.vdu := by
  unfold arriveOff
  simp
@[simp] theorem arriveOff_opu (s : State) : (arriveOff s).opu = s.opu := by
  unfold arriveOff
  simp
@[simp] theorem arriveOff_clock (s : State) : (arriveOff s).clock = s.clock := by
  unfold arriveOff
  simp
@[simp] theorem arriveOff_choices (s : State) : (arriveOff s).choices = s.choices := by
  unfold arriveOff
  simp
@[simp] theorem arriveOff_arrived (s : State) : (arriveOff s).arrived = s.arrived := by
  unfold arriveOff
  simp
@[simp] theorem arriveOff_taken (s : State) : (arriveOff s).taken = s.taken := by
  unfold arriveOff
  simp
@[simp] theorem arriveOff_pending (s : State) : (arriveOff s).pending = s.pending := by
  unfold arriveOff
  simp

@[simp] theorem beginDischarge_resetHeld (s : State) : (beginDischarge s).resetHeld = s.resetHeld := by
  unfold beginDischarge
  try dsimp only
  (repeat' split) <;> simp
@[simp] theorem beginDischarge_rli (s : State) : (beginDischarge s).rli = s.rli := by
  unfold beginDischarge
  try dsimp only
  (repeat' split) <;> simp
@[simp] theorem beginDischarge_oi (s : State) : (beginDischarge s).oi = s.oi := by
  unfold beginDischarge
  try dsimp only
  (repeat' split) <;> simp
@[simp] theorem beginDischarge_clu (s : State) : (beginDischarge s).clu = s.clu := by
  unfold beginDischarge
  try dsimp only
  (repeat' split) <;> simp
@[simp] theorem beginDischarge_ckr (s : State) : (beginDischarge s).ckr = s.ckr := by
  unfold beginDischarge
  try dsimp only
  (repeat' split) <;> simp
@[simp] theorem beginDischarge_ltu (s : State) : (beginDischarge s).ltu = s.ltu := by
  unfold beginDischarge
  try dsimp only
  (repeat' split) <;> simp
@[simp] theorem beginDischarge_csu (s : State) : (beginDischarge s).csu = s.csu := by
  unfold beginDischarge
  try dsimp only
  (repeat' split) <;> simp
@[simp] theorem beginDischarge_vdu (s : State) : (beginDischarge s).vdu = s.vdu := by
  unfold beginDischarge
  try dsimp only
  (repeat' split) <;> simp
@[simp] theorem beginDischarge_opu (s : State) : (beginDischarge s).opu = s.opu := by
  unfold beginDischarge
  try dsimp only
  (repeat' split) <;> simp
@[simp] theorem beginDischarge_clock (s : State) : (beginDischarge s).clock = s.clock := by
  unfold beginDischarge
  try dsimp only
  (repeat' split) <;> simp
@[simp] theorem beginDischarge_choices (s : State) : (beginDischarge s).choices = s.choices := by
  unfold beginDischarge
  try dsimp only
  (repeat' split) <;> simp
@[simp] theorem beginDischarge_arrived (s : State) : (beginDischarge s).arrived = s.arrived := by
  unfold beginDischarge
  try dsimp only
  (repeat' split) <;> simp
@[simp] theorem beginDischarge_taken (s : State) : (beginDischarge s).taken = s.taken := by
  unfold beginDischarge
  try dsimp only
  (repeat' split) <;> simp
@[simp] theorem beginDischarge_pending (s : State) : (beginDischarge s).pending = s.pending := by
  unfold beginDischarge
  try dsimp only
  (repeat' split) <;> simp

@[simp] theorem cancelRetry_resetHeld (s : State) : (cancelRetry s).resetHeld = s.resetHeld := by
  unfold cancelRetry
  try dsimp only
  (repeat' split) <;> simp
@[simp] theorem cancelRetry_oi (s : State) : (cancelRetry s).oi = s.oi := by
  unfold cancelRetry
  try dsimp only
  (repeat' split) <;> simp
@[simp] theorem cancelRetry_ckr (s : State) : (cancelRetry s).ckr = s.ckr := by
  unfold cancelRetry
  try dsimp only
  (repeat' split) <;> simp
@[simp] theorem cancelRetry_bem (s : State) : (cancelRetry s).bem = s.bem := by
  unfold cancelRetry
  try dsimp only
  (repeat' split) <;> simp
@[simp] theorem cancelRetry_ltu (s : State) : (cancelRetry s).ltu = s.ltu := by
  unfold cancelRetry
  try dsimp only
  (repeat' split) <;> simp
@[simp] theorem cancelRetry_csu (s : State) : (cancelRetry s).csu = s.csu := by
  unfold cancelRetry
  try dsimp only
  (repeat' split) <;> simp
@[simp] theorem cancelRetry_vdu (s : State) : (cancelRetry s).vdu = s.vdu := by
  unfold cancelRetry
  try dsimp only
  (repeat' split) <;> simp
@[simp] theorem cancelRetry_clock (s : State) : (cancelRetry s).clock = s.clock := by
  unfold cancelRetry
  try dsimp only
  (repeat' split) <;> simp
@[simp] theorem cancelRetry_choices (s : State) : (cancelRetry s).choices = s.choices := by
  unfold cancelRetry
  try dsimp only
  (repeat' split) <;> simp
@[simp] theorem cancelRetry_arrived (s : State) : (cancelRetry s).arrived = s.arrived := by
  unfold cancelRetry
  try dsimp only
  (repeat' split) <;> simp
@[simp] theorem cancelRetry_taken (s : State) : (cancelRetry s).taken = s.taken := by
  unfold cancelRetry
  try dsimp only
  (repeat' split) <;> simp
@[simp] theorem cancelRetry_pending (s : State) : (cancelRetry s).pending = s.pending := by
  unfold cancelRetry
  try dsimp only
  (repeat' split) <;> simp

@[simp] theorem offRequest_resetHeld (s : State) : (offRequest s).resetHeld = s.resetHeld := by
  unfold offRequest
  try dsimp only
  (repeat' split) <;> simp
@[simp] theorem offRequest_oi (s : State) : (offRequest s).oi = s.oi := by
  unfold offRequest
  try dsimp only
  (repeat' split) <;> simp
@[simp] theorem offRequest_ckr (s : State) : (offRequest s).ckr = s.ckr := by
  unfold offRequest
  try dsimp only
  (repeat' split) <;> simp
@[simp] theorem offRequest_ltu (s : State) : (offRequest s).ltu = s.ltu := by
  unfold offRequest
  try dsimp only
  (repeat' split) <;> simp
@[simp] theorem offRequest_csu (s : State) : (offRequest s).csu = s.csu := by
  unfold offRequest
  try dsimp only
  (repeat' split) <;> simp
@[simp] theorem offRequest_vdu (s : State) : (offRequest s).vdu = s.vdu := by
  unfold offRequest
  try dsimp only
  (repeat' split) <;> simp
@[simp] theorem offRequest_clock (s : State) : (offRequest s).clock = s.clock := by
  unfold offRequest
  try dsimp only
  (repeat' split) <;> simp
@[simp] theorem offRequest_choices (s : State) : (offRequest s).choices = s.choices := by
  unfold offRequest
  try dsimp only
  (repeat' split) <;> simp
@[simp] theorem offRequest_arrived (s : State) : (offRequest s).arrived = s.arrived := by
  unfold offRequest
  try dsimp only
  (repeat' split) <;> simp
@[simp] theorem offRequest_taken (s : State) : (offRequest s).taken = s.taken := by
  unfold offRequest
  try dsimp only
  (repeat' split) <;> simp
@[simp] theorem offRequest_pending (s : State) : (offRequest s).pending = s.pending := by
  unfold offRequest
  try dsimp only
  (repeat' split) <;> simp

@[simp] theorem powerUpCancel_resetHeld (s : State) : (powerUpCancel s).resetHeld = s.resetHeld := by
  unfold powerUpCancel takeFirst
  dsimp only
  (repeat' split) <;> simp
@[simp] theorem powerUpCancel_rli (s : State) : (powerUpCancel s).rli = s.rli := by
  unfold powerUpCancel takeFirst
  dsimp only
  (repeat' split) <;> simp
@[simp] theorem powerUpCancel_oi (s : State) : (powerUpCancel s).oi = s.oi := by
  unfold powerUpCancel takeFirst
  dsimp only
  (repeat' split) <;> simp
@[simp] theorem powerUpCancel_clu (s : State) : (powerUpCancel s).clu = s.clu := by
  unfold powerUpCancel takeFirst
  dsimp only
  (repeat' split) <;> simp
@[simp] theorem powerUpCancel_ltu (s : State) : (powerUpCancel s).ltu = s.ltu := by
  unfold powerUpCancel takeFirst
  dsimp only
  (repeat' split) <;> simp
@[simp] theorem powerUpCancel_csu (s : State) : (powerUpCancel s).csu = s.csu := by
  unfold powerUpCancel takeFirst
  dsimp only
  (repeat' split) <;> simp
@[simp] theorem powerUpCancel_vdu (s : State) : (powerUpCancel s).vdu = s.vdu := by
  unfold powerUpCancel takeFirst
  dsimp only
  (repeat' split) <;> simp
@[simp] theorem powerUpCancel_opu (s : State) : (powerUpCancel s).opu = s.opu := by
  unfold powerUpCancel takeFirst
  dsimp only
  (repeat' split) <;> simp
@[simp] theorem powerUpCancel_clock (s : State) : (powerUpCancel s).clock = s.clock := by
  unfold powerUpCancel takeFirst
  dsimp only
  (repeat' split) <;> simp
@[simp] theorem powerUpCancel_arrived (s : State) : (powerUpCancel s).arrived = s.arrived := by
  unfold powerUpCancel takeFirst
  dsimp only
  (repeat' split) <;> simp
@[simp] theorem powerUpCancel_taken (s : State) : (powerUpCancel s).taken = s.taken := by
  unfold powerUpCancel takeFirst
  dsimp only
  (repeat' split) <;> simp
@[simp] theorem powerUpCancel_pending (s : State) : (powerUpCancel s).pending = s.pending := by
  unfold powerUpCancel takeFirst
  dsimp only
  (repeat' split) <;> simp

@[simp] theorem enterFaultOff_resetHeld (s : State) : (enterFaultOff s).resetHeld = s.resetHeld := by
  unfold enterFaultOff
  simp
@[simp] theorem enterFaultOff_rli (s : State) : (enterFaultOff s).rli = s.rli := by
  unfold enterFaultOff
  simp
@[simp] theorem enterFaultOff_oi (s : State) : (enterFaultOff s).oi = s.oi := by
  unfold enterFaultOff
  simp
@[simp] theorem enterFaultOff_clu (s : State) : (enterFaultOff s).clu = s.clu := by
  unfold enterFaultOff
  simp
@[simp] theorem enterFaultOff_ckr (s : State) : (enterFaultOff s).ckr = s.ckr := by
  unfold enterFaultOff
  simp
@[simp] theorem enterFaultOff_ltu (s : State) : (enterFaultOff s).ltu = s.ltu := by
  unfold enterFaultOff
  simp
@[simp] theorem enterFaultOff_csu (s : State) : (enterFaultOff s).csu = s.csu := by
  unfold enterFaultOff
  simp
@[simp] theorem enterFaultOff_vdu (s : State) : (enterFaultOff s).vdu = s.vdu := by
  unfold enterFaultOff
  simp
@[simp] theorem enterFaultOff_opu (s : State) : (enterFaultOff s).opu = s.opu := by
  unfold enterFaultOff
  simp
@[simp] theorem enterFaultOff_clock (s : State) : (enterFaultOff s).clock = s.clock := by
  unfold enterFaultOff
  simp
@[simp] theorem enterFaultOff_choices (s : State) : (enterFaultOff s).choices = s.choices := by
  unfold enterFaultOff
  simp
@[simp] theorem enterFaultOff_arrived (s : State) : (enterFaultOff s).arrived = s.arrived := by
  unfold enterFaultOff
  simp
@[simp] theorem enterFaultOff_taken (s : State) : (enterFaultOff s).taken = s.taken := by
  unfold enterFaultOff
  simp
@[simp] theorem enterFaultOff_pending (s : State) : (enterFaultOff s).pending = s.pending := by
  unfold enterFaultOff
  simp

@[simp] theorem enterSafe_resetHeld (s : State) : (enterSafe s).resetHeld = s.resetHeld := by
  unfold enterSafe
  simp
@[simp] theorem enterSafe_oi (s : State) : (enterSafe s).oi = s.oi := by
  unfold enterSafe
  simp
@[simp] theorem enterSafe_ckr (s : State) : (enterSafe s).ckr = s.ckr := by
  unfold enterSafe
  simp
@[simp] theorem enterSafe_ltu (s : State) : (enterSafe s).ltu = s.ltu := by
  unfold enterSafe
  simp
@[simp] theorem enterSafe_csu (s : State) : (enterSafe s).csu = s.csu := by
  unfold enterSafe
  simp
@[simp] theorem enterSafe_vdu (s : State) : (enterSafe s).vdu = s.vdu := by
  unfold enterSafe
  simp
@[simp] theorem enterSafe_clock (s : State) : (enterSafe s).clock = s.clock := by
  unfold enterSafe
  simp
@[simp] theorem enterSafe_choices (s : State) : (enterSafe s).choices = s.choices := by
  unfold enterSafe
  simp
@[simp] theorem enterSafe_arrived (s : State) : (enterSafe s).arrived = s.arrived := by
  unfold enterSafe
  simp
@[simp] theorem enterSafe_taken (s : State) : (enterSafe s).taken = s.taken := by
  unfold enterSafe
  simp
@[simp] theorem enterSafe_pending (s : State) : (enterSafe s).pending = s.pending := by
  unfold enterSafe
  simp

@[simp] theorem leaveSafe_resetHeld (s : State) : (leaveSafe s).resetHeld = s.resetHeld := by
  unfold leaveSafe
  try dsimp only
  (repeat' split) <;> simp
@[simp] theorem leaveSafe_rli (s : State) : (leaveSafe s).rli = s.rli := by
  unfold leaveSafe
  try dsimp only
  (repeat' split) <;> simp
@[simp] theorem leaveSafe_oi (s : State) : (leaveSafe s).oi = s.oi := by
  unfold leaveSafe
  try dsimp only
  (repeat' split) <;> simp
@[simp] theorem leaveSafe_clu (s : State) : (leaveSafe s).clu = s.clu := by
  unfold leaveSafe
  try dsimp only
  (repeat' split) <;> simp
@[simp] theorem leaveSafe_ckr (s : State) : (leaveSafe s).ckr = s.ckr := by
  unfold leaveSafe
  try dsimp only
  (repeat' split) <;> simp
@[simp] theorem leaveSafe_ltu (s : State) : (leaveSafe s).ltu = s.ltu := by
  unfold leaveSafe
  try dsimp only
  (repeat' split) <;> simp
@[simp] theorem leaveSafe_csu (s : State) : (leaveSafe s).csu = s.csu := by
  unfold leaveSafe
  try dsimp only
  (repeat' split) <;> simp
@[simp] theorem leaveSafe_vdu (s : State) : (leaveSafe s).vdu = s.vdu := by
  unfold leaveSafe
  try dsimp only
  (repeat' split) <;> simp
@[simp] theorem leaveSafe_opu (s : State) : (leaveSafe s).opu = s.opu := by
  unfold leaveSafe
  try dsimp only
  (repeat' split) <;> simp
@[simp] theorem leaveSafe_clock (s : State) : (leaveSafe s).clock = s.clock := by
  unfold leaveSafe
  try dsimp only
  (repeat' split) <;> simp
@[simp] theorem leaveSafe_choices (s : State) : (leaveSafe s).choices = s.choices := by
  unfold leaveSafe
  try dsimp only
  (repeat' split) <;> simp
@[simp] theorem leaveSafe_arrived (s : State) : (leaveSafe s).arrived = s.arrived := by
  unfold leaveSafe
  try dsimp only
  (repeat' split) <;> simp
@[simp] theorem leaveSafe_taken (s : State) : (leaveSafe s).taken = s.taken := by
  unfold leaveSafe
  try dsimp only
  (repeat' split) <;> simp
@[simp] theorem leaveSafe_pending (s : State) : (leaveSafe s).pending = s.pending := by
  unfold leaveSafe
  try dsimp only
  (repeat' split) <;> simp

end Sys2Proof.Machine
end

