-- ==== Sys2Proof/Laws/Verdicts.lean ====
section
/-! SUPPORT. The blocks that each operation of the Verdict Unit leaves as they are. -/

namespace Sys2Proof.Machine

@[simp] theorem formVerdict_resetHeld (c : VerdictContent) (s : State) : (formVerdict c s).resetHeld = s.resetHeld := by
  unfold formVerdict
  simp
@[simp] theorem formVerdict_oi (c : VerdictContent) (s : State) : (formVerdict c s).oi = s.oi := by
  unfold formVerdict
  simp
@[simp] theorem formVerdict_clu (c : VerdictContent) (s : State) : (formVerdict c s).clu = s.clu := by
  unfold formVerdict
  simp
@[simp] theorem formVerdict_ckr (c : VerdictContent) (s : State) : (formVerdict c s).ckr = s.ckr := by
  unfold formVerdict
  simp
@[simp] theorem formVerdict_spu (c : VerdictContent) (s : State) : (formVerdict c s).spu = s.spu := by
  unfold formVerdict
  simp
@[simp] theorem formVerdict_bem (c : VerdictContent) (s : State) : (formVerdict c s).bem = s.bem := by
  unfold formVerdict
  simp
@[simp] theorem formVerdict_ltu (c : VerdictContent) (s : State) : (formVerdict c s).ltu = s.ltu := by
  unfold formVerdict
  simp
@[simp] theorem formVerdict_csu (c : VerdictContent) (s : State) : (formVerdict c s).csu = s.csu := by
  unfold formVerdict
  simp
@[simp] theorem formVerdict_opu (c : VerdictContent) (s : State) : (formVerdict c s).opu = s.opu := by
  unfold formVerdict
  simp
@[simp] theorem formVerdict_clock (c : VerdictContent) (s : State) : (formVerdict c s).clock = s.clock := by
  unfold formVerdict
  simp
@[simp] theorem formVerdict_choices (c : VerdictContent) (s : State) : (formVerdict c s).choices = s.choices := by
  unfold formVerdict
  simp
@[simp] theorem formVerdict_arrived (c : VerdictContent) (s : State) : (formVerdict c s).arrived = s.arrived := by
  unfold formVerdict
  simp
@[simp] theorem formVerdict_taken (c : VerdictContent) (s : State) : (formVerdict c s).taken = s.taken := by
  unfold formVerdict
  simp
@[simp] theorem formVerdict_pending (c : VerdictContent) (s : State) : (formVerdict c s).pending = s.pending := by
  unfold formVerdict
  simp

@[simp] theorem takeSummary_resetHeld (s : State) : (takeSummary s).resetHeld = s.resetHeld := by
  unfold takeSummary
  try dsimp only
  (repeat' split) <;> simp
@[simp] theorem takeSummary_oi (s : State) : (takeSummary s).oi = s.oi := by
  unfold takeSummary
  try dsimp only
  (repeat' split) <;> simp
@[simp] theorem takeSummary_clu (s : State) : (takeSummary s).clu = s.clu := by
  unfold takeSummary
  try dsimp only
  (repeat' split) <;> simp
@[simp] theorem takeSummary_ckr (s : State) : (takeSummary s).ckr = s.ckr := by
  unfold takeSummary
  try dsimp only
  (repeat' split) <;> simp
@[simp] theorem takeSummary_spu (s : State) : (takeSummary s).spu = s.spu := by
  unfold takeSummary
  try dsimp only
  (repeat' split) <;> simp
@[simp] theorem takeSummary_bem (s : State) : (takeSummary s).bem = s.bem := by
  unfold takeSummary
  try dsimp only
  (repeat' split) <;> simp
@[simp] theorem takeSummary_ltu (s : State) : (takeSummary s).ltu = s.ltu := by
  unfold takeSummary
  try dsimp only
  (repeat' split) <;> simp
@[simp] theorem takeSummary_csu (s : State) : (takeSummary s).csu = s.csu := by
  unfold takeSummary
  try dsimp only
  (repeat' split) <;> simp
@[simp] theorem takeSummary_opu (s : State) : (takeSummary s).opu = s.opu := by
  unfold takeSummary
  try dsimp only
  (repeat' split) <;> simp
@[simp] theorem takeSummary_clock (s : State) : (takeSummary s).clock = s.clock := by
  unfold takeSummary
  try dsimp only
  (repeat' split) <;> simp
@[simp] theorem takeSummary_choices (s : State) : (takeSummary s).choices = s.choices := by
  unfold takeSummary
  try dsimp only
  (repeat' split) <;> simp
@[simp] theorem takeSummary_arrived (s : State) : (takeSummary s).arrived = s.arrived := by
  unfold takeSummary
  try dsimp only
  (repeat' split) <;> simp
@[simp] theorem takeSummary_taken (s : State) : (takeSummary s).taken = s.taken := by
  unfold takeSummary
  try dsimp only
  (repeat' split) <;> simp
@[simp] theorem takeSummary_pending (s : State) : (takeSummary s).pending = s.pending := by
  unfold takeSummary
  try dsimp only
  (repeat' split) <;> simp

@[simp] theorem emptySummary_resetHeld (s : State) : (emptySummary s).resetHeld = s.resetHeld := by
  unfold emptySummary
  simp
@[simp] theorem emptySummary_rli (s : State) : (emptySummary s).rli = s.rli := by
  unfold emptySummary
  simp
@[simp] theorem emptySummary_oi (s : State) : (emptySummary s).oi = s.oi := by
  unfold emptySummary
  simp
@[simp] theorem emptySummary_clu (s : State) : (emptySummary s).clu = s.clu := by
  unfold emptySummary
  simp
@[simp] theorem emptySummary_ckr (s : State) : (emptySummary s).ckr = s.ckr := by
  unfold emptySummary
  simp
@[simp] theorem emptySummary_spu (s : State) : (emptySummary s).spu = s.spu := by
  unfold emptySummary
  simp
@[simp] theorem emptySummary_bem (s : State) : (emptySummary s).bem = s.bem := by
  unfold emptySummary
  simp
@[simp] theorem emptySummary_ltu (s : State) : (emptySummary s).ltu = s.ltu := by
  unfold emptySummary
  simp
@[simp] theorem emptySummary_csu (s : State) : (emptySummary s).csu = s.csu := by
  unfold emptySummary
  simp
@[simp] theorem emptySummary_opu (s : State) : (emptySummary s).opu = s.opu := by
  unfold emptySummary
  simp
@[simp] theorem emptySummary_clock (s : State) : (emptySummary s).clock = s.clock := by
  unfold emptySummary
  simp
@[simp] theorem emptySummary_choices (s : State) : (emptySummary s).choices = s.choices := by
  unfold emptySummary
  simp
@[simp] theorem emptySummary_arrived (s : State) : (emptySummary s).arrived = s.arrived := by
  unfold emptySummary
  simp
@[simp] theorem emptySummary_taken (s : State) : (emptySummary s).taken = s.taken := by
  unfold emptySummary
  simp
@[simp] theorem emptySummary_pending (s : State) : (emptySummary s).pending = s.pending := by
  unfold emptySummary
  simp

end Sys2Proof.Machine
end

