-- ==== Sys2Proof/Laws/Check.lean ====
section
/-! SUPPORT. The blocks that each operation of the Check Runner and the Order Intake leaves as they are. -/

namespace Sys2Proof.Machine

@[simp] theorem updateCheck_resetHeld (f : CheckRecord → CheckRecord) (s : State) : (updateCheck f s).resetHeld = s.resetHeld := by
  unfold updateCheck
  simp
@[simp] theorem updateCheck_rli (f : CheckRecord → CheckRecord) (s : State) : (updateCheck f s).rli = s.rli := by
  unfold updateCheck
  simp
@[simp] theorem updateCheck_oi (f : CheckRecord → CheckRecord) (s : State) : (updateCheck f s).oi = s.oi := by
  unfold updateCheck
  simp
@[simp] theorem updateCheck_clu (f : CheckRecord → CheckRecord) (s : State) : (updateCheck f s).clu = s.clu := by
  unfold updateCheck
  simp
@[simp] theorem updateCheck_spu (f : CheckRecord → CheckRecord) (s : State) : (updateCheck f s).spu = s.spu := by
  unfold updateCheck
  simp
@[simp] theorem updateCheck_bem (f : CheckRecord → CheckRecord) (s : State) : (updateCheck f s).bem = s.bem := by
  unfold updateCheck
  simp
@[simp] theorem updateCheck_ltu (f : CheckRecord → CheckRecord) (s : State) : (updateCheck f s).ltu = s.ltu := by
  unfold updateCheck
  simp
@[simp] theorem updateCheck_csu (f : CheckRecord → CheckRecord) (s : State) : (updateCheck f s).csu = s.csu := by
  unfold updateCheck
  simp
@[simp] theorem updateCheck_vdu (f : CheckRecord → CheckRecord) (s : State) : (updateCheck f s).vdu = s.vdu := by
  unfold updateCheck
  simp
@[simp] theorem updateCheck_opu (f : CheckRecord → CheckRecord) (s : State) : (updateCheck f s).opu = s.opu := by
  unfold updateCheck
  simp
@[simp] theorem updateCheck_clock (f : CheckRecord → CheckRecord) (s : State) : (updateCheck f s).clock = s.clock := by
  unfold updateCheck
  simp
@[simp] theorem updateCheck_choices (f : CheckRecord → CheckRecord) (s : State) : (updateCheck f s).choices = s.choices := by
  unfold updateCheck
  simp
@[simp] theorem updateCheck_arrived (f : CheckRecord → CheckRecord) (s : State) : (updateCheck f s).arrived = s.arrived := by
  unfold updateCheck
  simp
@[simp] theorem updateCheck_taken (f : CheckRecord → CheckRecord) (s : State) : (updateCheck f s).taken = s.taken := by
  unfold updateCheck
  simp
@[simp] theorem updateCheck_pending (f : CheckRecord → CheckRecord) (s : State) : (updateCheck f s).pending = s.pending := by
  unfold updateCheck
  simp

@[simp] theorem updateChannel_resetHeld (n : Nat) (f : LightChannel → LightChannel) (s : State) : (updateChannel n f s).resetHeld = s.resetHeld := by
  unfold updateChannel
  simp
@[simp] theorem updateChannel_rli (n : Nat) (f : LightChannel → LightChannel) (s : State) : (updateChannel n f s).rli = s.rli := by
  unfold updateChannel
  simp
@[simp] theorem updateChannel_oi (n : Nat) (f : LightChannel → LightChannel) (s : State) : (updateChannel n f s).oi = s.oi := by
  unfold updateChannel
  simp
@[simp] theorem updateChannel_clu (n : Nat) (f : LightChannel → LightChannel) (s : State) : (updateChannel n f s).clu = s.clu := by
  unfold updateChannel
  simp
@[simp] theorem updateChannel_ckr (n : Nat) (f : LightChannel → LightChannel) (s : State) : (updateChannel n f s).ckr = s.ckr := by
  unfold updateChannel
  simp
@[simp] theorem updateChannel_spu (n : Nat) (f : LightChannel → LightChannel) (s : State) : (updateChannel n f s).spu = s.spu := by
  unfold updateChannel
  simp
@[simp] theorem updateChannel_bem (n : Nat) (f : LightChannel → LightChannel) (s : State) : (updateChannel n f s).bem = s.bem := by
  unfold updateChannel
  simp
@[simp] theorem updateChannel_csu (n : Nat) (f : LightChannel → LightChannel) (s : State) : (updateChannel n f s).csu = s.csu := by
  unfold updateChannel
  simp
@[simp] theorem updateChannel_vdu (n : Nat) (f : LightChannel → LightChannel) (s : State) : (updateChannel n f s).vdu = s.vdu := by
  unfold updateChannel
  simp
@[simp] theorem updateChannel_opu (n : Nat) (f : LightChannel → LightChannel) (s : State) : (updateChannel n f s).opu = s.opu := by
  unfold updateChannel
  simp
@[simp] theorem updateChannel_clock (n : Nat) (f : LightChannel → LightChannel) (s : State) : (updateChannel n f s).clock = s.clock := by
  unfold updateChannel
  simp
@[simp] theorem updateChannel_choices (n : Nat) (f : LightChannel → LightChannel) (s : State) : (updateChannel n f s).choices = s.choices := by
  unfold updateChannel
  simp
@[simp] theorem updateChannel_arrived (n : Nat) (f : LightChannel → LightChannel) (s : State) : (updateChannel n f s).arrived = s.arrived := by
  unfold updateChannel
  simp
@[simp] theorem updateChannel_taken (n : Nat) (f : LightChannel → LightChannel) (s : State) : (updateChannel n f s).taken = s.taken := by
  unfold updateChannel
  simp
@[simp] theorem updateChannel_pending (n : Nat) (f : LightChannel → LightChannel) (s : State) : (updateChannel n f s).pending = s.pending := by
  unfold updateChannel
  simp

@[simp] theorem dropArrived_resetHeld (p : Instr → Bool) (s : State) : (dropArrived p s).resetHeld = s.resetHeld := by
  unfold dropArrived
  simp
@[simp] theorem dropArrived_rli (p : Instr → Bool) (s : State) : (dropArrived p s).rli = s.rli := by
  unfold dropArrived
  simp
@[simp] theorem dropArrived_oi (p : Instr → Bool) (s : State) : (dropArrived p s).oi = s.oi := by
  unfold dropArrived
  simp
@[simp] theorem dropArrived_clu (p : Instr → Bool) (s : State) : (dropArrived p s).clu = s.clu := by
  unfold dropArrived
  simp
@[simp] theorem dropArrived_ckr (p : Instr → Bool) (s : State) : (dropArrived p s).ckr = s.ckr := by
  unfold dropArrived
  simp
@[simp] theorem dropArrived_spu (p : Instr → Bool) (s : State) : (dropArrived p s).spu = s.spu := by
  unfold dropArrived
  simp
@[simp] theorem dropArrived_bem (p : Instr → Bool) (s : State) : (dropArrived p s).bem = s.bem := by
  unfold dropArrived
  simp
@[simp] theorem dropArrived_ltu (p : Instr → Bool) (s : State) : (dropArrived p s).ltu = s.ltu := by
  unfold dropArrived
  simp
@[simp] theorem dropArrived_csu (p : Instr → Bool) (s : State) : (dropArrived p s).csu = s.csu := by
  unfold dropArrived
  simp
@[simp] theorem dropArrived_vdu (p : Instr → Bool) (s : State) : (dropArrived p s).vdu = s.vdu := by
  unfold dropArrived
  simp
@[simp] theorem dropArrived_opu (p : Instr → Bool) (s : State) : (dropArrived p s).opu = s.opu := by
  unfold dropArrived
  simp
@[simp] theorem dropArrived_clock (p : Instr → Bool) (s : State) : (dropArrived p s).clock = s.clock := by
  unfold dropArrived
  simp
@[simp] theorem dropArrived_choices (p : Instr → Bool) (s : State) : (dropArrived p s).choices = s.choices := by
  unfold dropArrived
  simp
@[simp] theorem dropArrived_taken (p : Instr → Bool) (s : State) : (dropArrived p s).taken = s.taken := by
  unfold dropArrived
  simp
@[simp] theorem dropArrived_pending (p : Instr → Bool) (s : State) : (dropArrived p s).pending = s.pending := by
  unfold dropArrived
  simp

@[simp] theorem stopWindow_resetHeld (s : State) : (stopWindow s).resetHeld = s.resetHeld := by
  unfold stopWindow
  simp
@[simp] theorem stopWindow_rli (s : State) : (stopWindow s).rli = s.rli := by
  unfold stopWindow
  simp
@[simp] theorem stopWindow_oi (s : State) : (stopWindow s).oi = s.oi := by
  unfold stopWindow
  simp
@[simp] theorem stopWindow_clu (s : State) : (stopWindow s).clu = s.clu := by
  unfold stopWindow
  simp
@[simp] theorem stopWindow_ckr (s : State) : (stopWindow s).ckr = s.ckr := by
  unfold stopWindow
  simp
@[simp] theorem stopWindow_spu (s : State) : (stopWindow s).spu = s.spu := by
  unfold stopWindow
  simp
@[simp] theorem stopWindow_bem (s : State) : (stopWindow s).bem = s.bem := by
  unfold stopWindow
  simp
@[simp] theorem stopWindow_ltu (s : State) : (stopWindow s).ltu = s.ltu := by
  unfold stopWindow
  simp
@[simp] theorem stopWindow_vdu (s : State) : (stopWindow s).vdu = s.vdu := by
  unfold stopWindow
  simp
@[simp] theorem stopWindow_opu (s : State) : (stopWindow s).opu = s.opu := by
  unfold stopWindow
  simp
@[simp] theorem stopWindow_clock (s : State) : (stopWindow s).clock = s.clock := by
  unfold stopWindow
  simp
@[simp] theorem stopWindow_choices (s : State) : (stopWindow s).choices = s.choices := by
  unfold stopWindow
  simp
@[simp] theorem stopWindow_taken (s : State) : (stopWindow s).taken = s.taken := by
  unfold stopWindow
  simp
@[simp] theorem stopWindow_pending (s : State) : (stopWindow s).pending = s.pending := by
  unfold stopWindow
  simp

@[simp] theorem stopMeasurement_resetHeld (m : Measurement) (s : State) : (stopMeasurement m s).resetHeld = s.resetHeld := by
  unfold stopMeasurement
  try dsimp only
  (repeat' split) <;> simp
@[simp] theorem stopMeasurement_rli (m : Measurement) (s : State) : (stopMeasurement m s).rli = s.rli := by
  unfold stopMeasurement
  try dsimp only
  (repeat' split) <;> simp
@[simp] theorem stopMeasurement_oi (m : Measurement) (s : State) : (stopMeasurement m s).oi = s.oi := by
  unfold stopMeasurement
  try dsimp only
  (repeat' split) <;> simp
@[simp] theorem stopMeasurement_clu (m : Measurement) (s : State) : (stopMeasurement m s).clu = s.clu := by
  unfold stopMeasurement
  try dsimp only
  (repeat' split) <;> simp
@[simp] theorem stopMeasurement_ckr (m : Measurement) (s : State) : (stopMeasurement m s).ckr = s.ckr := by
  unfold stopMeasurement
  try dsimp only
  (repeat' split) <;> simp
@[simp] theorem stopMeasurement_spu (m : Measurement) (s : State) : (stopMeasurement m s).spu = s.spu := by
  unfold stopMeasurement
  try dsimp only
  (repeat' split) <;> simp
@[simp] theorem stopMeasurement_bem (m : Measurement) (s : State) : (stopMeasurement m s).bem = s.bem := by
  unfold stopMeasurement
  try dsimp only
  (repeat' split) <;> simp
@[simp] theorem stopMeasurement_vdu (m : Measurement) (s : State) : (stopMeasurement m s).vdu = s.vdu := by
  unfold stopMeasurement
  try dsimp only
  (repeat' split) <;> simp
@[simp] theorem stopMeasurement_opu (m : Measurement) (s : State) : (stopMeasurement m s).opu = s.opu := by
  unfold stopMeasurement
  try dsimp only
  (repeat' split) <;> simp
@[simp] theorem stopMeasurement_clock (m : Measurement) (s : State) : (stopMeasurement m s).clock = s.clock := by
  unfold stopMeasurement
  try dsimp only
  (repeat' split) <;> simp
@[simp] theorem stopMeasurement_choices (m : Measurement) (s : State) : (stopMeasurement m s).choices = s.choices := by
  unfold stopMeasurement
  try dsimp only
  (repeat' split) <;> simp
@[simp] theorem stopMeasurement_taken (m : Measurement) (s : State) : (stopMeasurement m s).taken = s.taken := by
  unfold stopMeasurement
  try dsimp only
  (repeat' split) <;> simp
@[simp] theorem stopMeasurement_pending (m : Measurement) (s : State) : (stopMeasurement m s).pending = s.pending := by
  unfold stopMeasurement
  try dsimp only
  (repeat' split) <;> simp

@[simp] theorem stopWork_resetHeld (c : CheckRecord) (s : State) : (stopWork c s).resetHeld = s.resetHeld := by
  unfold stopWork
  try dsimp only
  (repeat' split) <;> simp
@[simp] theorem stopWork_rli (c : CheckRecord) (s : State) : (stopWork c s).rli = s.rli := by
  unfold stopWork
  try dsimp only
  (repeat' split) <;> simp
@[simp] theorem stopWork_oi (c : CheckRecord) (s : State) : (stopWork c s).oi = s.oi := by
  unfold stopWork
  try dsimp only
  (repeat' split) <;> simp
@[simp] theorem stopWork_clu (c : CheckRecord) (s : State) : (stopWork c s).clu = s.clu := by
  unfold stopWork
  try dsimp only
  (repeat' split) <;> simp
@[simp] theorem stopWork_vdu (c : CheckRecord) (s : State) : (stopWork c s).vdu = s.vdu := by
  unfold stopWork
  try dsimp only
  (repeat' split) <;> simp
@[simp] theorem stopWork_clock (c : CheckRecord) (s : State) : (stopWork c s).clock = s.clock := by
  unfold stopWork
  try dsimp only
  (repeat' split) <;> simp
@[simp] theorem stopWork_taken (c : CheckRecord) (s : State) : (stopWork c s).taken = s.taken := by
  unfold stopWork
  try dsimp only
  (repeat' split) <;> simp
@[simp] theorem stopWork_pending (c : CheckRecord) (s : State) : (stopWork c s).pending = s.pending := by
  unfold stopWork
  try dsimp only
  (repeat' split) <;> simp

@[simp] theorem applyRestores_resetHeld (c : CheckRecord) (s : State) : (applyRestores c s).resetHeld = s.resetHeld := by
  unfold applyRestores
  exact (foldl_keeps (·.resetHeld) _ (fun s e => applyRestore_resetHeld e s) _ _).trans (by split <;> simp)
@[simp] theorem applyRestores_rli (c : CheckRecord) (s : State) : (applyRestores c s).rli = s.rli := by
  unfold applyRestores
  exact (foldl_keeps (·.rli) _ (fun s e => applyRestore_rli e s) _ _).trans (by split <;> simp)
@[simp] theorem applyRestores_oi (c : CheckRecord) (s : State) : (applyRestores c s).oi = s.oi := by
  unfold applyRestores
  exact (foldl_keeps (·.oi) _ (fun s e => applyRestore_oi e s) _ _).trans (by split <;> simp)
@[simp] theorem applyRestores_clu (c : CheckRecord) (s : State) : (applyRestores c s).clu = s.clu := by
  unfold applyRestores
  exact (foldl_keeps (·.clu) _ (fun s e => applyRestore_clu e s) _ _).trans (by split <;> simp)
@[simp] theorem applyRestores_spu (c : CheckRecord) (s : State) : (applyRestores c s).spu = s.spu := by
  unfold applyRestores
  exact (foldl_keeps (·.spu) _ (fun s e => applyRestore_spu e s) _ _).trans (by split <;> simp)
@[simp] theorem applyRestores_ltu (c : CheckRecord) (s : State) : (applyRestores c s).ltu = s.ltu := by
  unfold applyRestores
  exact (foldl_keeps (·.ltu) _ (fun s e => applyRestore_ltu e s) _ _).trans (by split <;> simp)
@[simp] theorem applyRestores_csu (c : CheckRecord) (s : State) : (applyRestores c s).csu = s.csu := by
  unfold applyRestores
  exact (foldl_keeps (·.csu) _ (fun s e => applyRestore_csu e s) _ _).trans (by split <;> simp)
@[simp] theorem applyRestores_vdu (c : CheckRecord) (s : State) : (applyRestores c s).vdu = s.vdu := by
  unfold applyRestores
  exact (foldl_keeps (·.vdu) _ (fun s e => applyRestore_vdu e s) _ _).trans (by split <;> simp)
@[simp] theorem applyRestores_opu (c : CheckRecord) (s : State) : (applyRestores c s).opu = s.opu := by
  unfold applyRestores
  exact (foldl_keeps (·.opu) _ (fun s e => applyRestore_opu e s) _ _).trans (by split <;> simp)
@[simp] theorem applyRestores_clock (c : CheckRecord) (s : State) : (applyRestores c s).clock = s.clock := by
  unfold applyRestores
  exact (foldl_keeps (·.clock) _ (fun s e => applyRestore_clock e s) _ _).trans (by split <;> simp)
@[simp] theorem applyRestores_choices (c : CheckRecord) (s : State) : (applyRestores c s).choices = s.choices := by
  unfold applyRestores
  exact (foldl_keeps (·.choices) _ (fun s e => applyRestore_choices e s) _ _).trans (by split <;> simp)
@[simp] theorem applyRestores_arrived (c : CheckRecord) (s : State) : (applyRestores c s).arrived = s.arrived := by
  unfold applyRestores
  exact (foldl_keeps (·.arrived) _ (fun s e => applyRestore_arrived e s) _ _).trans (by split <;> simp)
@[simp] theorem applyRestores_taken (c : CheckRecord) (s : State) : (applyRestores c s).taken = s.taken := by
  unfold applyRestores
  exact (foldl_keeps (·.taken) _ (fun s e => applyRestore_taken e s) _ _).trans (by split <;> simp)
@[simp] theorem applyRestores_pending (c : CheckRecord) (s : State) : (applyRestores c s).pending = s.pending := by
  unfold applyRestores
  exact (foldl_keeps (·.pending) _ (fun s e => applyRestore_pending e s) _ _).trans (by split <;> simp)

@[simp] theorem endCheck_resetHeld (v : Option VerdictContent) (s : State) : (endCheck v s).resetHeld = s.resetHeld := by
  unfold endCheck
  try dsimp only
  (repeat' split) <;> simp
@[simp] theorem endCheck_oi (v : Option VerdictContent) (s : State) : (endCheck v s).oi = s.oi := by
  unfold endCheck
  try dsimp only
  (repeat' split) <;> simp
@[simp] theorem endCheck_clock (v : Option VerdictContent) (s : State) : (endCheck v s).clock = s.clock := by
  unfold endCheck
  try dsimp only
  (repeat' split) <;> simp
@[simp] theorem endCheck_taken (v : Option VerdictContent) (s : State) : (endCheck v s).taken = s.taken := by
  unfold endCheck
  try dsimp only
  (repeat' split) <;> simp
@[simp] theorem endCheck_pending (v : Option VerdictContent) (s : State) : (endCheck v s).pending = s.pending := by
  unfold endCheck
  try dsimp only
  (repeat' split) <;> simp

@[simp] theorem terminate_resetHeld (v : Verdict) (m : VerdictFlags → VerdictFlags) (s : State) : (terminate v m s).resetHeld = s.resetHeld := by
  unfold terminate
  try dsimp only
  (repeat' split) <;> simp
@[simp] theorem terminate_oi (v : Verdict) (m : VerdictFlags → VerdictFlags) (s : State) : (terminate v m s).oi = s.oi := by
  unfold terminate
  try dsimp only
  (repeat' split) <;> simp
@[simp] theorem terminate_clock (v : Verdict) (m : VerdictFlags → VerdictFlags) (s : State) : (terminate v m s).clock = s.clock := by
  unfold terminate
  try dsimp only
  (repeat' split) <;> simp
@[simp] theorem terminate_taken (v : Verdict) (m : VerdictFlags → VerdictFlags) (s : State) : (terminate v m s).taken = s.taken := by
  unfold terminate
  try dsimp only
  (repeat' split) <;> simp
@[simp] theorem terminate_pending (v : Verdict) (m : VerdictFlags → VerdictFlags) (s : State) : (terminate v m s).pending = s.pending := by
  unfold terminate
  try dsimp only
  (repeat' split) <;> simp

@[simp] theorem finishJudged_resetHeld (s : State) : (finishJudged s).resetHeld = s.resetHeld := by
  unfold finishJudged
  try dsimp only
  (repeat' split) <;> simp
@[simp] theorem finishJudged_oi (s : State) : (finishJudged s).oi = s.oi := by
  unfold finishJudged
  try dsimp only
  (repeat' split) <;> simp
@[simp] theorem finishJudged_clock (s : State) : (finishJudged s).clock = s.clock := by
  unfold finishJudged
  try dsimp only
  (repeat' split) <;> simp
@[simp] theorem finishJudged_taken (s : State) : (finishJudged s).taken = s.taken := by
  unfold finishJudged
  try dsimp only
  (repeat' split) <;> simp
@[simp] theorem finishJudged_pending (s : State) : (finishJudged s).pending = s.pending := by
  unfold finishJudged
  try dsimp only
  (repeat' split) <;> simp

@[simp] theorem formAll_resetHeld (xs : List VerdictContent) (s : State) : (formAll xs s).resetHeld = s.resetHeld := foldl_keeps (·.resetHeld) _ (fun s x => formVerdict_resetHeld x s) _ s
@[simp] theorem formAll_oi (xs : List VerdictContent) (s : State) : (formAll xs s).oi = s.oi := foldl_keeps (·.oi) _ (fun s x => formVerdict_oi x s) _ s
@[simp] theorem formAll_clu (xs : List VerdictContent) (s : State) : (formAll xs s).clu = s.clu := foldl_keeps (·.clu) _ (fun s x => formVerdict_clu x s) _ s
@[simp] theorem formAll_ckr (xs : List VerdictContent) (s : State) : (formAll xs s).ckr = s.ckr := foldl_keeps (·.ckr) _ (fun s x => formVerdict_ckr x s) _ s
@[simp] theorem formAll_spu (xs : List VerdictContent) (s : State) : (formAll xs s).spu = s.spu := foldl_keeps (·.spu) _ (fun s x => formVerdict_spu x s) _ s
@[simp] theorem formAll_bem (xs : List VerdictContent) (s : State) : (formAll xs s).bem = s.bem := foldl_keeps (·.bem) _ (fun s x => formVerdict_bem x s) _ s
@[simp] theorem formAll_ltu (xs : List VerdictContent) (s : State) : (formAll xs s).ltu = s.ltu := foldl_keeps (·.ltu) _ (fun s x => formVerdict_ltu x s) _ s
@[simp] theorem formAll_csu (xs : List VerdictContent) (s : State) : (formAll xs s).csu = s.csu := foldl_keeps (·.csu) _ (fun s x => formVerdict_csu x s) _ s
@[simp] theorem formAll_opu (xs : List VerdictContent) (s : State) : (formAll xs s).opu = s.opu := foldl_keeps (·.opu) _ (fun s x => formVerdict_opu x s) _ s
@[simp] theorem formAll_clock (xs : List VerdictContent) (s : State) : (formAll xs s).clock = s.clock := foldl_keeps (·.clock) _ (fun s x => formVerdict_clock x s) _ s
@[simp] theorem formAll_choices (xs : List VerdictContent) (s : State) : (formAll xs s).choices = s.choices := foldl_keeps (·.choices) _ (fun s x => formVerdict_choices x s) _ s
@[simp] theorem formAll_arrived (xs : List VerdictContent) (s : State) : (formAll xs s).arrived = s.arrived := foldl_keeps (·.arrived) _ (fun s x => formVerdict_arrived x s) _ s
@[simp] theorem formAll_taken (xs : List VerdictContent) (s : State) : (formAll xs s).taken = s.taken := foldl_keeps (·.taken) _ (fun s x => formVerdict_taken x s) _ s
@[simp] theorem formAll_pending (xs : List VerdictContent) (s : State) : (formAll xs s).pending = s.pending := foldl_keeps (·.pending) _ (fun s x => formVerdict_pending x s) _ s

@[simp] theorem flushQueue_resetHeld (b : Bool) (s : State) : (flushQueue b s).resetHeld = s.resetHeld := by
  unfold flushQueue
  dsimp only
  (repeat' split) <;> simp
@[simp] theorem flushQueue_clu (b : Bool) (s : State) : (flushQueue b s).clu = s.clu := by
  unfold flushQueue
  dsimp only
  (repeat' split) <;> simp
@[simp] theorem flushQueue_ckr (b : Bool) (s : State) : (flushQueue b s).ckr = s.ckr := by
  unfold flushQueue
  dsimp only
  (repeat' split) <;> simp
@[simp] theorem flushQueue_spu (b : Bool) (s : State) : (flushQueue b s).spu = s.spu := by
  unfold flushQueue
  dsimp only
  (repeat' split) <;> simp
@[simp] theorem flushQueue_bem (b : Bool) (s : State) : (flushQueue b s).bem = s.bem := by
  unfold flushQueue
  dsimp only
  (repeat' split) <;> simp
@[simp] theorem flushQueue_ltu (b : Bool) (s : State) : (flushQueue b s).ltu = s.ltu := by
  unfold flushQueue
  dsimp only
  (repeat' split) <;> simp
@[simp] theorem flushQueue_csu (b : Bool) (s : State) : (flushQueue b s).csu = s.csu := by
  unfold flushQueue
  dsimp only
  (repeat' split) <;> simp
@[simp] theorem flushQueue_opu (b : Bool) (s : State) : (flushQueue b s).opu = s.opu := by
  unfold flushQueue
  dsimp only
  (repeat' split) <;> simp
@[simp] theorem flushQueue_clock (b : Bool) (s : State) : (flushQueue b s).clock = s.clock := by
  unfold flushQueue
  dsimp only
  (repeat' split) <;> simp
@[simp] theorem flushQueue_arrived (b : Bool) (s : State) : (flushQueue b s).arrived = s.arrived := by
  unfold flushQueue
  dsimp only
  (repeat' split) <;> simp
@[simp] theorem flushQueue_pending (b : Bool) (s : State) : (flushQueue b s).pending = s.pending := by
  unfold flushQueue
  dsimp only
  (repeat' split) <;> simp

@[simp] theorem stationIdle_resetHeld (s : State) : (stationIdle s).resetHeld = s.resetHeld := by
  unfold stationIdle
  try dsimp only
  (repeat' split) <;> simp
@[simp] theorem stationIdle_rli (s : State) : (stationIdle s).rli = s.rli := by
  unfold stationIdle
  try dsimp only
  (repeat' split) <;> simp
@[simp] theorem stationIdle_clu (s : State) : (stationIdle s).clu = s.clu := by
  unfold stationIdle
  try dsimp only
  (repeat' split) <;> simp
@[simp] theorem stationIdle_ckr (s : State) : (stationIdle s).ckr = s.ckr := by
  unfold stationIdle
  try dsimp only
  (repeat' split) <;> simp
@[simp] theorem stationIdle_spu (s : State) : (stationIdle s).spu = s.spu := by
  unfold stationIdle
  try dsimp only
  (repeat' split) <;> simp
@[simp] theorem stationIdle_bem (s : State) : (stationIdle s).bem = s.bem := by
  unfold stationIdle
  try dsimp only
  (repeat' split) <;> simp
@[simp] theorem stationIdle_ltu (s : State) : (stationIdle s).ltu = s.ltu := by
  unfold stationIdle
  try dsimp only
  (repeat' split) <;> simp
@[simp] theorem stationIdle_csu (s : State) : (stationIdle s).csu = s.csu := by
  unfold stationIdle
  try dsimp only
  (repeat' split) <;> simp
@[simp] theorem stationIdle_vdu (s : State) : (stationIdle s).vdu = s.vdu := by
  unfold stationIdle
  try dsimp only
  (repeat' split) <;> simp
@[simp] theorem stationIdle_opu (s : State) : (stationIdle s).opu = s.opu := by
  unfold stationIdle
  try dsimp only
  (repeat' split) <;> simp
@[simp] theorem stationIdle_clock (s : State) : (stationIdle s).clock = s.clock := by
  unfold stationIdle
  try dsimp only
  (repeat' split) <;> simp
@[simp] theorem stationIdle_choices (s : State) : (stationIdle s).choices = s.choices := by
  unfold stationIdle
  try dsimp only
  (repeat' split) <;> simp
@[simp] theorem stationIdle_arrived (s : State) : (stationIdle s).arrived = s.arrived := by
  unfold stationIdle
  try dsimp only
  (repeat' split) <;> simp
@[simp] theorem stationIdle_taken (s : State) : (stationIdle s).taken = s.taken := by
  unfold stationIdle
  try dsimp only
  (repeat' split) <;> simp
@[simp] theorem stationIdle_pending (s : State) : (stationIdle s).pending = s.pending := by
  unfold stationIdle
  try dsimp only
  (repeat' split) <;> simp

@[simp] theorem raiseHold.enter_resetHeld (h : HoldCause) (s : State) : (raiseHold.enter h s).resetHeld = s.resetHeld := by
  unfold raiseHold.enter
  simp
@[simp] theorem raiseHold.enter_clock (h : HoldCause) (s : State) : (raiseHold.enter h s).clock = s.clock := by
  unfold raiseHold.enter
  simp
@[simp] theorem raiseHold.enter_pending (h : HoldCause) (s : State) : (raiseHold.enter h s).pending = s.pending := by
  unfold raiseHold.enter
  simp

@[simp] theorem raiseHold_resetHeld (h : HoldCause) (s : State) : (raiseHold h s).resetHeld = s.resetHeld := by
  unfold raiseHold
  try dsimp only
  (repeat' split) <;> simp
@[simp] theorem raiseHold_clock (h : HoldCause) (s : State) : (raiseHold h s).clock = s.clock := by
  unfold raiseHold
  try dsimp only
  (repeat' split) <;> simp
@[simp] theorem raiseHold_pending (h : HoldCause) (s : State) : (raiseHold h s).pending = s.pending := by
  unfold raiseHold
  try dsimp only
  (repeat' split) <;> simp

@[simp] theorem endDut_resetHeld (b : Bool) (s : State) : (endDut b s).resetHeld = s.resetHeld := by
  unfold endDut
  simp
@[simp] theorem endDut_clock (b : Bool) (s : State) : (endDut b s).clock = s.clock := by
  unfold endDut
  simp
@[simp] theorem endDut_pending (b : Bool) (s : State) : (endDut b s).pending = s.pending := by
  unfold endDut
  simp

@[simp] theorem reportOn_resetHeld (b : Bool) (s : State) : (reportOn b s).resetHeld = s.resetHeld := by
  unfold reportOn
  try dsimp only
  (repeat' split) <;> simp
@[simp] theorem reportOn_rli (b : Bool) (s : State) : (reportOn b s).rli = s.rli := by
  unfold reportOn
  try dsimp only
  (repeat' split) <;> simp
@[simp] theorem reportOn_oi (b : Bool) (s : State) : (reportOn b s).oi = s.oi := by
  unfold reportOn
  try dsimp only
  (repeat' split) <;> simp
@[simp] theorem reportOn_clu (b : Bool) (s : State) : (reportOn b s).clu = s.clu := by
  unfold reportOn
  try dsimp only
  (repeat' split) <;> simp
@[simp] theorem reportOn_spu (b : Bool) (s : State) : (reportOn b s).spu = s.spu := by
  unfold reportOn
  try dsimp only
  (repeat' split) <;> simp
@[simp] theorem reportOn_bem (b : Bool) (s : State) : (reportOn b s).bem = s.bem := by
  unfold reportOn
  try dsimp only
  (repeat' split) <;> simp
@[simp] theorem reportOn_ltu (b : Bool) (s : State) : (reportOn b s).ltu = s.ltu := by
  unfold reportOn
  try dsimp only
  (repeat' split) <;> simp
@[simp] theorem reportOn_csu (b : Bool) (s : State) : (reportOn b s).csu = s.csu := by
  unfold reportOn
  try dsimp only
  (repeat' split) <;> simp
@[simp] theorem reportOn_vdu (b : Bool) (s : State) : (reportOn b s).vdu = s.vdu := by
  unfold reportOn
  try dsimp only
  (repeat' split) <;> simp
@[simp] theorem reportOn_opu (b : Bool) (s : State) : (reportOn b s).opu = s.opu := by
  unfold reportOn
  try dsimp only
  (repeat' split) <;> simp
@[simp] theorem reportOn_clock (b : Bool) (s : State) : (reportOn b s).clock = s.clock := by
  unfold reportOn
  try dsimp only
  (repeat' split) <;> simp
@[simp] theorem reportOn_choices (b : Bool) (s : State) : (reportOn b s).choices = s.choices := by
  unfold reportOn
  try dsimp only
  (repeat' split) <;> simp
@[simp] theorem reportOn_arrived (b : Bool) (s : State) : (reportOn b s).arrived = s.arrived := by
  unfold reportOn
  try dsimp only
  (repeat' split) <;> simp
@[simp] theorem reportOn_taken (b : Bool) (s : State) : (reportOn b s).taken = s.taken := by
  unfold reportOn
  try dsimp only
  (repeat' split) <;> simp
@[simp] theorem reportOn_pending (b : Bool) (s : State) : (reportOn b s).pending = s.pending := by
  unfold reportOn
  try dsimp only
  (repeat' split) <;> simp

@[simp] theorem reportOff_resetHeld (s : State) : (reportOff s).resetHeld = s.resetHeld := by
  unfold reportOff
  try dsimp only
  (repeat' split) <;> simp
@[simp] theorem reportOff_rli (s : State) : (reportOff s).rli = s.rli := by
  unfold reportOff
  try dsimp only
  (repeat' split) <;> simp
@[simp] theorem reportOff_oi (s : State) : (reportOff s).oi = s.oi := by
  unfold reportOff
  try dsimp only
  (repeat' split) <;> simp
@[simp] theorem reportOff_clu (s : State) : (reportOff s).clu = s.clu := by
  unfold reportOff
  try dsimp only
  (repeat' split) <;> simp
@[simp] theorem reportOff_spu (s : State) : (reportOff s).spu = s.spu := by
  unfold reportOff
  try dsimp only
  (repeat' split) <;> simp
@[simp] theorem reportOff_bem (s : State) : (reportOff s).bem = s.bem := by
  unfold reportOff
  try dsimp only
  (repeat' split) <;> simp
@[simp] theorem reportOff_ltu (s : State) : (reportOff s).ltu = s.ltu := by
  unfold reportOff
  try dsimp only
  (repeat' split) <;> simp
@[simp] theorem reportOff_csu (s : State) : (reportOff s).csu = s.csu := by
  unfold reportOff
  try dsimp only
  (repeat' split) <;> simp
@[simp] theorem reportOff_vdu (s : State) : (reportOff s).vdu = s.vdu := by
  unfold reportOff
  try dsimp only
  (repeat' split) <;> simp
@[simp] theorem reportOff_opu (s : State) : (reportOff s).opu = s.opu := by
  unfold reportOff
  try dsimp only
  (repeat' split) <;> simp
@[simp] theorem reportOff_clock (s : State) : (reportOff s).clock = s.clock := by
  unfold reportOff
  try dsimp only
  (repeat' split) <;> simp
@[simp] theorem reportOff_choices (s : State) : (reportOff s).choices = s.choices := by
  unfold reportOff
  try dsimp only
  (repeat' split) <;> simp
@[simp] theorem reportOff_arrived (s : State) : (reportOff s).arrived = s.arrived := by
  unfold reportOff
  try dsimp only
  (repeat' split) <;> simp
@[simp] theorem reportOff_taken (s : State) : (reportOff s).taken = s.taken := by
  unfold reportOff
  try dsimp only
  (repeat' split) <;> simp
@[simp] theorem reportOff_pending (s : State) : (reportOff s).pending = s.pending := by
  unfold reportOff
  try dsimp only
  (repeat' split) <;> simp

@[simp] theorem rampDone_resetHeld (s : State) : (rampDone s).resetHeld = s.resetHeld := by
  unfold rampDone
  try dsimp only
  (repeat' split) <;> simp
@[simp] theorem rampDone_oi (s : State) : (rampDone s).oi = s.oi := by
  unfold rampDone
  try dsimp only
  (repeat' split) <;> simp
@[simp] theorem rampDone_ltu (s : State) : (rampDone s).ltu = s.ltu := by
  unfold rampDone
  try dsimp only
  (repeat' split) <;> simp
@[simp] theorem rampDone_csu (s : State) : (rampDone s).csu = s.csu := by
  unfold rampDone
  try dsimp only
  (repeat' split) <;> simp
@[simp] theorem rampDone_vdu (s : State) : (rampDone s).vdu = s.vdu := by
  unfold rampDone
  try dsimp only
  (repeat' split) <;> simp
@[simp] theorem rampDone_clock (s : State) : (rampDone s).clock = s.clock := by
  unfold rampDone
  try dsimp only
  (repeat' split) <;> simp
@[simp] theorem rampDone_choices (s : State) : (rampDone s).choices = s.choices := by
  unfold rampDone
  try dsimp only
  (repeat' split) <;> simp
@[simp] theorem rampDone_arrived (s : State) : (rampDone s).arrived = s.arrived := by
  unfold rampDone
  try dsimp only
  (repeat' split) <;> simp
@[simp] theorem rampDone_taken (s : State) : (rampDone s).taken = s.taken := by
  unfold rampDone
  try dsimp only
  (repeat' split) <;> simp
@[simp] theorem rampDone_pending (s : State) : (rampDone s).pending = s.pending := by
  unfold rampDone
  try dsimp only
  (repeat' split) <;> simp

@[simp] theorem goAhead_resetHeld (s : State) : (goAhead s).resetHeld = s.resetHeld := by
  unfold goAhead
  try dsimp only
  (repeat' split) <;> simp
@[simp] theorem goAhead_oi (s : State) : (goAhead s).oi = s.oi := by
  unfold goAhead
  try dsimp only
  (repeat' split) <;> simp
@[simp] theorem goAhead_ltu (s : State) : (goAhead s).ltu = s.ltu := by
  unfold goAhead
  try dsimp only
  (repeat' split) <;> simp
@[simp] theorem goAhead_csu (s : State) : (goAhead s).csu = s.csu := by
  unfold goAhead
  try dsimp only
  (repeat' split) <;> simp
@[simp] theorem goAhead_vdu (s : State) : (goAhead s).vdu = s.vdu := by
  unfold goAhead
  try dsimp only
  (repeat' split) <;> simp
@[simp] theorem goAhead_clock (s : State) : (goAhead s).clock = s.clock := by
  unfold goAhead
  try dsimp only
  (repeat' split) <;> simp
@[simp] theorem goAhead_choices (s : State) : (goAhead s).choices = s.choices := by
  unfold goAhead
  try dsimp only
  (repeat' split) <;> simp
@[simp] theorem goAhead_arrived (s : State) : (goAhead s).arrived = s.arrived := by
  unfold goAhead
  try dsimp only
  (repeat' split) <;> simp
@[simp] theorem goAhead_taken (s : State) : (goAhead s).taken = s.taken := by
  unfold goAhead
  try dsimp only
  (repeat' split) <;> simp
@[simp] theorem goAhead_pending (s : State) : (goAhead s).pending = s.pending := by
  unfold goAhead
  try dsimp only
  (repeat' split) <;> simp

@[simp] theorem tellGranted_resetHeld (r : Resource) (w : Requester) (s : State) : (tellGranted r w s).resetHeld = s.resetHeld := by
  unfold tellGranted
  try dsimp only
  (repeat' split) <;> simp
@[simp] theorem tellGranted_oi (r : Resource) (w : Requester) (s : State) : (tellGranted r w s).oi = s.oi := by
  unfold tellGranted
  try dsimp only
  (repeat' split) <;> simp
@[simp] theorem tellGranted_ltu (r : Resource) (w : Requester) (s : State) : (tellGranted r w s).ltu = s.ltu := by
  unfold tellGranted
  try dsimp only
  (repeat' split) <;> simp
@[simp] theorem tellGranted_csu (r : Resource) (w : Requester) (s : State) : (tellGranted r w s).csu = s.csu := by
  unfold tellGranted
  try dsimp only
  (repeat' split) <;> simp
@[simp] theorem tellGranted_vdu (r : Resource) (w : Requester) (s : State) : (tellGranted r w s).vdu = s.vdu := by
  unfold tellGranted
  try dsimp only
  (repeat' split) <;> simp
@[simp] theorem tellGranted_clock (r : Resource) (w : Requester) (s : State) : (tellGranted r w s).clock = s.clock := by
  unfold tellGranted
  try dsimp only
  (repeat' split) <;> simp
@[simp] theorem tellGranted_choices (r : Resource) (w : Requester) (s : State) : (tellGranted r w s).choices = s.choices := by
  unfold tellGranted
  try dsimp only
  (repeat' split) <;> simp
@[simp] theorem tellGranted_arrived (r : Resource) (w : Requester) (s : State) : (tellGranted r w s).arrived = s.arrived := by
  unfold tellGranted
  try dsimp only
  (repeat' split) <;> simp
@[simp] theorem tellGranted_taken (r : Resource) (w : Requester) (s : State) : (tellGranted r w s).taken = s.taken := by
  unfold tellGranted
  try dsimp only
  (repeat' split) <;> simp
@[simp] theorem tellGranted_pending (r : Resource) (w : Requester) (s : State) : (tellGranted r w s).pending = s.pending := by
  unfold tellGranted
  try dsimp only
  (repeat' split) <;> simp

@[simp] theorem grantClaim_resetHeld (c : OwnClaim) (s : State) : (grantClaim c s).resetHeld = s.resetHeld := by
  unfold grantClaim
  simp
@[simp] theorem grantClaim_oi (c : OwnClaim) (s : State) : (grantClaim c s).oi = s.oi := by
  unfold grantClaim
  simp
@[simp] theorem grantClaim_ltu (c : OwnClaim) (s : State) : (grantClaim c s).ltu = s.ltu := by
  unfold grantClaim
  simp
@[simp] theorem grantClaim_csu (c : OwnClaim) (s : State) : (grantClaim c s).csu = s.csu := by
  unfold grantClaim
  simp
@[simp] theorem grantClaim_vdu (c : OwnClaim) (s : State) : (grantClaim c s).vdu = s.vdu := by
  unfold grantClaim
  simp
@[simp] theorem grantClaim_clock (c : OwnClaim) (s : State) : (grantClaim c s).clock = s.clock := by
  unfold grantClaim
  simp
@[simp] theorem grantClaim_choices (c : OwnClaim) (s : State) : (grantClaim c s).choices = s.choices := by
  unfold grantClaim
  simp
@[simp] theorem grantClaim_arrived (c : OwnClaim) (s : State) : (grantClaim c s).arrived = s.arrived := by
  unfold grantClaim
  simp
@[simp] theorem grantClaim_taken (c : OwnClaim) (s : State) : (grantClaim c s).taken = s.taken := by
  unfold grantClaim
  simp
@[simp] theorem grantClaim_pending (c : OwnClaim) (s : State) : (grantClaim c s).pending = s.pending := by
  unfold grantClaim
  simp

@[simp] theorem evaluateClaim_resetHeld (s : State) : (evaluateClaim s).resetHeld = s.resetHeld := by
  unfold evaluateClaim
  try dsimp only
  (repeat' split) <;> simp
@[simp] theorem evaluateClaim_oi (s : State) : (evaluateClaim s).oi = s.oi := by
  unfold evaluateClaim
  try dsimp only
  (repeat' split) <;> simp
@[simp] theorem evaluateClaim_ltu (s : State) : (evaluateClaim s).ltu = s.ltu := by
  unfold evaluateClaim
  try dsimp only
  (repeat' split) <;> simp
@[simp] theorem evaluateClaim_csu (s : State) : (evaluateClaim s).csu = s.csu := by
  unfold evaluateClaim
  try dsimp only
  (repeat' split) <;> simp
@[simp] theorem evaluateClaim_vdu (s : State) : (evaluateClaim s).vdu = s.vdu := by
  unfold evaluateClaim
  try dsimp only
  (repeat' split) <;> simp
@[simp] theorem evaluateClaim_clock (s : State) : (evaluateClaim s).clock = s.clock := by
  unfold evaluateClaim
  try dsimp only
  (repeat' split) <;> simp
@[simp] theorem evaluateClaim_choices (s : State) : (evaluateClaim s).choices = s.choices := by
  unfold evaluateClaim
  try dsimp only
  (repeat' split) <;> simp
@[simp] theorem evaluateClaim_arrived (s : State) : (evaluateClaim s).arrived = s.arrived := by
  unfold evaluateClaim
  try dsimp only
  (repeat' split) <;> simp
@[simp] theorem evaluateClaim_taken (s : State) : (evaluateClaim s).taken = s.taken := by
  unfold evaluateClaim
  try dsimp only
  (repeat' split) <;> simp
@[simp] theorem evaluateClaim_pending (s : State) : (evaluateClaim s).pending = s.pending := by
  unfold evaluateClaim
  try dsimp only
  (repeat' split) <;> simp

@[simp] theorem retryToSafe_resetHeld (s : State) : (retryToSafe s).resetHeld = s.resetHeld := by
  unfold retryToSafe
  simp
@[simp] theorem retryToSafe_clock (s : State) : (retryToSafe s).clock = s.clock := by
  unfold retryToSafe
  simp
@[simp] theorem retryToSafe_pending (s : State) : (retryToSafe s).pending = s.pending := by
  unfold retryToSafe
  simp

@[simp] theorem applyWrite_resetHeld (w : FieldWrite) (s : State) : (applyWrite w s).resetHeld = s.resetHeld := by
  unfold applyWrite
  simp
@[simp] theorem applyWrite_rli (w : FieldWrite) (s : State) : (applyWrite w s).rli = s.rli := by
  unfold applyWrite
  simp
@[simp] theorem applyWrite_oi (w : FieldWrite) (s : State) : (applyWrite w s).oi = s.oi := by
  unfold applyWrite
  simp
@[simp] theorem applyWrite_clu (w : FieldWrite) (s : State) : (applyWrite w s).clu = s.clu := by
  unfold applyWrite
  simp
@[simp] theorem applyWrite_spu (w : FieldWrite) (s : State) : (applyWrite w s).spu = s.spu := by
  unfold applyWrite
  simp
@[simp] theorem applyWrite_ltu (w : FieldWrite) (s : State) : (applyWrite w s).ltu = s.ltu := by
  unfold applyWrite
  simp
@[simp] theorem applyWrite_csu (w : FieldWrite) (s : State) : (applyWrite w s).csu = s.csu := by
  unfold applyWrite
  simp
@[simp] theorem applyWrite_vdu (w : FieldWrite) (s : State) : (applyWrite w s).vdu = s.vdu := by
  unfold applyWrite
  simp
@[simp] theorem applyWrite_opu (w : FieldWrite) (s : State) : (applyWrite w s).opu = s.opu := by
  unfold applyWrite
  simp
@[simp] theorem applyWrite_clock (w : FieldWrite) (s : State) : (applyWrite w s).clock = s.clock := by
  unfold applyWrite
  simp
@[simp] theorem applyWrite_choices (w : FieldWrite) (s : State) : (applyWrite w s).choices = s.choices := by
  unfold applyWrite
  simp
@[simp] theorem applyWrite_arrived (w : FieldWrite) (s : State) : (applyWrite w s).arrived = s.arrived := by
  unfold applyWrite
  simp
@[simp] theorem applyWrite_taken (w : FieldWrite) (s : State) : (applyWrite w s).taken = s.taken := by
  unfold applyWrite
  simp
@[simp] theorem applyWrite_pending (w : FieldWrite) (s : State) : (applyWrite w s).pending = s.pending := by
  unfold applyWrite
  simp

@[simp] theorem audibleCleared_resetHeld (s : State) : (audibleCleared s).resetHeld = s.resetHeld := by
  unfold audibleCleared
  try dsimp only
  (repeat' split) <;> simp
@[simp] theorem audibleCleared_rli (s : State) : (audibleCleared s).rli = s.rli := by
  unfold audibleCleared
  try dsimp only
  (repeat' split) <;> simp
@[simp] theorem audibleCleared_oi (s : State) : (audibleCleared s).oi = s.oi := by
  unfold audibleCleared
  try dsimp only
  (repeat' split) <;> simp
@[simp] theorem audibleCleared_clu (s : State) : (audibleCleared s).clu = s.clu := by
  unfold audibleCleared
  try dsimp only
  (repeat' split) <;> simp
@[simp] theorem audibleCleared_spu (s : State) : (audibleCleared s).spu = s.spu := by
  unfold audibleCleared
  try dsimp only
  (repeat' split) <;> simp
@[simp] theorem audibleCleared_ltu (s : State) : (audibleCleared s).ltu = s.ltu := by
  unfold audibleCleared
  try dsimp only
  (repeat' split) <;> simp
@[simp] theorem audibleCleared_csu (s : State) : (audibleCleared s).csu = s.csu := by
  unfold audibleCleared
  try dsimp only
  (repeat' split) <;> simp
@[simp] theorem audibleCleared_vdu (s : State) : (audibleCleared s).vdu = s.vdu := by
  unfold audibleCleared
  try dsimp only
  (repeat' split) <;> simp
@[simp] theorem audibleCleared_opu (s : State) : (audibleCleared s).opu = s.opu := by
  unfold audibleCleared
  try dsimp only
  (repeat' split) <;> simp
@[simp] theorem audibleCleared_clock (s : State) : (audibleCleared s).clock = s.clock := by
  unfold audibleCleared
  try dsimp only
  (repeat' split) <;> simp
@[simp] theorem audibleCleared_choices (s : State) : (audibleCleared s).choices = s.choices := by
  unfold audibleCleared
  try dsimp only
  (repeat' split) <;> simp
@[simp] theorem audibleCleared_arrived (s : State) : (audibleCleared s).arrived = s.arrived := by
  unfold audibleCleared
  try dsimp only
  (repeat' split) <;> simp
@[simp] theorem audibleCleared_taken (s : State) : (audibleCleared s).taken = s.taken := by
  unfold audibleCleared
  try dsimp only
  (repeat' split) <;> simp
@[simp] theorem audibleCleared_pending (s : State) : (audibleCleared s).pending = s.pending := by
  unfold audibleCleared
  try dsimp only
  (repeat' split) <;> simp

@[simp] theorem reexamineAudible_resetHeld (s : State) : (reexamineAudible s).resetHeld = s.resetHeld := by
  unfold reexamineAudible
  try dsimp only
  (repeat' split) <;> simp
@[simp] theorem reexamineAudible_oi (s : State) : (reexamineAudible s).oi = s.oi := by
  unfold reexamineAudible
  try dsimp only
  (repeat' split) <;> simp
@[simp] theorem reexamineAudible_spu (s : State) : (reexamineAudible s).spu = s.spu := by
  unfold reexamineAudible
  try dsimp only
  (repeat' split) <;> simp
@[simp] theorem reexamineAudible_ltu (s : State) : (reexamineAudible s).ltu = s.ltu := by
  unfold reexamineAudible
  try dsimp only
  (repeat' split) <;> simp
@[simp] theorem reexamineAudible_csu (s : State) : (reexamineAudible s).csu = s.csu := by
  unfold reexamineAudible
  try dsimp only
  (repeat' split) <;> simp
@[simp] theorem reexamineAudible_vdu (s : State) : (reexamineAudible s).vdu = s.vdu := by
  unfold reexamineAudible
  try dsimp only
  (repeat' split) <;> simp
@[simp] theorem reexamineAudible_opu (s : State) : (reexamineAudible s).opu = s.opu := by
  unfold reexamineAudible
  try dsimp only
  (repeat' split) <;> simp
@[simp] theorem reexamineAudible_clock (s : State) : (reexamineAudible s).clock = s.clock := by
  unfold reexamineAudible
  try dsimp only
  (repeat' split) <;> simp
@[simp] theorem reexamineAudible_choices (s : State) : (reexamineAudible s).choices = s.choices := by
  unfold reexamineAudible
  try dsimp only
  (repeat' split) <;> simp
@[simp] theorem reexamineAudible_arrived (s : State) : (reexamineAudible s).arrived = s.arrived := by
  unfold reexamineAudible
  try dsimp only
  (repeat' split) <;> simp
@[simp] theorem reexamineAudible_taken (s : State) : (reexamineAudible s).taken = s.taken := by
  unfold reexamineAudible
  try dsimp only
  (repeat' split) <;> simp
@[simp] theorem reexamineAudible_pending (s : State) : (reexamineAudible s).pending = s.pending := by
  unfold reexamineAudible
  try dsimp only
  (repeat' split) <;> simp

@[simp] theorem reportMeasurement_resetHeld (f : CheckRecord → CheckRecord) (s : State) : (reportMeasurement f s).resetHeld = s.resetHeld := by
  unfold reportMeasurement
  simp
@[simp] theorem reportMeasurement_rli (f : CheckRecord → CheckRecord) (s : State) : (reportMeasurement f s).rli = s.rli := by
  unfold reportMeasurement
  simp
@[simp] theorem reportMeasurement_oi (f : CheckRecord → CheckRecord) (s : State) : (reportMeasurement f s).oi = s.oi := by
  unfold reportMeasurement
  simp
@[simp] theorem reportMeasurement_clu (f : CheckRecord → CheckRecord) (s : State) : (reportMeasurement f s).clu = s.clu := by
  unfold reportMeasurement
  simp
@[simp] theorem reportMeasurement_spu (f : CheckRecord → CheckRecord) (s : State) : (reportMeasurement f s).spu = s.spu := by
  unfold reportMeasurement
  simp
@[simp] theorem reportMeasurement_bem (f : CheckRecord → CheckRecord) (s : State) : (reportMeasurement f s).bem = s.bem := by
  unfold reportMeasurement
  simp
@[simp] theorem reportMeasurement_ltu (f : CheckRecord → CheckRecord) (s : State) : (reportMeasurement f s).ltu = s.ltu := by
  unfold reportMeasurement
  simp
@[simp] theorem reportMeasurement_csu (f : CheckRecord → CheckRecord) (s : State) : (reportMeasurement f s).csu = s.csu := by
  unfold reportMeasurement
  simp
@[simp] theorem reportMeasurement_vdu (f : CheckRecord → CheckRecord) (s : State) : (reportMeasurement f s).vdu = s.vdu := by
  unfold reportMeasurement
  simp
@[simp] theorem reportMeasurement_opu (f : CheckRecord → CheckRecord) (s : State) : (reportMeasurement f s).opu = s.opu := by
  unfold reportMeasurement
  simp
@[simp] theorem reportMeasurement_clock (f : CheckRecord → CheckRecord) (s : State) : (reportMeasurement f s).clock = s.clock := by
  unfold reportMeasurement
  simp
@[simp] theorem reportMeasurement_choices (f : CheckRecord → CheckRecord) (s : State) : (reportMeasurement f s).choices = s.choices := by
  unfold reportMeasurement
  simp
@[simp] theorem reportMeasurement_arrived (f : CheckRecord → CheckRecord) (s : State) : (reportMeasurement f s).arrived = s.arrived := by
  unfold reportMeasurement
  simp
@[simp] theorem reportMeasurement_taken (f : CheckRecord → CheckRecord) (s : State) : (reportMeasurement f s).taken = s.taken := by
  unfold reportMeasurement
  simp
@[simp] theorem reportMeasurement_pending (f : CheckRecord → CheckRecord) (s : State) : (reportMeasurement f s).pending = s.pending := by
  unfold reportMeasurement
  simp

@[simp] theorem soundReport_resetHeld (a b : Nat) (s : State) : (soundReport a b s).resetHeld = s.resetHeld := by
  unfold soundReport
  simp
@[simp] theorem soundReport_oi (a b : Nat) (s : State) : (soundReport a b s).oi = s.oi := by
  unfold soundReport
  simp
@[simp] theorem soundReport_spu (a b : Nat) (s : State) : (soundReport a b s).spu = s.spu := by
  unfold soundReport
  simp
@[simp] theorem soundReport_bem (a b : Nat) (s : State) : (soundReport a b s).bem = s.bem := by
  unfold soundReport
  simp
@[simp] theorem soundReport_ltu (a b : Nat) (s : State) : (soundReport a b s).ltu = s.ltu := by
  unfold soundReport
  simp
@[simp] theorem soundReport_csu (a b : Nat) (s : State) : (soundReport a b s).csu = s.csu := by
  unfold soundReport
  simp
@[simp] theorem soundReport_vdu (a b : Nat) (s : State) : (soundReport a b s).vdu = s.vdu := by
  unfold soundReport
  simp
@[simp] theorem soundReport_clock (a b : Nat) (s : State) : (soundReport a b s).clock = s.clock := by
  unfold soundReport
  simp
@[simp] theorem soundReport_choices (a b : Nat) (s : State) : (soundReport a b s).choices = s.choices := by
  unfold soundReport
  simp
@[simp] theorem soundReport_arrived (a b : Nat) (s : State) : (soundReport a b s).arrived = s.arrived := by
  unfold soundReport
  simp
@[simp] theorem soundReport_taken (a b : Nat) (s : State) : (soundReport a b s).taken = s.taken := by
  unfold soundReport
  simp
@[simp] theorem soundReport_pending (a b : Nat) (s : State) : (soundReport a b s).pending = s.pending := by
  unfold soundReport
  simp

@[simp] theorem promptResult_resetHeld (r : Verdict × Option Nat) (s : State) : (promptResult r s).resetHeld = s.resetHeld := by
  unfold promptResult
  try dsimp only
  (repeat' split) <;> simp
@[simp] theorem promptResult_oi (r : Verdict × Option Nat) (s : State) : (promptResult r s).oi = s.oi := by
  unfold promptResult
  try dsimp only
  (repeat' split) <;> simp
@[simp] theorem promptResult_spu (r : Verdict × Option Nat) (s : State) : (promptResult r s).spu = s.spu := by
  unfold promptResult
  try dsimp only
  (repeat' split) <;> simp
@[simp] theorem promptResult_bem (r : Verdict × Option Nat) (s : State) : (promptResult r s).bem = s.bem := by
  unfold promptResult
  try dsimp only
  (repeat' split) <;> simp
@[simp] theorem promptResult_ltu (r : Verdict × Option Nat) (s : State) : (promptResult r s).ltu = s.ltu := by
  unfold promptResult
  try dsimp only
  (repeat' split) <;> simp
@[simp] theorem promptResult_csu (r : Verdict × Option Nat) (s : State) : (promptResult r s).csu = s.csu := by
  unfold promptResult
  try dsimp only
  (repeat' split) <;> simp
@[simp] theorem promptResult_vdu (r : Verdict × Option Nat) (s : State) : (promptResult r s).vdu = s.vdu := by
  unfold promptResult
  try dsimp only
  (repeat' split) <;> simp
@[simp] theorem promptResult_clock (r : Verdict × Option Nat) (s : State) : (promptResult r s).clock = s.clock := by
  unfold promptResult
  try dsimp only
  (repeat' split) <;> simp
@[simp] theorem promptResult_choices (r : Verdict × Option Nat) (s : State) : (promptResult r s).choices = s.choices := by
  unfold promptResult
  try dsimp only
  (repeat' split) <;> simp
@[simp] theorem promptResult_arrived (r : Verdict × Option Nat) (s : State) : (promptResult r s).arrived = s.arrived := by
  unfold promptResult
  try dsimp only
  (repeat' split) <;> simp
@[simp] theorem promptResult_taken (r : Verdict × Option Nat) (s : State) : (promptResult r s).taken = s.taken := by
  unfold promptResult
  try dsimp only
  (repeat' split) <;> simp
@[simp] theorem promptResult_pending (r : Verdict × Option Nat) (s : State) : (promptResult r s).pending = s.pending := by
  unfold promptResult
  try dsimp only
  (repeat' split) <;> simp

end Sys2Proof.Machine
end

