-- ==== Sys2Proof/Laws/Kept.lean ====
section
/-! SUPPORT. A SILENT line interface takes nothing that is handed in (R17), and what claims, releases and the end of a
check keep inside the blocks they touch. -/

namespace Sys2Proof.Machine

/-! ## The rack line of a SILENT station -/

@[simp] theorem handIn_rli_of_silent {s : State} (h : s.rli.silent = true) : (handIn s).rli = s.rli := by
  simp [handIn, Rli.handInAnnouncement, h]
@[simp] theorem handInReply_rli_of_silent (x : Reply) {s : State} (h : s.rli.silent = true) : (handInReply x s).rli = s.rli := by
  simp [handInReply, Rli.handInReply, Rli.hasRoom, h]
@[simp] theorem takeClaim_rli_of_silent (q : ClaimRequest) {s : State} (h : s.rli.silent = true) : (takeClaim q s).rli = s.rli := by
  unfold takeClaim
  try dsimp only
  (repeat' split) <;> simp [h]
@[simp] theorem takeDeferred_rli_of_silent {s : State} (h : s.rli.silent = true) : (takeDeferred s).rli = s.rli := by
  unfold takeDeferred
  try dsimp only
  try split
  all_goals simp [h]
@[simp] theorem removeClaim_rli_of_silent {s : State} (h : s.rli.silent = true) : (removeClaim s).rli = s.rli := by
  unfold removeClaim
  try dsimp only
  try split
  all_goals simp [h]
@[simp] theorem releaseClaim_rli_of_silent (w : Requester) (r : Resource) {s : State} (h : s.rli.silent = true) : (releaseClaim w r s).rli = s.rli := by
  unfold releaseClaim
  try dsimp only
  (repeat' split) <;> simp [h]
@[simp] theorem releaseAllOf_rli_of_silent (w : Requester) {s : State} (h : s.rli.silent = true) : (releaseAllOf w s).rli = s.rli := by
  unfold releaseAllOf
  have h1 : ∀ t : State, t.rli = s.rli → ∀ r, (releaseClaim w r t).rli = s.rli := fun t ht r => by
    rw [releaseClaim_rli_of_silent w r (by rw [ht, h]), ht]
  exact h1 _ (h1 _ (h1 _ (by simp) _) _) _
@[simp] theorem releaseEverything_rli_of_silent {s : State} (h : s.rli.silent = true) : (releaseEverything s).rli = s.rli := by
  unfold releaseEverything
  dsimp only
  split
  · rw [handIn_rli_of_silent] <;> simp [h]
  · simp
@[simp] theorem setNoisy_rli_of_silent {s : State} (h : s.rli.silent = true) : (setNoisy s).rli = s.rli := by
  unfold setNoisy
  try dsimp only
  (repeat' split) <;> simp [h]
@[simp] theorem clearNoisy_rli_of_silent {s : State} (h : s.rli.silent = true) : (clearNoisy s).rli = s.rli := by
  unfold clearNoisy
  try dsimp only
  (repeat' split) <;> simp [h]
@[simp] theorem cancelRetry_rli_of_silent {s : State} (h : s.rli.silent = true) : (cancelRetry s).rli = s.rli := by
  unfold cancelRetry
  try dsimp only
  (repeat' split) <;> simp [h]
@[simp] theorem offRequest_rli_of_silent {s : State} (h : s.rli.silent = true) : (offRequest s).rli = s.rli := by
  unfold offRequest
  try dsimp only
  (repeat' split) <;> simp [h]
@[simp] theorem formVerdict_rli_of_silent (c : VerdictContent) {s : State} (h : s.rli.silent = true) : (formVerdict c s).rli = s.rli := by
  unfold formVerdict
  try dsimp only
  try split
  all_goals simp [h]
@[simp] theorem endCheck_rli_of_silent {s : State} (h : s.rli.silent = true) : (endCheck none s).rli = s.rli := by
  unfold endCheck
  try dsimp only
  (repeat' split) <;> simp [h]

/-! ## The straps, and being SILENT, are kept by every hand-in -/

@[simp] theorem handInAnnouncement_slot (r : Rli) (a : Announcement) : (r.handInAnnouncement a).slot = r.slot := by
  unfold Rli.handInAnnouncement
  split <;> rfl
@[simp] theorem handIn_slot (s : State) : (handIn s).rli.slot = s.rli.slot := by simp [handIn]
@[simp] theorem handInAnnouncement_group (r : Rli) (a : Announcement) : (r.handInAnnouncement a).group = r.group := by
  unfold Rli.handInAnnouncement
  split <;> rfl
@[simp] theorem handIn_group (s : State) : (handIn s).rli.group = s.rli.group := by simp [handIn]
@[simp] theorem handInAnnouncement_silent (r : Rli) (a : Announcement) : (r.handInAnnouncement a).silent = r.silent := by
  unfold Rli.handInAnnouncement
  split <;> rfl
@[simp] theorem handIn_silent (s : State) : (handIn s).rli.silent = s.rli.silent := by simp [handIn]

/-! ## The peer view -/

@[simp] theorem Clu.setLastTicket_peers (c : Clu) (r : Resource) (t : Byte) : (c.setLastTicket r t).peers = c.peers := by
  cases r <;> rfl
@[simp] theorem takeClaim_peers (q : ClaimRequest) (s : State) : (takeClaim q s).clu.peers = s.clu.peers := by
  unfold takeClaim
  try dsimp only
  (repeat' split) <;> simp
@[simp] theorem takeDeferred_peers (s : State) : (takeDeferred s).clu.peers = s.clu.peers := by
  unfold takeDeferred
  try dsimp only
  (repeat' split) <;> simp
@[simp] theorem removeClaim_peers (s : State) : (removeClaim s).clu.peers = s.clu.peers := by
  unfold removeClaim
  try dsimp only
  (repeat' split) <;> simp
@[simp] theorem dropDeferred_peers (w : Requester) (r : Resource) (s : State) : (dropDeferred w r s).clu.peers = s.clu.peers := by
  unfold dropDeferred
  try dsimp only
  (repeat' split) <;> simp
@[simp] theorem releaseClaim_peers (w : Requester) (r : Resource) (s : State) : (releaseClaim w r s).clu.peers = s.clu.peers := by
  unfold releaseClaim
  try dsimp only
  (repeat' split) <;> simp
@[simp] theorem releaseAllOf_peers (w : Requester) (s : State) : (releaseAllOf w s).clu.peers = s.clu.peers := by
  unfold releaseAllOf
  try dsimp only
  (repeat' split) <;> simp
@[simp] theorem releaseEverything_peers (s : State) : (releaseEverything s).clu.peers = s.clu.peers := by
  unfold releaseEverything
  try dsimp only
  (repeat' split) <;> simp
@[simp] theorem setNoisy_peers (s : State) : (setNoisy s).clu.peers = s.clu.peers := by
  unfold setNoisy
  try dsimp only
  (repeat' split) <;> simp
@[simp] theorem clearNoisy_peers (s : State) : (clearNoisy s).clu.peers = s.clu.peers := by
  unfold clearNoisy
  try dsimp only
  (repeat' split) <;> simp
@[simp] theorem withdrawAudible_peers (s : State) : (withdrawAudible s).clu.peers = s.clu.peers := by
  unfold withdrawAudible
  try dsimp only
  (repeat' split) <;> simp
@[simp] theorem cancelRetry_peers (s : State) : (cancelRetry s).clu.peers = s.clu.peers := by
  unfold cancelRetry
  try dsimp only
  (repeat' split) <;> simp
@[simp] theorem offRequest_peers (s : State) : (offRequest s).clu.peers = s.clu.peers := by
  unfold offRequest
  try dsimp only
  (repeat' split) <;> simp
@[simp] theorem endCheck_peers (v : Option VerdictContent) (s : State) : (endCheck v s).clu.peers = s.clu.peers := by
  unfold endCheck
  try dsimp only
  (repeat' split) <;> simp

/-! ## The error count -/

@[simp] theorem givePlace_errors (s : State) : (givePlace s).opu.errors = s.opu.errors := by
  unfold givePlace
  try dsimp only
  (repeat' split) <;> simp 
@[simp] theorem takeClaim_errors (q : ClaimRequest) (s : State) : (takeClaim q s).opu.errors = s.opu.errors := by
  unfold takeClaim
  try dsimp only
  (repeat' split) <;> simp 
@[simp] theorem takeDeferred_errors (s : State) : (takeDeferred s).opu.errors = s.opu.errors := by
  unfold takeDeferred
  try dsimp only
  (repeat' split) <;> simp 
@[simp] theorem releaseClaim_errors (w : Requester) (r : Resource) (s : State) : (releaseClaim w r s).opu.errors = s.opu.errors := by
  unfold releaseClaim
  try dsimp only
  (repeat' split) <;> simp 
@[simp] theorem releaseAllOf_errors (w : Requester) (s : State) : (releaseAllOf w s).opu.errors = s.opu.errors := by
  unfold releaseAllOf
  try dsimp only
  (repeat' split) <;> simp 
@[simp] theorem cancelRetry_errors (s : State) : (cancelRetry s).opu.errors = s.opu.errors := by
  unfold cancelRetry
  try dsimp only
  (repeat' split) <;> simp 
@[simp] theorem offRequest_errors (s : State) : (offRequest s).opu.errors = s.opu.errors := by
  unfold offRequest
  try dsimp only
  (repeat' split) <;> simp 
@[simp] theorem promptEnd_errors (s : State) : (promptEnd s).opu.errors = s.opu.errors := by
  unfold promptEnd
  try dsimp only
  (repeat' split) <;> simp [Opu.toIdle]
@[simp] theorem stopWork_errors (c : CheckRecord) (s : State) : (stopWork c s).opu.errors = s.opu.errors := by
  unfold stopWork
  try dsimp only
  (repeat' split) <;> simp 
@[simp] theorem endCheck_errors (v : Option VerdictContent) (s : State) : (endCheck v s).opu.errors = s.opu.errors := by
  unfold endCheck
  try dsimp only
  (repeat' split) <;> simp 

/-! ## The end of a check -/

/-- A check that ends without a verdict leaves the verdicts as they are (R23). -/
theorem endCheck_none_vdu (s : State) : (endCheck none s).vdu = s.vdu := by
  unfold endCheck
  dsimp only
  split <;> simp

/-- After its end no check is in flight (R86). -/
@[simp] theorem endCheck_ckr (v : Option VerdictContent) (s : State) : (endCheck v s).ckr = none := by
  unfold endCheck
  dsimp only
  split
  · assumption
  · simp

end Sys2Proof.Machine
end

