-- ==== Sys2Proof/Laws/EndOfCheck.lean ====
section
/-! SUPPORT. The end of a check, said once: what `endCheck`, `terminate` and `flushQueue` do to the verdicts, the reply
queue and the identity. -/

namespace Sys2Proof.Machine

/-! ## The identity is kept by everything but an identity message and BEGIN_DUT -/

@[simp] theorem setSlot_current (n : Nat) (m : MessageSlot) (s : State) : (setSlot n m s).bem.current = s.bem.current := by
  unfold setSlot
  try dsimp only
  (repeat' split) <;> simp
@[simp] theorem reportBusLate_current (s : State) : (reportBusLate s).bem.current = s.bem.current := by
  unfold reportBusLate
  try dsimp only
  (repeat' split) <;> simp
@[simp] theorem setLate_current (n : Nat) (b : Bool) (s : State) : (setLate n b s).bem.current = s.bem.current := by
  unfold setLate
  try dsimp only
  (repeat' split) <;> simp
@[simp] theorem enqueue_current (x : TxInstance) (s : State) : (enqueue x s).bem.current = s.bem.current := by
  unfold enqueue
  try dsimp only
  (repeat' split) <;> simp
@[simp] theorem snapshot_current (n : Nat) (s : State) : (snapshot n s).bem.current = s.bem.current := by
  unfold snapshot
  try dsimp only
  (repeat' split) <;> simp
@[simp] theorem fallDue_current (n : Nat) (s : State) : (fallDue n s).bem.current = s.bem.current := by
  unfold fallDue
  try dsimp only
  (repeat' split) <;> simp
@[simp] theorem eventDue_current (n : Nat) (s : State) : (eventDue n s).bem.current = s.bem.current := by
  unfold eventDue
  try dsimp only
  (repeat' split) <;> simp
@[simp] theorem emptyQueue_current (s : State) : (emptyQueue s).bem.current = s.bem.current := by
  unfold emptyQueue
  try dsimp only
  (repeat' split) <;> simp
@[simp] theorem clearMessages_current (s : State) : (clearMessages s).bem.current = s.bem.current := by
  unfold clearMessages
  try dsimp only
  (repeat' split) <;> simp
@[simp] theorem stopTraffic_current (s : State) : (stopTraffic s).bem.current = s.bem.current := by
  unfold stopTraffic
  try dsimp only
  (repeat' split) <;> simp
@[simp] theorem writeSlot_current (n start len : Nat) (p : Payload) (s : State) : (writeSlot n start len p s).bem.current = s.bem.current := by
  unfold writeSlot
  try dsimp only
  (repeat' split) <;> simp
@[simp] theorem applyRestore_current (e : RestoreEntry) (s : State) : (applyRestore e s).bem.current = s.bem.current := by
  unfold applyRestore
  try dsimp only
  (repeat' split) <;> simp
@[simp] theorem railTo_current (r : RailState) (s : State) : (railTo r s).bem.current = s.bem.current := by
  unfold railTo
  try dsimp only
  (repeat' split) <;> simp
@[simp] theorem arriveOff_current (s : State) : (arriveOff s).bem.current = s.bem.current := by
  unfold arriveOff
  try dsimp only
  (repeat' split) <;> simp
@[simp] theorem beginDischarge_current (s : State) : (beginDischarge s).bem.current = s.bem.current := by
  unfold beginDischarge
  try dsimp only
  (repeat' split) <;> simp
@[simp] theorem zeroDue_current (s : State) : (zeroDue s).bem.current = s.bem.current := by
  unfold zeroDue
  exact foldl_keeps (·.bem.current) _ (fun s n => by split <;> simp) _ s
@[simp] theorem startTraffic_current (s : State) : (startTraffic s).bem.current = s.bem.current := by
  unfold startTraffic
  simp
@[simp] theorem arriveOn_current (s : State) : (arriveOn s).bem.current = s.bem.current := by simp [arriveOn]
@[simp] theorem rampArrive_current (s : State) : (rampArrive s).bem.current = s.bem.current := by simp [rampArrive]
@[simp] theorem powerUpCancel_current (s : State) : (powerUpCancel s).bem.current = s.bem.current := by
  unfold powerUpCancel takeFirst
  dsimp only
  (repeat' split) <;> simp
@[simp] theorem offRequest_current (s : State) : (offRequest s).bem.current = s.bem.current := by
  unfold offRequest
  try dsimp only
  (repeat' split) <;> simp
@[simp] theorem stopWork_current (c : CheckRecord) (s : State) : (stopWork c s).bem.current = s.bem.current := by
  unfold stopWork
  try dsimp only
  (repeat' split) <;> simp
@[simp] theorem enterFaultOff_current (s : State) : (enterFaultOff s).bem.current = s.bem.current := by
  unfold enterFaultOff
  try dsimp only
  (repeat' split) <;> simp
@[simp] theorem enterSafe_current (s : State) : (enterSafe s).bem.current = s.bem.current := by
  unfold enterSafe
  try dsimp only
  (repeat' split) <;> simp
@[simp] theorem applyRestores_current (c : CheckRecord) (s : State) : (applyRestores c s).bem.current = s.bem.current := by
  unfold applyRestores
  exact (foldl_keeps (·.bem.current) _ (fun s e => applyRestore_current e s) _ _).trans (by split <;> simp)
@[simp] theorem endCheck_current (v : Option VerdictContent) (s : State) :
    (endCheck v s).bem.current = s.bem.current := by
  unfold endCheck
  dsimp only
  (repeat' split) <;> simp
@[simp] theorem terminate_current (v : Verdict) (m : VerdictFlags → VerdictFlags) (s : State) :
    (terminate v m s).bem.current = s.bem.current := by
  unfold terminate
  split <;> simp

/-! ## Verdicts formed -/

/-- The verdict unit after a record with this content (R168, R169, R171). -/
def vduWith (c : VerdictContent) (identity : Identity) (v : Vdu) : Vdu where
  ring := joinRing v.ring ⟨c, identity, v.seq + 1⟩
  summary := v.summary.merge c.checkId c.outcome
  seq := v.seq + 1
  lastJudged := c.checkId

@[simp] theorem formVerdict_vdu (c : VerdictContent) (s : State) :
    (formVerdict c s).vdu = vduWith c s.bem.current s.vdu := by
  simp [formVerdict, recordOf, vduWith]

/-- A check that ends with content gives one record (R83, R86). -/
theorem endCheck_vdu {c : CheckRecord} {s : State} (h : s.ckr = some c) (x : VerdictContent) :
    (endCheck (some x) s).vdu = vduWith x s.bem.current s.vdu := by
  unfold endCheck
  simp only [h]
  simp

theorem endCheck_of_none {s : State} (h : s.ckr = none) (v : Option VerdictContent) : endCheck v s = s := by
  simp [endCheck, h]

theorem terminate_of_none {s : State} (h : s.ckr = none) (v : Verdict) (m : VerdictFlags → VerdictFlags) :
    terminate v m s = s := by
  simp [terminate, h]

@[simp] theorem terminate_ckr (v : Verdict) (m : VerdictFlags → VerdictFlags) (s : State) :
    (terminate v m s).ckr = none := by
  unfold terminate
  split <;> simp_all

/-- A check ended by an event gives one record with the event's outcome (R88, R89). -/
theorem terminate_vdu {c : CheckRecord} {s : State} (h : s.ckr = some c) (v : Verdict)
    (m : VerdictFlags → VerdictFlags) :
    (terminate v m s).vdu = vduWith ({ c with flags := m c.flags }.endedContent v) s.bem.current s.vdu := by
  unfold terminate
  simp only [h]
  exact endCheck_vdu h _

/-! ## NOISY and the claims of the Check Runner at the end of a check (R61, R65) -/

theorem clearNoisy_clu (s : State) : (clearNoisy s).clu = { s.clu with noisy := false } := by
  unfold clearNoisy
  split
  · simp
  · rename_i h
    simp only [Bool.not_eq_true] at h
    rw [← h]

theorem endCheck_noisy {c : CheckRecord} {s : State} (h : s.ckr = some c) (v : Option VerdictContent) :
    (endCheck v s).clu.noisy = false := by
  unfold endCheck
  simp only [h]
  cases v <;> simp [clearNoisy_clu]

/-! ## The reply queue only grows at its tail (R16) -/

/-- The reply queue of t is that of s with some frames behind. -/
def Grows (s t : State) : Prop := ∃ l, t.rli.replies = s.rli.replies ++ l

theorem Grows.refl (s : State) : Grows s s := ⟨[], by simp⟩

theorem Grows.trans {s t u : State} (h1 : Grows s t) (h2 : Grows t u) : Grows s u := by
  obtain ⟨a, ha⟩ := h1
  obtain ⟨b, hb⟩ := h2
  exact ⟨a ++ b, by rw [hb, ha, List.append_assoc]⟩

theorem Grows.of_eq {s t : State} (h : t.rli = s.rli) : Grows s t := ⟨[], by simp [h]⟩

@[simp] theorem handInAnnouncement_replies (r : Rli) (a : Announcement) :
    (r.handInAnnouncement a).replies = r.replies := by
  unfold Rli.handInAnnouncement
  split <;> rfl

theorem handInReply_grows (x : Reply) (s : State) : Grows s (handInReply x s) := by
  unfold handInReply Rli.handInReply
  split
  · exact ⟨[x], by simp⟩
  · exact ⟨[], by simp⟩

@[simp] theorem handIn_replies (s : State) : (handIn s).rli.replies = s.rli.replies := by simp [handIn]
@[simp] theorem takeClaim_replies (q : ClaimRequest) (s : State) : (takeClaim q s).rli.replies = s.rli.replies := by
  simp [takeClaim]
@[simp] theorem takeDeferred_replies (s : State) : (takeDeferred s).rli.replies = s.rli.replies := by
  unfold takeDeferred
  try dsimp only
  (repeat' split) <;> simp
@[simp] theorem removeClaim_replies (s : State) : (removeClaim s).rli.replies = s.rli.replies := by
  simp [removeClaim]
@[simp] theorem releaseClaim_replies (w : Requester) (r : Resource) (s : State) : (releaseClaim w r s).rli.replies = s.rli.replies := by
  unfold releaseClaim
  try dsimp only
  (repeat' split) <;> simp
@[simp] theorem releaseAllOf_replies (w : Requester) (s : State) : (releaseAllOf w s).rli.replies = s.rli.replies := by
  simp [releaseAllOf]
@[simp] theorem releaseEverything_replies (s : State) : (releaseEverything s).rli.replies = s.rli.replies := by
  unfold releaseEverything
  try dsimp only
  (repeat' split) <;> simp
@[simp] theorem setNoisy_replies (s : State) : (setNoisy s).rli.replies = s.rli.replies := by
  unfold setNoisy
  try dsimp only
  (repeat' split) <;> simp
@[simp] theorem clearNoisy_replies (s : State) : (clearNoisy s).rli.replies = s.rli.replies := by
  unfold clearNoisy
  try dsimp only
  (repeat' split) <;> simp
@[simp] theorem cancelRetry_replies (s : State) : (cancelRetry s).rli.replies = s.rli.replies := by
  unfold cancelRetry
  try dsimp only
  (repeat' split) <;> simp
@[simp] theorem offRequest_replies (s : State) : (offRequest s).rli.replies = s.rli.replies := by
  unfold offRequest
  try dsimp only
  (repeat' split) <;> simp

theorem formVerdict_grows (c : VerdictContent) (s : State) : Grows s (formVerdict c s) := by
  unfold formVerdict
  exact Grows.trans (Grows.of_eq (by simp)) (handInReply_grows _ _)

theorem endCheck_grows (v : Option VerdictContent) (s : State) : Grows s (endCheck v s) := by
  unfold endCheck
  dsimp only
  split
  · exact Grows.refl s
  · rename_i c _
    have h : Grows s (clearNoisy (releaseAllOf .ckr (withdrawAudible (applyRestores c (stopWork c s))))) :=
      ⟨[], by simp⟩
    cases v with
    | none => exact h.trans (Grows.of_eq (by simp))
    | some x => exact (h.trans (formVerdict_grows x _)).trans (Grows.of_eq (by simp))

theorem terminate_grows (v : Verdict) (m : VerdictFlags → VerdictFlags) (s : State) : Grows s (terminate v m s) := by
  unfold terminate
  split
  · exact Grows.refl s
  · exact endCheck_grows _ s

theorem formAll_grows : ∀ (xs : List VerdictContent) (s : State), Grows s (formAll xs s)
  | [], s => Grows.refl s
  | x :: xs, s => (formVerdict_grows x s).trans (formAll_grows xs _)

theorem takeSummary_grows (s : State) : Grows s (takeSummary s) := by
  unfold takeSummary
  dsimp only
  split
  · exact (handInReply_grows (.summary (summaryFrame s)) s).trans (Grows.of_eq (State.setVdu_rli _ _))
  · exact handInReply_grows _ s

theorem flushQueue_grows (b : Bool) (s : State) : Grows s (flushQueue b s) := by
  unfold flushQueue
  dsimp only
  (repeat' split)
  · refine Grows.trans ?_ (formAll_grows _ _)
    refine Grows.trans ?_ (Grows.of_eq (State.setTaken_rli _ _))
    refine Grows.trans ?_ (takeSummary_grows _)
    exact Grows.trans (Grows.of_eq (by simp)) (formAll_grows _ _)
  · exact Grows.trans (Grows.of_eq (by simp)) (formAll_grows _ _)
  · exact Grows.trans (Grows.of_eq (by simp)) (formAll_grows _ _)

/-! ## A flush (R29, R174) -/

/-- After a flush the queue is empty and nothing else of the OI has changed. -/
@[simp] theorem flushQueue_oi (b : Bool) (s : State) : (flushQueue b s).oi = { s.oi with queue := [] } := by
  unfold flushQueue
  dsimp only
  (repeat' split) <;> simp

/-- The verdict unit after records with these contents, one after another. -/
def vduAll (identity : Identity) (xs : List VerdictContent) (v : Vdu) : Vdu :=
  xs.foldl (fun v x => vduWith x identity v) v

theorem formAll_vdu : ∀ (xs : List VerdictContent) (s : State), (formAll xs s).vdu = vduAll s.bem.current xs s.vdu
  | [], _ => rfl
  | x :: xs, s => by
    show (formAll xs (formVerdict x s)).vdu = _
    rw [formAll_vdu xs (formVerdict x s)]
    simp [vduAll]

theorem vduAll_append (i : Identity) (xs ys : List VerdictContent) (v : Vdu) :
    vduAll i (xs ++ ys) v = vduAll i ys (vduAll i xs v) := by
  simp [vduAll]

theorem recordsOf_length (i : Identity) : ∀ (xs : List VerdictContent) (n : Half), (recordsOf i n xs).length = xs.length
  | [], _ => rfl
  | x :: xs, n => by simp [recordsOf, recordsOf_length i xs]

/-- A sequence number counted on by one, then by n. -/
theorem seq_add_succ (v : Half) (n : Nat) : v + 1 + BitVec.ofNat 16 n = v + BitVec.ofNat 16 (n + 1) := by
  rw [BitVec.add_assoc, BitVec.add_comm 1, show (1 : Half) = BitVec.ofNat 16 1 from rfl, ← BitVec.ofNat_add]

/-- What records formed one after another leave in each part of the verdict unit; the summary has no part in the rest.
-/
theorem vduAll_parts (i : Identity) : ∀ (xs : List VerdictContent) (v : Vdu),
    (vduAll i xs v).ring = (recordsOf i v.seq xs).foldl joinRing v.ring ∧
    (vduAll i xs v).seq = v.seq + BitVec.ofNat 16 xs.length ∧
    (vduAll i xs v).lastJudged = (xs.getLast?.map (·.checkId)).getD v.lastJudged ∧
    (vduAll i xs v).summary = xs.foldl (fun m x => m.merge x.checkId x.outcome) v.summary
  | [], v => by simp [vduAll, recordsOf]
  | x :: xs, v => by
    obtain ⟨h1, h2, h3, h4⟩ := vduAll_parts i xs (vduWith x i v)
    refine ⟨h1, h2.trans (seq_add_succ v.seq xs.length), h3.trans ?_, h4⟩
    cases hl : xs.getLast? with
    | none => simp_all [vduWith, List.getLast?_eq_none_iff]
    | some y => simp [List.getLast?_cons, hl]

theorem takeSummary_records (s : State) : (takeSummary s).vdu.ring = s.vdu.ring ∧
    (takeSummary s).vdu.seq = s.vdu.seq ∧ (takeSummary s).vdu.lastJudged = s.vdu.lastJudged := by
  unfold takeSummary
  dsimp only
  split <;> simp

/-- Two verdict units that differ in the summary alone form the same records. -/
theorem vduAll_congr (i : Identity) (xs : List VerdictContent) {v w : Vdu} (h1 : v.ring = w.ring)
    (h2 : v.seq = w.seq) (h3 : v.lastJudged = w.lastJudged) : (vduAll i xs v).ring = (vduAll i xs w).ring ∧
    (vduAll i xs v).seq = (vduAll i xs w).seq ∧ (vduAll i xs v).lastJudged = (vduAll i xs w).lastJudged := by
  obtain ⟨a1, a2, a3, -⟩ := vduAll_parts i xs v
  obtain ⟨b1, b2, b3, -⟩ := vduAll_parts i xs w
  rw [a1, a2, a3, b1, b2, b3, h1, h2, h3]
  exact ⟨rfl, rfl, rfl⟩

/-- A summary taken among records leaves the records as they would be without it. -/
theorem formAll_around_take (xs : List VerdictContent) (n : Nat) (s : State) :
    let t := formAll (xs.drop n) ((takeSummary (formAll (xs.take n) s)).setTaken true)
    let w := vduAll s.bem.current xs s.vdu
    t.vdu.ring = w.ring ∧ t.vdu.seq = w.seq ∧ t.vdu.lastJudged = w.lastJudged := by
  obtain ⟨r1, r2, r3⟩ := takeSummary_records (formAll (xs.take n) s)
  have := vduAll_congr s.bem.current (xs.drop n) r1 r2 r3
  simpa [formAll_vdu, ← vduAll_append] using this

theorem takeWaits_of_noTakeNext {s : State} (h : NoTakeNext s) : takeWaits s = false := by
  unfold takeWaits
  split
  · rename_i f rest hp
    exact absurd hp (h f rest)
  · rfl

/-- A flush in the words of the claims. -/
theorem flushQueue_eq (b : Bool) (s : State) : flushQueue b s =
    let emptied := s.setOi { s.oi with queue := [] }
    let n := Config.takenAfter s.choices
    let first := formAll ((s.flushed b).take n) (emptied.setChoices (s.choices + 1))
    if takeWaits s then
      if n < (s.flushed b).length then formAll ((s.flushed b).drop n) ((takeSummary first).setTaken true) else first
    else formAll (s.flushed b) emptied := rfl

/-- A flush gives one NOT_RUN record for each order, oldest first. -/
theorem flushQueue_formed (b : Bool) (s : State) : Formed s (flushQueue b s) (s.flushed b) := by
  obtain ⟨h1, h2, h3, h4⟩ := vduAll_parts s.bem.current (s.flushed b) s.vdu
  have all : ∀ t : State, t.bem.current = s.bem.current → t.vdu = s.vdu →
      Formed s (formAll (s.flushed b) t) (s.flushed b) := fun t hb hv => by
    unfold Formed
    rw [formAll_vdu, hb, hv]
    exact ⟨h1, h2, h3, fun _ => h4⟩
  rw [flushQueue_eq]
  dsimp only
  split
  · rename_i h
    split
    · obtain ⟨r1, r2, r3⟩ := formAll_around_take (s.flushed b) (Config.takenAfter s.choices)
        ((s.setOi { s.oi with queue := [] }).setChoices (s.choices + 1))
      exact ⟨r1.trans h1, r2.trans h2, r3.trans h3, fun hn => by simp [takeWaits_of_noTakeNext hn] at h⟩
    · rename_i hlt
      rw [List.take_of_length_le (by omega)]
      exact all _ (by simp) (by simp)
  · exact all _ (by simp) (by simp)

/-- Records formed after records formed. -/
theorem Formed.trans {s t u : State} {xs ys : List VerdictContent} (h1 : Formed s t xs) (h2 : Formed t u ys)
    (hb : t.bem.current = s.bem.current) (hp : t.pending = s.pending) : Formed s u (xs ++ ys) := by
  obtain ⟨a1, a2, a3, a4⟩ := h1
  obtain ⟨b1, b2, b3, b4⟩ := h2
  obtain ⟨c1, c2, c3, -⟩ := vduAll_parts s.bem.current (xs ++ ys) s.vdu
  obtain ⟨d1, d2, d3, -⟩ := vduAll_parts s.bem.current xs s.vdu
  obtain ⟨e1, e2, e3, -⟩ := vduAll_parts s.bem.current ys (vduAll s.bem.current xs s.vdu)
  rw [d1, d2] at e1
  rw [d2] at e2
  rw [d3] at e3
  refine ⟨?_, ?_, ?_, fun hn => ?_⟩
  · rw [← c1, vduAll_append, e1, b1, hb, a2, a1]
  · rw [← c2, vduAll_append, e2, b2, a2]
  · rw [← c3, vduAll_append, e3, b3, a3]
  · rw [b4 (by simpa only [NoTakeNext, hp] using hn), a4 hn, List.foldl_append]

/-- A check ended by an event gives one record with the event's outcome (R83, R88). -/
theorem terminate_formed {c : CheckRecord} {s : State} (h : s.ckr = some c) (v : Verdict)
    (m : VerdictFlags → VerdictFlags) :
    Formed s (terminate v m s) [c.contentEndedBy v (m c.flags)] := by
  unfold Formed
  rw [terminate_vdu h]
  simp [vduWith, recordsOf, CheckRecord.contentEndedBy, CheckRecord.endedContent, OrderRec.kind]

end Sys2Proof.Machine
end

