-- ==== Sys2Proof/Laws/Settle.lean ====
section
/-! SUPPORT. When nothing comes about by itself: `settle` leaves such a state as it is. -/

namespace Sys2Proof.Machine

theorem settle_of_micro_none {s : State} (h : micro s = none) : settle s = s := by
  simp [settle, runOn, h]

theorem micro_none_of_atRest {s : State} (h : AtRest s) : micro s = none := by
  obtain ⟨h1, h2, h3⟩ := h
  simp [micro, h1, h2, h3]

theorem micro_none_of_waits {s : State} {c : CheckRecord} (h : s.ckr = some c) (hw : c.Waits) : micro s = none := by
  rcases hw with hs | ⟨hs, hn⟩ | ⟨hs, hn⟩ | ⟨hs, hn⟩
  · simp [micro, h, hs]
  · simp [micro, h, hs, hn]
  · simp only [micro, h, hs]
    split <;> simp_all
  · have hi : c.stageTimer.isNone = false := by
      cases ht : c.stageTimer <;> simp_all
    simp [micro, h, hs, settled, hi]

theorem micro_none_of_still {s : State} (h : Still s) : micro s = none := by
  rcases h with h | ⟨c, hc, hw⟩
  · exact micro_none_of_atRest h
  · exact micro_none_of_waits hc hw

/-- A state in which nothing comes about by itself is left as it is. -/
theorem settle_of_still {s : State} (h : Still s) : settle s = s := settle_of_micro_none (micro_none_of_still h)

/-- Being still depends on the OI and the check alone. -/
theorem Still.congr {s t : State} (h : Still s) (ho : t.oi = s.oi) (hc : t.ckr = s.ckr) : Still t := by
  rcases h with ⟨h1, h2, h3⟩ | ⟨c, h1, h2⟩
  · exact .inl ⟨by rw [hc, h1], by rw [ho, h2], by rw [ho]; exact h3⟩
  · exact .inr ⟨c, by rw [hc, h1], h2⟩

/-- With no check, an empty queue and the station RUNNING, the station becomes READY and nothing more comes about. -/
theorem settle_of_idle {s : State} (hc : s.ckr = none) (hq : s.oi.queue = []) (hr : s.oi.station = .running) :
    settle s = s.setOi { s.oi with station := .ready } := by
  have h1 : micro s = some (s.setOi { s.oi with station := .ready }) := by
    simp [micro, hc, hq, hr, stationIdle]
  have h2 : micro (s.setOi { s.oi with station := .ready }) = none := by simp [micro, hc, hq]
  simp [settle, runOn, h1, h2]

/-- With no check and no room to start one, a RUNNING station becomes READY and its orders stay queued (R21). -/
theorem settle_of_blocked {s : State} (hc : s.ckr = none) (hb : s.spu.blocksStart = true)
    (hr : s.oi.station = .running) : settle s = s.setOi { s.oi with station := .ready } := by
  have h1 : micro s = some (s.setOi { s.oi with station := .ready }) := by
    cases hq : s.oi.queue <;> simp [micro, hc, hq, hr, stationIdle, mayStart, hb]
  have h2 : micro (s.setOi { s.oi with station := .ready }) = none := by
    cases hq : s.oi.queue <;> simp [micro, hc, hq, mayStart, hb]
  simp [settle, runOn, h1, h2]

/-- One thing comes about by itself, after which the state is still. -/
theorem settle_of_one {s t : State} (h : micro s = some t) (ht : micro t = none) : settle s = t := by
  simp [settle, runOn, h, ht]

/-- Two things come about by themselves, after which the state is still. -/
theorem settle_of_two {s t u : State} (h : micro s = some t) (ht : micro t = some u) (hu : micro u = none) :
    settle s = u := by
  simp [settle, runOn, h, ht, hu]

end Sys2Proof.Machine
end

