-- ==== Sys2Proof/Tests/Slice0.lean ====
section
/-! SUPPORT. The model's own tests: the well-formedness checks, the manual's worked examples, one step of each command,
and for each obligation with hypotheses a state that meets them. Expected values come from the rule named. -/

namespace Sys2Proof.Tests

-- One theorem at a time: each kernel evaluation would else hold a thread of its own.
set_option Elab.async false

open Sys2Proof Machine

/-! ## Helpers -/

/-- The outcome is a next state that meets a test. -/
def after (o : Result) (p : State → Bool) : Bool :=
  match o with
  | .next t => p t
  | _ => false

/-- Nest 5 of group 1 right after reset. -/
def nest : State := State.resetWith 5 1 0 0 0 []

/-- The nest READY. -/
def ready : State := nest.setOi { nest.oi with station := .ready }

/-- The rail of a state set. -/
def railed (r : RailState) (s : State) : State := s.setSpu { s.spu with rail := r, effective := 12000, setpoint := 12000 }

/-- An order. -/
def orderOf (id : Half) (actions : List Action) (meas : Option Measurement) (prompt : Option Prompt) : OrderRec :=
  ⟨id, actions, 100, meas, none, none, none, prompt, false⟩

/-- A check at a stage. -/
def checkAt (o : OrderRec) (stage : Stage) (waits : OpenRequest) : CheckRecord :=
  { newRecord o nest with stage := stage, waitsOn := waits }

/-- RUNNING a check. -/
def running (k : CheckRecord) : State := (ready.setOi { ready.oi with station := .running }).setCkr (some k)

/-- RUNNING a check, with a claim held. -/
def claiming (k : CheckRecord) (c : OwnClaim) : State := (running k).setClu { nest.clu with claim := some c }

/-- A CURRENT check of 4 ms in its window, with limits 300 to 600. -/
def currentCheck : CheckRecord :=
  checkAt { orderOf 301 [] (some (.current 4)) none with low := some 300, high := some 600 } .measuring .measurement

/-- The contention condition of a state set. -/
def inCondition (c : Contention) (s : State) : State := s.setRli { s.rli with contention := c }

/-- A frame of the line station to nest 5. -/
def toNest (kind : FrameKind) (p : List Byte) : RxFrame := received (frameBytes 30 5 kind p)

/-- A broadcast of the line station. -/
def toAll (kind : FrameKind) (p : List Byte) : RxFrame := received (frameBytes 30 31 kind p)

/-- An announcement. -/
def announcement (slot : BitVec 4) (noisy : Bool) (claim : Option AnnClaim) : Announcement :=
  ⟨slot, 1, .ready, false, false, .off, 0, noisy, false, 0, 0, claim⟩

/-- The frame of an announcement. -/
def announceFrame (a : Announcement) : RxFrame :=
  received (frameBytes (nestAddress a.slot) 31 .announce a.payload)

/-- A frame of noise. -/
def noise : RxFrame := [⟨0x55, true⟩]

/-- Payloads of chapter 11, reference 7. -/
def abortPayload (flags : Byte) (target : Byte) : List Byte := [7, 0, 1, flags, target, 0]
def restartPayload : List Byte := [7, 0, 2]
def beginPayload : List Byte := [7, 0, 3, 0x12, 0x04]
def endPayload : List Byte := [7, 0, 4]
def clearPayload : List Byte := [7, 0, 5]
def takePayload : List Byte := [7, 0, 6]
def rackPayload : List Byte := [7, 0, 1, 0x2c, 0x01, 65, 0, 5, 200]
def supplyPayload : List Byte := [7, 0, 2, 50, 0, 9, 100, 0]
def lightPayload : List Byte := [7, 0, 3, 3, 0xb8, 0x0b, 50, 0, 8, 4, 12, 128, 0, 1, 7]
def operatorPayload : List Byte := [7, 0, 4, 3, 0x20, 0x03, 0, 0, 7, 16]
def messagePayload : List Byte :=
  [7, 0, 5, 3, 0xa0, 0x01, 8, 20, 0, 5, 0, 0, 0, 0, 0, 0, 0, 0, 0xff, 3, 56, 4, 6]
def capturePayload : List Byte := [7, 0, 6, 2, 0xff, 0xff, 9]

/-- The ORDER 301 of section 4.5, byte by byte. -/
def order301Payload : List Byte :=
  [0x2d, 0x01, 0x7c, 0xe8, 0x03,
    0x01, 0xbc, 0x34, 50, 0,
    0x14, 3, 8, 16, 0xe0, 0x2e, 0, 0, 64, 0, 100, 0, 0, 0, 0, 0,
    0x14, 5, 0, 1, 1, 0, 0, 0, 1, 0, 1, 0, 0, 0, 0, 0,
    0x14, 3, 8, 16, 0x70, 0x17, 0, 0, 64, 0, 100, 0, 0, 0, 0, 0,
    0x02, 200, 0, 0x2c, 0x01, 0, 0, 0x58, 0x02, 0, 0, 20]

/-- A CURRENT order with id 9, settle 65000 ms and no action. -/
def currentOrderPayload : List Byte := [9, 0, 0x08, 0xe8, 0xfd, 0x02, 4, 0]

/-- The order that payload holds. -/
def currentOrder : OrderRec := ⟨9, [], 65000, some (.current 4), none, none, none, none, false⟩

/-! ## Well-formedness: each check refuses an ill-formed command -/

theorem wf_accepts_query : Instr.wf (.query (toNest .query [9, 0])) = true := by decide +kernel
theorem wf_accepts_announce : Instr.wf (.announceReceived (announceFrame (announcement 3 false none))) = true := by
  decide +kernel
theorem wf_refuses_empty_discarded : Instr.wf (.frameDiscarded []) = false := by decide
theorem wf_refuses_empty_remainder : Instr.wf (.abandonedRemainderEnd []) = false := by decide
theorem wf_refuses_own_slot_from_line_station : Instr.wf (.ownSlotFrame (toNest .query [9, 0])) = false := by
  decide +kernel
theorem wf_refuses_peer_reply_of_another_kind : Instr.wf (.peerReplyFrame (toNest .query [9, 0])) = false := by
  decide +kernel
theorem wf_refuses_announce_of_another_kind : Instr.wf (.announceReceived (toNest .query [9, 0])) = false := by
  decide +kernel
theorem wf_refuses_order_of_another_kind : Instr.wf (.order (toNest .query [9, 0])) = false := by decide +kernel
theorem wf_refuses_query_of_another_kind : Instr.wf (.query (toNest .order [9, 0])) = false := by decide +kernel
theorem wf_refuses_abort_of_another_kind : Instr.wf (.controlAbort (toNest .control endPayload)) = false := by
  decide +kernel
theorem wf_refuses_restart_of_another_kind : Instr.wf (.controlRestart (toNest .control endPayload)) = false := by
  decide +kernel
theorem wf_refuses_begin_of_another_kind : Instr.wf (.controlBeginDut (toNest .control endPayload)) = false := by
  decide +kernel
theorem wf_refuses_end_of_another_kind : Instr.wf (.controlEndDut (toNest .control takePayload)) = false := by
  decide +kernel
theorem wf_refuses_clear_of_another_kind : Instr.wf (.controlClearHold (toNest .control endPayload) true) = false := by
  decide +kernel
theorem wf_refuses_take_of_another_kind : Instr.wf (.controlTakeSummary (toNest .control endPayload)) = false := by
  decide +kernel
theorem wf_refuses_malformed_that_is_not : Instr.wf (.controlMalformed (toNest .control endPayload)) = false := by
  decide +kernel
theorem wf_refuses_rack_of_another_section : Instr.wf (.configureRack (toNest .configure supplyPayload)) = false := by
  decide +kernel
theorem wf_refuses_supply_of_another_section : Instr.wf (.configureSupply (toNest .configure rackPayload)) = false := by
  decide +kernel
theorem wf_refuses_light_of_another_section : Instr.wf (.configureLight (toNest .configure rackPayload)) = false := by
  decide +kernel
theorem wf_refuses_operator_of_another_section :
    Instr.wf (.configureOperator (toNest .configure rackPayload)) = false := by decide +kernel
theorem wf_refuses_message_of_another_section :
    Instr.wf (.configureMessage (toNest .configure rackPayload)) = false := by decide +kernel
theorem wf_refuses_capture_of_another_section :
    Instr.wf (.configureCapture (toNest .configure rackPayload)) = false := by decide +kernel
theorem wf_refuses_invalid_that_is_not : Instr.wf (.configureInvalid (toNest .configure rackPayload)) = false := by
  decide +kernel
theorem wf_refuses_discharge_at_500 : Instr.wf (.dischargeBelowThreshold 500) = false := by decide
theorem wf_refuses_wide_identifier : Instr.wf (.clusterFrameReceived ⟨false, false, 2048, []⟩) = false := by decide
theorem wf_refuses_long_data :
    Instr.wf (.clusterFrameReceived ⟨false, false, 1, [1, 2, 3, 4, 5, 6, 7, 8, 9]⟩) = false := by decide
theorem wf_refuses_remote_with_data : Instr.wf (.clusterFrameReceived ⟨false, true, 1, [1]⟩) = false := by decide
theorem wf_refuses_empty_block : Instr.wf (.lightBlockComplete 0 []) = false := by decide
theorem wf_refuses_empty_rerange : Instr.wf (.lightWindowRerange 0 []) = false := by decide
theorem wf_refuses_empty_light_window : Instr.wf (.lightWindowComplete 0 []) = false := by decide
theorem wf_refuses_empty_current : Instr.wf (.currentWindowComplete []) = false := by decide
theorem wf_refuses_current_above_5000 : Instr.wf (.currentWindowComplete [5001]) = false := by decide
theorem wf_refuses_empty_sound : Instr.wf (.soundWindowComplete []) = false := by decide

/-! ## The manual's worked examples -/

/-- R4: the nine bytes 0x31 to 0x39 give 0x29B1. -/
theorem test_crc_check_value : crc16 [0x31, 0x32, 0x33, 0x34, 0x35, 0x36, 0x37, 0x38, 0x39] = 0x29b1#16 := by
  decide +kernel

/-- R3: 60 bit times with no payload, 1,340 with 128 bytes. -/
theorem test_frame_times : frameBitTimes 0 = 60 ∧ frameBitTimes 128 = 1340 := by decide

/-- Section 1.5: positions of nest 5 and of the line station in windows 0 and 1. -/
theorem test_position_times :
    [positionBitTimes 0 5, positionBitTimes 1 5, positionBitTimes 0 22, positionBitTimes 1 22, positionBitTimes 0 16,
      positionBitTimes 1 33] = [40, 176, 108, 244, 84, 288] := by decide

/-- Section 4.5: ORDER 301 reads as its record. -/
theorem test_order_301 : parseOrder order301Payload = some
    ⟨301, [.supplySet 13500 50, .fieldWrite ⟨3, 8, 16, false, 12000, 64, 100, 0, true, false⟩,
      .fieldWrite ⟨5, 0, 1, false, 1, 1, 1, 0, true, false⟩, .fieldWrite ⟨3, 8, 16, false, 6000, 64, 100, 0, true, false⟩],
      1000, some (.current 200), some 300, some 600, some 20, none, false⟩ := by decide +kernel

/-- R194: a payload one byte too long is no order. -/
theorem test_order_too_long : parseOrder (order301Payload ++ [0]) = none := by decide +kernel

/-- Section 11.4: the bytes of an ANNOUNCE, a RECEIPT and a VERDICT. -/
theorem test_announce_bytes :
    (⟨5, 1, .running, false, true, .ramping, 0x0102, true, false, 3, 4, some ⟨.inrush, 9, true, 20⟩⟩ :
      Announcement).payload = [0x15, 2, 6, 2, 2, 1, 3, 0, 4, 0, 1, 9, 1, 20] := by decide +kernel
theorem test_receipt_bytes : (⟨.order, 0x0102, .held, 8⟩ : Receipt).payload = [2, 2, 1, 4, 8] := by decide
theorem test_verdict_bytes :
    (⟨⟨301, .pass, some (-2), .light, some 26, none, { pinned := true }, some 1⟩, ⟨some 1042, none⟩, 61⟩ :
      VerdictRecord).payload =
    [0x2d, 1, 0, 0x1b, 1, 0xfe, 0xff, 0xff, 0xff, 26, 0, 0, 4, 1, 0x12, 4, 0, 0, 0, 0, 0, 0, 0, 0, 0, 0, 61, 0] := by
  decide +kernel

/-- Section 6.5: the five cases of the field arithmetic: the raw value after the clamp. -/
theorem test_field_arithmetic :
    [rawClamped ⟨3, 8, 16, false, 12000, 64, 100, 0, true, false⟩,
      rawClamped ⟨3, 8, 16, false, 110000, 64, 100, 0, true, false⟩,
      rawClamped ⟨3, 0, 8, false, -405, 1, 10, -400, true, false⟩,
      rawClamped ⟨3, 0, 8, false, 905, 1, 10, -400, true, false⟩,
      rawClamped ⟨3, 0, 6, true, -75, 1, 5, 0, true, false⟩] = [7680, 65535, 0, 131, -15] ∧
    rawExact ⟨3, 0, 8, false, -405, 1, 10, -400, true, false⟩ = -1 ∧ patternOf (-15) 6 = 49 := by decide +kernel

/-- Section 8.6: the six cases of the bus-field scaling. -/
theorem test_bus_field_scaling :
    [scaleBusField ⟨0, 0, 16, false, 64, 100, 0⟩ 7680, scaleBusField ⟨0, 0, 16, false, 64, 100, 0⟩ 7681,
      scaleBusField ⟨0, 0, 8, false, 1, 10, -400⟩ 131, scaleBusField ⟨0, 0, 6, true, 1, 5, 0⟩ (-15),
      scaleBusField ⟨0, 0, 6, true, 64, 100, 0⟩ (-3), scaleBusField ⟨0, 0, 6, true, 2, 1, 0⟩ (-1)] =
    [12000, 12002, 910, -75, -5, -1] := by decide +kernel

/-- R144: the examples for target 2048. -/
theorem test_block_steps :
    [fullStep true 600 2048, fullStep false 0 2048, fullStep false 600 2048, fullStep false 1200 2048,
      fullStep false 2000 2048, fullStep false 2065 2048, fullStep false 3000 2048] = [-8, 8, 8, 6, 0, 0, -4] ∧
    reducedStep true 1 (-3) = -1 ∧ reducedStep true 1 1 = 0 ∧ reducedStep true 1 (-8) = -4 := by decide +kernel

/-- Chapter 7's worked windows: 621 at gain code 26, 151 at gain code 30. -/
theorem test_luminance : luminance 515840 3000 256 26 = 621 ∧ luminance 130095 1024 64 30 = 151 := by decide +kernel

/-- Section 8.2: a sum of 82,350 over 200 samples is 412 mA, one of 82,299 is 411 mA. -/
theorem test_current_mean : roundHalfUp 82350 200 = 412 ∧ roundHalfUp 82299 200 = 411 := by decide

/-- R53: the five examples, the own claim from slot 4. -/
theorem test_precedence :
    [precedes 10 4 11 9, precedes 254 4 1 2, precedes 1 4 254 2, precedes 254 4 126 2, precedes 7 4 7 12] =
      [true, true, false, false, true] := by decide +kernel

/-- Section 3.7: nest 1's ticket past slots 2 and 3, whose tickets are 1 and 2. -/
theorem test_ticket_walk :
    newTicket ((State.resetWith 1 0 0 0 0 []).setClu { Clu.reset with
      peers := (Vector.replicate 16 PeerEntry.reset).setIfInBounds 2 ⟨.live, 0, 0, false, some ⟨.inrush, 1, false, 15⟩⟩
        |>.setIfInBounds 3 ⟨.live, 0, 0, false, some ⟨.inrush, 2, false, 15⟩⟩ }) .inrush = 3 := by decide +kernel

/-- Section 6.4: slot 3 with its counter at 14 goes out with 15 and 205, then with 0 and 190. -/
theorem test_counter_and_checksum :
    let m : MessageSlot := ⟨true, 416, 8, 0x0e000000001e0000#64, 20, 5, true, some (56, 4), some 6, false⟩
    snapshotPayload m = 0x0fcd0000001e0000#64 ∧
      snapshotPayload { m with payload := snapshotPayload m } = 0x00be0000001e0000#64 := by decide +kernel

/-- Section 10.8: 0xACE1 goes to 0x4722 after 16 steps, and the code is 8210. -/
theorem test_generator : generatorSteps 16 0xace1#16 = 0x4722#16 ∧ (0x4722#16).toNat % 10000 = 8210 := by
  decide +kernel

/-- R178: lines 3 and 4 of a panel. -/
theorem test_panel_lines :
    line3 (ready.setOi { ready.oi with station := .hold, limitHold := true }) = "HOLD OPER           " ∧
    line3 (ready.setOpu { nest.opu with state := .challenge, attempts := 1, entry := [8, 2] }) =
      "RETRY 82__          " ∧
    line4 (running currentCheck) = "  301               " := by decide +kernel

/-! ## One step of each command -/

/-- R195, R18: an open strap reads 1. -/
theorem test_power_on_reset : after (exec (.powerOnReset 3 2) (running currentCheck)) (fun t =>
    t.rli.slot == 3 && t.rli.group == 2 && t.ckr.isNone && t.oi.station == .unconfigured &&
      t.rli.contention == .syncing) = true := by decide +kernel
theorem test_reset_pin_low : after (exec (.resetPinLow 10) ready) (fun t => t.resetHeld) = true ∧
    after (exec (.resetPinLow 9) ready) (fun t => t == ready) = true := by decide +kernel
theorem test_reset_pin_release : after (exec (.resetPinRelease 15 3) (nest.setResetHeld true)) (fun t =>
    t == State.reset.setSpu nest.spu) = true := by decide +kernel

/-- R9. -/
theorem test_line_dominant : after (exec .lineDominant (inCondition .gap nest)) (fun t =>
    t.rli.contention == .busy) = true := by decide +kernel
theorem test_sync_idle_end : after (exec .syncIdleEnd nest) (fun t => t.rli.contention == .window 0) = true := by
  decide +kernel
theorem test_idle_gap_end : after (exec .idleGapEnd (inCondition .gap nest)) (fun t =>
    t.rli.contention == .window 0) = true := by decide +kernel

/-- The nest with a NORMAL announcement and a RECEIPT behind a VERDICT, as nest 3 of section 1.5. -/
def talking : State :=
  let s := inCondition (.window 0) ready
  s.setRli { s.rli with
    buffer := some (announcement 5 false none, .normal)
    replies := [.verdict ⟨⟨412, .pass, none, .none, none, none, {}, none⟩, ⟨none, none⟩, 1⟩,
      .receipt ⟨.order, 413, .accepted, 8⟩] }

/-- Section 1.5, steps 1 and 3: nothing at the URGENT position, the announcement at the NORMAL one. -/
theorem test_position_start :
    after (exec (.positionStart 5) talking) (fun t => t.rli.contention == .window 5) = true ∧
    after (exec (.positionStart 22) talking) (fun t => match t.rli.contention with
      | .transmitting tx => tx.frame == .announce (announcement 5 false none) && tx.levels.length == 200
      | _ => false) = true := by decide +kernel

/-- R13: the fairness flag is cleared at the end of a recessive window. -/
theorem test_window_end : after (exec .windowEnd (talking.setRli { talking.rli with fairness := true })) (fun t =>
    t.rli.fairness == false && t.rli.contention == .window 0) = true := by decide +kernel

/-- The nest while it sends its announcement. -/
def sending (rewritten : Bool) : State :=
  inCondition (.transmitting ⟨.announce (announcement 5 false none), .normal, [], rewritten⟩) talking

/-- R14, section 1.6: nest B stops and counts 1; the third is a duplicate slot. -/
theorem test_readback_difference :
    after (exec .readbackDifference (sending false)) (fun t =>
      t.rli.collisions == 1 && t.rli.contention == .busy && t.rli.drove && t.rli.buffer.isSome) = true ∧
    after (exec .readbackDifference ((sending false).setRli { (sending false).rli with collisions := 2 })) (fun t =>
      t.rli.silent && t.oi.station == .silent && t.rli.replies == []) = true := by decide +kernel

/-- R13, R15: the buffer is empty and the fairness flag set; a rewritten frame stays. -/
theorem test_frame_sent_in_full :
    after (exec .frameSentInFull (sending false)) (fun t =>
      t.rli.buffer.isNone && t.rli.fairness && t.rli.contention == .gap && t.rli.replies.length == 2) = true ∧
    after (exec .frameSentInFull (sending true)) (fun t => t.rli.buffer.isSome) = true := by decide +kernel

/-- R6: noise leaves no trace but the frame end. -/
theorem test_frame_discarded : after (exec (.frameDiscarded noise) (inCondition .busy (talking.setRli
    { talking.rli with fairness := true }))) (fun t => t.rli.contention == .gap && t.rli.fairness) = true := by
  decide +kernel

/-- R8: an announcement of the own slot. -/
theorem test_own_slot_frame : after (exec (.ownSlotFrame (announceFrame (announcement 5 false none))) ready) (fun t =>
    t.rli.silent && t.oi.station == .silent && t.clu.announceTimer.isNone) = true := by decide +kernel

/-- A RECEIPT that nest 3 sent to nest 5. -/
def strayReply : RxFrame := received (frameBytes 3 5 .receipt [2, 1, 0, 0, 8])

/-- R7, R9, R13: a SILENT station sees the end of the frame alone. -/
theorem test_peer_reply_frame :
    let fair (b : Bool) := inCondition .busy (ready.setRli { ready.rli with fairness := true, silent := b })
    after (exec (.peerReplyFrame strayReply) (fair false)) (fun t =>
      t.rli.fairness == false && t.clu == ready.clu && t.oi == ready.oi) = true ∧
    after (exec (.peerReplyFrame strayReply) (fair true)) (fun t => t.rli.fairness && t.rli.contention == .gap) =
      true := by decide +kernel

/-- R46: nest 3's claim is in the view, LIVE with age 0; its own group's place is not given. -/
theorem test_announce_received : after (exec (.announceReceived (announceFrame
    (announcement 3 true (some ⟨.inrush, 7, true, 40⟩)))) ready) (fun t =>
    t.clu.peers[3] == ⟨.live, 0, 1, true, some ⟨.inrush, 7, true, 40⟩⟩) = true := by decide +kernel

/-- R24, R27: ACCEPTED and CLAMPED to 60000 ms; with the queue empty the check starts at once. -/
theorem test_order :
    after (exec (.order (toNest .order currentOrderPayload)) ready) (fun t =>
      t.rli.replies == [.receipt ⟨.order, 9, .accepted, 7⟩] && t.oi.station == .running && t.oi.queue == [] &&
        (t.ckr.map fun c => c.flags.clamped && c.stageTimer == some 60000) == some true) = true ∧
    after (exec (.order (toNest .order currentOrderPayload)) nest) (fun t =>
      t.rli.replies == [.receipt ⟨.order, 9, .unconfigured, 8⟩]) = true := by decide +kernel

/-- Two orders queued behind a check. -/
def queued : State :=
  (running currentCheck).setOi { (running currentCheck).oi with queue := [orderOf 302 [] none none, orderOf 303 [] none none] }

/-- Section 2.5: RECEIPT with 8 free, then ABORTED, then NOT_RUN for each. -/
theorem test_control_abort : after (exec (.controlAbort (toNest .control (abortPayload 1 0))) queued) (fun t =>
    t.ckr.isNone && t.oi.station == .ready && t.rli.replies.head? == some (.receipt ⟨.control, 7, .accepted, 8⟩) &&
      t.vdu.ring.map (fun r => (r.content.checkId, r.content.outcome)) ==
        [(301, .aborted), (302, .notRun), (303, .notRun)]) = true := by decide +kernel
/-- R32: the buffers are emptied before the RECEIPT; R19: a transmission in progress is abandoned, uncounted. -/
theorem test_control_restart :
    after (exec (.controlRestart (toNest .control restartPayload)) (talking.setOi
      { ready.oi with station := .hold, limitHold := true })) (fun t =>
      t.rli.replies == [.receipt ⟨.control, 7, .accepted, 8⟩] && t.oi.station == .hold && t.oi.limitHold) = true ∧
    after (exec (.controlRestart (toNest .control restartPayload)) (sending false)) (fun t =>
      t.rli.contention == .busy && t.rli.drove && t.rli.buffer.isNone && t.rli.collisions == 0) = true := by
  decide +kernel
/-- Section 6.8: BEGIN_DUT 1042. -/
theorem test_control_begin_dut : after (exec (.controlBeginDut (toNest .control beginPayload)) ready) (fun t =>
    t.bem.given == some 1042 && t.bem.received.isNone && t.bem.current == ⟨some 1042, none⟩) = true := by decide +kernel
/-- R34, R99: a rail that is ON discharges; the reading here is 0 mV, so that OFF is reached at once. -/
theorem test_control_end_dut : after (exec (.controlEndDut (toNest .control endPayload)) (railed .on queued)) (fun t =>
    t.spu.rail == .off && t.oi.queue == [] && t.oi.station == .ready && t.vdu.seq == 3) = true := by decide +kernel
/-- R35. -/
theorem test_control_clear_hold :
    let held := (railed .safe ready).setOi { ready.oi with station := .hold, safeHold := true }
    after (exec (.controlClearHold (toNest .control clearPayload) true) held) (fun t =>
      t.spu.rail == .off && t.oi.station == .ready && !t.oi.safeHold) = true ∧
    after (exec (.controlClearHold (toNest .control clearPayload) false) held) (fun t =>
      t.oi.station == .hold && t.rli.replies == [.receipt ⟨.control, 7, .held, 8⟩]) = true := by decide +kernel
/-- Section 9.5: judged 3, failed 1, first failed 402; the summary is empty afterwards. -/
theorem test_control_take_summary :
    let m : Summary := ⟨3, 1, some 402, 0b1101⟩
    after (exec (.controlTakeSummary (toAll .control takePayload)) (ready.setVdu { ready.vdu with summary := m, seq := 60 }))
      (fun t => t.rli.replies == [.summary ⟨m, ⟨none, none⟩, 60⟩] && t.vdu.summary == .empty) = true := by decide +kernel
/-- R30: a control kind that does not exist. -/
theorem test_control_malformed : after (exec (.controlMalformed (toNest .control [7, 0, 9])) ready) (fun t =>
    t.rli.replies == [.receipt ⟨.control, 7, .invalid, 8⟩]) = true := by decide +kernel
/-- R37: no record has the id. -/
theorem test_query : after (exec (.query (toNest .query [9, 0])) ready) (fun t =>
    t.rli.replies == [.receipt ⟨.query, 9, .unknownId, 8⟩]) = true := by decide +kernel
/-- R38, R39: a period of 65 ms is 60, a wait limit of 0 s is 1, an inrush of 200 is 100; READY. -/
theorem test_configure_rack : after (exec (.configureRack (toNest .configure rackPayload)) nest) (fun t =>
    t.oi.rack == ⟨300, 60, 1, 5, 100⟩ && t.oi.station == .ready && t.oi.presence == some 5000) = true := by
  decide +kernel
/-- R111: below and above the ranges. -/
theorem test_configure_supply : after (exec (.configureSupply (toNest .configure supplyPayload)) nest) (fun t =>
    t.spu.cfg == ⟨100, 7, 100⟩ && t.oi.station == .unconfigured) = true := by decide +kernel
/-- R140: Gmin 8 above Gmax 4. -/
theorem test_configure_light : after (exec (.configureLight (toNest .configure lightPayload)) nest) (fun t =>
    t.ltu[3].cal == ⟨3000, 50, 8, 8, 8, 128, 1, 7⟩ && t.ltu[3].gain == 8 && t.ltu[2] == nest.ltu[2]) = true := by
  decide +kernel
/-- R192: a seed of 0 is 1. -/
theorem test_configure_operator : after (exec (.configureOperator (toNest .configure operatorPayload)) nest) (fun t =>
    t.opu.cfg == ⟨3, 800, 1, 7, 16⟩ && t.opu.generator == 1) = true := by decide +kernel
/-- R115, section 6.4: slot 3, identifier 416, counter in bits 56 to 59, checksum byte 6. -/
theorem test_configure_message : after (exec (.configureMessage (toNest .configure messagePayload)) nest) (fun t =>
    t.bem.slots[3] == ⟨true, 416, 8, 0xff00000000000000#64, 20, 5, false, some (56, 4), some 6, false⟩) = true := by
  decide +kernel
/-- R128, R194: an identifier above 2047, a purpose above 1. -/
theorem test_configure_capture : after (exec (.configureCapture (toNest .configure capturePayload)) nest) (fun t =>
    t.bem.captures[2] == ⟨true, 2047, true, 0, 0, 65535, false, none⟩) = true := by decide +kernel
/-- R38: a LIGHT section for channel 8. -/
theorem test_configure_invalid : after (exec (.configureInvalid (toNest .configure
    [7, 0, 3, 8, 1, 0, 0, 0, 0, 47, 24, 128, 0, 1, 7])) ready) (fun t =>
    t.rli.replies == [.receipt ⟨.configure, 7, .invalid, 8⟩]) = true := by decide +kernel
/-- Section 2.9: each record of the flush carries LINE_LOST. -/
theorem test_line_presence_expiry : after (exec .linePresenceExpiry queued) (fun t =>
    t.oi.lineLost && t.oi.presence.isNone && t.vdu.ring.all (·.content.flags.lineLost) && t.vdu.seq == 3) = true := by
  decide +kernel

/-- A SUPPLY_SET order at the head of the queue of a READY station, before R21 has acted. -/
def aboutToStart : State :=
  ready.setOi { ready.oi with queue := [orderOf 301 [.supplySet 13505 50] (some (.current 4)) none] }

/-- R21, R72, R95: WAIT_INRUSH at 13500 mV, INRUSH 1 PENDING with the default 15. -/
theorem test_check_start : after (exec .checkStart aboutToStart) (fun t =>
    t.spu.rail == .waitInrush && t.spu.setpoint == 13500 && t.oi.station == .running &&
      t.clu.claim == some ⟨.inrush, 1, false, 15, .ckr, .notBegun, some 30000⟩) = true := by decide +kernel
/-- R43. -/
theorem test_announce_timer_expiry : after (exec .announceTimerExpiry ready) (fun t =>
    t.clu.announceTimer == some 50 && t.rli.buffer == some (announcement 5 false none, .normal)) = true := by
  decide +kernel
/-- A LIVE peer in slot 3, NOISY, with a claim. -/
def withPeer (e : PeerEntry) (s : State) : State := s.setClu { s.clu with peers := s.clu.peers.setIfInBounds 3 e }

/-- R47: the entry keeps its fields. -/
theorem test_peer_stale : after (exec (.peerStale 3) (withPeer ⟨.live, 201, 2, true, none⟩ ready)) (fun t =>
    t.clu.peers[3] == ⟨.stale, 201, 2, true, none⟩) = true := by decide +kernel

/-- A check whose power-up waits for INRUSH. -/
def powering (settle : Settle) : State :=
  railed .waitInrush (claiming (checkAt (orderOf 301 [.supplySet 12000 50] (some (.current 4)) none) .stimulating
    (.claim .inrush)) ⟨.inrush, 3, false, 15, .ckr, settle, some 30000⟩)

/-- A supply retry that waits for INRUSH. -/
def retrying (settle : Settle) : State :=
  railed .waitInrush ((ready.setClu { ready.clu with
    claim := some ⟨.inrush, 3, false, 15, .spu, settle, some 30000⟩ }).setSpu { ready.spu with retry := true })

/-- Section 3.7: 15 beside 40 GRANTED stays within 80 and is GRANTED; beside 70 it waits. -/
theorem test_claim_settle_expiry :
    after (exec .claimSettleExpiry (withPeer ⟨.live, 0, 0, false, some ⟨.inrush, 9, true, 40⟩⟩ (powering (.running 1))))
      (fun t => t.spu.rail == .ramping && (t.clu.claim.map (·.granted)) == some true) = true ∧
    after (exec .claimSettleExpiry (withPeer ⟨.live, 0, 0, false, some ⟨.inrush, 9, true, 70⟩⟩ (powering (.running 1))))
      (fun t => t.spu.rail == .waitInrush && (t.clu.claim.map (·.settle)) == some .passed) = true := by decide +kernel
/-- R60, R72: RACK_BUSY; the rail returns to OFF. R107: a retry ends in SAFE. -/
theorem test_claim_wait_expiry :
    after (exec .claimWaitExpiry (powering .passed)) (fun t => t.spu.rail == .off && t.clu.claim.isNone &&
      t.vdu.ring.map (fun r => r.content.outcome) == [.rackBusy]) = true ∧
    after (exec .claimWaitExpiry (retrying .passed)) (fun t =>
      t.spu.rail == .safe && t.oi.station == .hold && t.oi.safeHold) = true := by decide +kernel

/-- An audible write that waits. -/
def audibleWait : State :=
  let k := checkAt (orderOf 301 [.fieldWrite ⟨9, 16, 4, false, 2, 1, 1, 0, true, true⟩] none none) .stimulating .audible
  (running k).setClu { nest.clu with audible := some 1 }

/-- R64, R76. -/
theorem test_audible_wait_expiry : after (exec .audibleWaitExpiry audibleWait) (fun t =>
    t.clu.audible.isNone && t.vdu.ring.map (fun r => r.content.outcome) == [.rackBusy] && !t.clu.noisy) = true := by
  decide +kernel

/-- The hold of a power-up runs beside a measurement. -/
def holding (deferred : Option ClaimRequest) : State :=
  let s := claiming { currentCheck with holdTimer := some 1 } ⟨.inrush, 3, true, 15, .ckr, .passed, none⟩
  s.setClu { s.clu with deferred := deferred }

/-- R51, R73. -/
theorem test_inrush_hold_expiry :
    after (exec .inrushHoldExpiry (holding none)) (fun t => t.clu.claim.isNone) = true ∧
    after (exec .inrushHoldExpiry (holding (some ⟨.quiet, 0, .ckr⟩))) (fun t =>
      t.clu.claim == some ⟨.quiet, 1, false, 0, .ckr, .notBegun, some 30000⟩) = true := by decide +kernel

/-- A check in SETTLING. -/
def settling (m : Measurement) : CheckRecord :=
  { checkAt (orderOf 301 [] (some m) none) .settling .none with stageTimer := some 1 }

/-- R80, R155. -/
theorem test_check_settle_expiry : after (exec .checkSettleExpiry (running (settling (.current 4)))) (fun t =>
    t.csu.window == .current && t.csu.length == 4 && (t.ckr.map (·.stage)) == some .measuring) = true := by
  decide +kernel

/-- A check that waits for the rail with its only action. -/
def onRail (a : Action) : CheckRecord := checkAt (orderOf 301 [a] (some (.current 4)) none) .stimulating .rail

/-- R96, R72, R109: ON, the recovery timer and the INRUSH hold start. -/
theorem test_ramp_complete : after (exec .rampComplete (railed .ramping (running (onRail (.supplySet 12000 50))))) (fun t =>
    t.spu.rail == .on && t.spu.recovery == some 1000 && t.bem.schedule == some 0 &&
      t.ckr.map (fun c => (c.stage, c.holdTimer)) == some (.settling, some 50)) = true := by decide +kernel
/-- R101: the SUPPLY_OFF in the step of a slew's arrival at 0 mV goes by the last reading, here 900 mV. -/
theorem test_supply_off_after_slew :
    let s := (running (checkAt (orderOf 301 [.supplySet 0 50, .supplyOff] none none) .stimulating .rail))
    after (exec .slewComplete (s.setSpu { s.spu with rail := .slewing, outputMv := 900 })) (fun t =>
      t.spu.rail == .discharging && t.spu.dischargeTimer == some 20) = true := by decide +kernel
/-- R97. -/
theorem test_slew_complete : after (exec .slewComplete (railed .slewing (running (onRail (.supplySet 12000 50))))) (fun t =>
    t.spu.rail == .on && t.ckr.map (fun c => (c.stage, c.holdTimer)) == some (.settling, none)) = true := by decide +kernel

/-- The crank of section 5.2: the dip to 6000 mV of a rail at 13500 mV. -/
def cranking (hold : Option Nat) : State :=
  let s := running (onRail (.crank 6000 40 25))
  s.setSpu { s.spu with rail := .cranking, setpoint := 13500, effective := 6000, crank := some ⟨6000, hold, 25⟩ }

/-- Section 5.2: the recovery begins at 6000 mV; then the crank is complete and the rail ON at 13500 mV. -/
theorem test_crank_dip_end : after (exec .crankDipEnd (cranking (some 0))) (fun t =>
    t.spu.rail == .cranking && t.spu.effective == 6000 && t.spu.crank == some ⟨6000, none, 25⟩) = true := by decide +kernel
theorem test_crank_recovery_complete : after (exec .crankRecoveryComplete (cranking none)) (fun t =>
    t.spu.rail == .on && t.spu.effective == 13500 && t.ckr.map (·.stage) == some .settling) = true := by decide +kernel
/-- R101. -/
theorem test_discharge_below_threshold :
    after (exec (.dischargeBelowThreshold 499) (railed .discharging ready)) (fun t => t.spu.rail == .off) = true ∧
    after (exec (.dischargeBelowThreshold 500) (railed .discharging ready)) (fun t => t.spu.rail == .discharging) =
      true := by decide +kernel
theorem test_discharge_timer_expiry :
    after (exec .dischargeTimerExpiry (railed .discharging (running (onRail .supplyOff)))) (fun t =>
      t.spu.rail == .off && t.ckr.map (·.stage) == some .settling) = true := by decide +kernel

/-- Section 4.7: 330 ends DUT_FAULT, the queue is kept, no check starts. -/
theorem test_short : after (exec .short (railed .on queued)) (fun t =>
    t.spu.rail == .faultOff && t.spu.offTimer == some 200 && t.spu.retry && t.oi.station == .ready &&
      t.oi.queue.length == 2 && t.vdu.ring.map (fun r => r.content.outcome) == [.dutFault]) = true := by decide +kernel
/-- Section 5.6: a fault in the retry's ramp releases the claim and keeps the count. -/
theorem test_overcurrent :
    let s := railed .ramping ready
    after (exec .overcurrent ((s.setSpu { s.spu with retry := true, retryCount := 1 }).setClu { s.clu with
      claim := some ⟨.inrush, 3, true, 15, .spu, .passed, none⟩ })) (fun t =>
      t.spu.rail == .faultOff && t.spu.retryCount == 1 && t.clu.claim.isNone) = true := by decide +kernel
/-- R104, R108, with no check in flight. -/
theorem test_overvoltage : after (exec .overvoltage (railed .on ready)) (fun t =>
    t.spu.rail == .safe && t.oi.station == .hold && t.oi.safeHold) = true := by decide +kernel

/-- FAULT_OFF in a retry, the count at n. -/
def faulted (n : Nat) : State :=
  let s := railed .faultOff ready
  s.setSpu { s.spu with offTimer := some 0, retry := true, retryCount := n, cfg := ⟨2000, 1, 200⟩ }

/-- Section 5.6: 0 below 1 asks for INRUSH with 15; 1 is not below 1. -/
theorem test_off_timer_expiry :
    after (exec .offTimerExpiry (faulted 0)) (fun t => t.spu.rail == .waitInrush && t.spu.retryCount == 1 &&
      t.clu.claim == some ⟨.inrush, 1, false, 15, .spu, .notBegun, some 30000⟩) = true ∧
    after (exec .offTimerExpiry (faulted 1)) (fun t => t.spu.rail == .safe && t.oi.station == .hold) = true := by
  decide +kernel
/-- R109. -/
theorem test_recovery_timer_expiry : after (exec .recoveryTimerExpiry (ready.setSpu
    { ready.spu with recovery := some 1, retryCount := 2 })) (fun t => t.spu.retryCount == 0) = true := by decide +kernel

/-- Slot 3 of section 6.4, and the rail ON with its schedule running. -/
def speedSlot : MessageSlot := ⟨true, 416, 8, 0x0e000000001e0000#64, 20, 5, true, some (56, 4), some 6, false⟩
def emulating : State :=
  let s := railed .on ready
  s.setBem { s.bem with slots := s.bem.slots.setIfInBounds 3 speedSlot, schedule := some 5 }

/-- Section 6.4: counter 15, checksum 205. -/
theorem test_slot_due : after (exec (.slotDue 3) emulating) (fun t =>
    t.bem.queue == [⟨3, 416, 8, 0x0fcd0000001e0000#64⟩]) = true := by decide +kernel

/-- One instance of slot 3 in the queue, or on the bus. -/
def waitingInstance : State := emulating.setBem { emulating.bem with queue := [⟨3, 416, 8, 0⟩] }
def onTheBus (unacked : Nat) : State :=
  emulating.setBem { emulating.bem with sending := some ⟨3, 416, 8, 0⟩, unacked := unacked }

/-- R121. -/
theorem test_can_attempt_start : after (exec .canAttemptStart waitingInstance) (fun t =>
    t.bem.sending == some ⟨3, 416, 8, 0⟩ && t.bem.queue == []) = true := by decide +kernel
/-- R126: the 32nd in a row; a lost arbitration counts for nothing. -/
theorem test_can_attempt_end :
    after (exec (.canAttemptEnd .notAcknowledged) (onTheBus 31)) (fun t => t.bem.silent && t.bem.unacked == 32) = true ∧
    after (exec (.canAttemptEnd .lostArbitration) (onTheBus 31)) (fun t =>
      !t.bem.silent && t.bem.unacked == 31 && t.bem.queue.length == 1) = true := by decide +kernel

/-- Capture slot 2 of section 6.8: IDENT, half 0 held for 500 ms, GIVEN 1042. -/
def heldHalf : HeldHalf := ⟨1042, 0x04030201#32⟩
def identifying (age : Nat) : State :=
  ready.setBem { ready.bem with
    captures := ready.bem.captures.setIfInBounds 2 ⟨true, 700, true, 0, 8, age, false, some heldHalf⟩
    given := some 1042 }

/-- R132: a good half 0 takes the place of the one held; a bad one, by its check byte, drops it. -/
theorem test_pair_tracker :
    after (exec (.clusterFrameReceived ⟨false, false, 700, [0, 0x12, 0x04, 4, 3, 2, 1, 32]⟩) (identifying 5)) (fun t =>
      t.bem.captures[2].tracker == some ⟨1042, 0x01020304#32⟩ && t.bem.captures[2].age == 0) = true ∧
    after (exec (.clusterFrameReceived ⟨false, false, 700, [0, 0x12, 0x04, 4, 3, 2, 1, 33]⟩) (identifying 5)) (fun t =>
      t.bem.captures[2].tracker.isNone && t.bem.captures[2].fresh) = true := by decide +kernel

/-- Section 6.8: the pair at 3100 ms; a half later than 1000 ms forms none. -/
theorem test_cluster_frame_received :
    after (exec (.clusterFrameReceived ⟨false, false, 700, [1, 5, 6, 7, 8, 9, 10, 46]⟩) (identifying 500)) (fun t =>
      t.bem.received == some (1042, 0x0a090807060504030201#80) && t.bem.captures[2].age == 0) = true ∧
    after (exec (.clusterFrameReceived ⟨false, false, 700, [1, 5, 6, 7, 8, 9, 10, 46]⟩) (identifying 1001)) (fun t =>
      t.bem.received.isNone && t.bem.captures[2].tracker.isNone) = true := by decide +kernel

/-- Channel 3 of the worked case of chapter 7, at a gain, in a state. -/
def lightAt (state : LightState) (gain : Nat) : LightChannel :=
  { LightChannel.reset with
    cal := ⟨3000, 50, 0, 47, 12, 128, 1, 7⟩, state := state, gain := gain, window := 16, rangeTimer := some 160 }
def measuringLight (c : LightChannel) : State :=
  (running (checkAt (orderOf 301 [] (some (.light ⟨3, none, none, 16⟩)) none) .measuring .measurement)).setLtu
    (nest.ltu.setIfInBounds 3 c)

/-- Chapter 7's worked case: a mean of 1200 at gain 20 steps to 26; a still block in LOCKED begins the window. -/
theorem test_light_block_complete :
    after (exec (.lightBlockComplete 3 (List.replicate 16 1200)) (measuringLight (lightAt .ranging 20))) (fun t =>
      t.ltu[3].gain == 26 && t.ltu[3].inBand == 0 && t.ltu[3].state == .ranging) = true ∧
    after (exec (.lightBlockComplete 3 (List.replicate 16 2065)) (measuringLight (lightAt .locked 26))) (fun t =>
      t.ltu[3].gain == 26 && t.ltu[3].state == .window && t.ltu[3].rangeTimer.isNone) = true := by decide +kernel
/-- A block's last sample that waits on channel 3, beside events of others. -/
def unread (s : State) : State :=
  s.setArrived [.slotDue 3, .lightBlockComplete 3 [2065], .lightBlockComplete 2 [2065], .currentWindowComplete [4]]

/-- R147, R152: the discarded block's last sample and the stopped window's are passed over, the others wait on. -/
theorem test_discarded_samples :
    after (exec (.rangeTimerExpiry 3) (unread (measuringLight (lightAt .locked 20)))) (fun t =>
      t.arrived == [.slotDue 3, .lightBlockComplete 2 [2065], .currentWindowComplete [4]]) = true ∧
    after (exec (.controlAbort (toNest .control (abortPayload 0 0))) (unread (measuringLight (lightAt .window 20))))
      (fun t => t.ltu[3].state == .held &&
        t.arrived == [.slotDue 3, .lightBlockComplete 2 [2065], .currentWindowComplete [4]]) = true ∧
    after (exec (.controlAbort (toNest .control (abortPayload 0 0))) (unread (running currentCheck))) (fun t =>
      t.arrived == [.slotDue 3, .lightBlockComplete 3 [2065], .lightBlockComplete 2 [2065]]) = true := by
  decide +kernel
/-- R147. -/
theorem test_range_timer_expiry :
    after (exec (.rangeTimerExpiry 3) (measuringLight (lightAt .ranging 20))) (fun t =>
      t.ltu[3].state == .held && t.vdu.ring.map (fun r => (r.content.outcome, r.content.gain)) ==
        [(.unranged, some 20)]) = true ∧
    after (exec (.rangeTimerExpiry 3) (measuringLight (lightAt .locked 20))) (fun t => t.ltu[3].state == .window) =
      true := by decide +kernel
/-- Chapter 7's worked sequence: gain 30 falls to 22. -/
theorem test_light_window_rerange :
    after (exec (.lightWindowRerange 3 [2000, 4095]) (measuringLight (lightAt .window 30))) (fun t =>
      t.ltu[3].gain == 22 && t.ltu[3].state == .ranging && t.ltu[3].reranged &&
        t.ckr.map (fun k => k.flags.reranged) == some true) = true := by decide +kernel
/-- Chapter 7's worked case: samples of 2065 at gain 26 give 621. -/
theorem test_light_window_complete :
    after (exec (.lightWindowComplete 3 (List.replicate 16 2065)) (measuringLight (lightAt .window 26))) (fun t =>
      t.ltu[3].state == .held && t.vdu.ring.map (fun r => (r.content.outcome, r.content.value, r.content.gain)) ==
        [(.pass, some 621, some 26)]) = true := by decide +kernel

/-- A CURRENT window of 4 ms, and a SOUND window of 4 ms with threshold 1800 and re-arm level 1500. -/
def measuringCurrent : State := (running currentCheck).setCsu { nest.csu with window := .current, length := 4 }
def soundCheck : CheckRecord :=
  checkAt (orderOf 320 [] (some (.sound 4 1800 300)) none) .measuring .measurement
def measuringSound : State :=
  (claiming soundCheck ⟨.quiet, 3, true, 0, .ckr, .passed, none⟩).setCsu
    { nest.csu with window := .sound, length := 4, threshold := 1800, hysteresis := 300, rearm := 1500 }

/-- R156: 410, 411, 412 and 413 give 411.5, rounded up. -/
theorem test_current_window_complete :
    after (exec (.currentWindowComplete [410, 411, 412, 413]) measuringCurrent) (fun t =>
      t.csu.window == .idle && t.vdu.ring.map (fun r => (r.content.outcome, r.content.value)) ==
        [(.pass, some 412)]) = true := by decide +kernel
/-- Section 8.3: one strike, whose ripple does not count; QUIET is released. -/
theorem test_sound_window_complete :
    after (exec (.soundWindowComplete [140, 2640, 1700, 1860]) measuringSound) (fun t =>
      t.clu.claim.isNone && t.vdu.ring.map (fun r => (r.content.value, r.content.aux)) == [(some 1, some 2640)]) =
      true := by decide +kernel

/-- The prompt of section 10.8 and the check that waits for it; the challenge field is slot 7, bits 16 to 29. -/
def seatbelt (mode : PromptMode) : Prompt := ⟨mode, [], 30⟩
def promptCheck (mode : PromptMode) : CheckRecord :=
  checkAt (orderOf 815 [] none (some (seatbelt mode))) .prompting .prompt
/-- The same check with a YESNO prompt. -/
def asking (k : CheckRecord) : CheckRecord := { k with order := { k.order with prompt := some (seatbelt .yesNo) } }
def prompting (mode : PromptMode) (state : PromptState) (look : Option Nat) (entry : List Nat) (attempts errors : Nat) :
    State :=
  let s := running { promptCheck mode with fifth := some ⟨7, 16, 14, 0⟩ }
  (s.setOpu { s.opu with
      state := state, prompt := some (seatbelt mode), entry := entry, attempts := attempts, code := 8210
      errors := errors, promptTimer := some 30000, lookTimer := look, lamp := true }).setBem { s.bem with
    slots := s.bem.slots.setIfInBounds 7 ⟨true, 300, 8, 0x20120000#64, 0, 0, false, none, none, false⟩ }

/-- Section 10.8: 8 keyed too soon; then the fourth digit of 8210, the field restored. -/
theorem test_key_digit :
    after (exec (.keyDigit 8) (prompting .attendedYesNo .challenge (some 400) [] 0 2)) (fun t =>
      t.opu.attempts == 1 && t.opu.errors == 3 && t.opu.lookTimer == some 800 && t.opu.state == .challenge) = true ∧
    after (exec (.keyDigit 0) (prompting .attendedYesNo .challenge none [8, 2, 1] 1 3)) (fun t =>
      t.opu.state == .yesNo && t.opu.attempts == 2 && t.opu.errors == 2 && t.bem.slots[7].payload == 0 &&
        t.ckr.map (·.fifth) == some none) = true := by decide +kernel
theorem test_key_clear : after (exec .keyClear (prompting .attendedYesNo .challenge none [8, 2, 1] 1 3)) (fun t =>
    t.opu.entry == [] && t.opu.attempts == 1 && t.opu.errors == 3) = true := by decide +kernel
/-- Section 10.8: PASS reported with attempts 2. -/
theorem test_key_pass : after (exec .keyPass (prompting .attendedYesNo .yesNo none [] 2 2)) (fun t =>
    t.opu.state == .done && !t.opu.lamp && t.vdu.ring.map (fun r => (r.content.outcome, r.content.attempts)) ==
      [(.pass, some 2)]) = true := by decide +kernel
/-- R187: FAIL ends the challenge without an attempt. -/
theorem test_key_fail : after (exec .keyFail (prompting .attended .challenge (some 1) [] 0 2)) (fun t =>
    t.opu.errors == 2 && t.vdu.ring.map (fun r => (r.content.outcome, r.content.attempts)) ==
      [(.operatorFail, some 0)]) = true := by decide +kernel
theorem test_look_timer_expiry :
    after (exec .lookTimerExpiry (prompting .attended .challenge (some 1) [] 0 2)) (fun t => t.opu.lookTimer.isNone) =
      true := by decide +kernel
/-- R189: no attempt, one error more. -/
theorem test_prompt_timer_expiry :
    after (exec .promptTimerExpiry (prompting .attended .challenge none [8] 1 2)) (fun t =>
      t.opu.errors == 3 && t.vdu.ring.map (fun r => (r.content.outcome, r.content.attempts)) ==
        [(.timeout, some 1)]) = true := by decide +kernel
/-- R14: the remainder of an abandoned attempt, intact and from the own slot, leaves the fairness flag. -/
theorem test_abandoned_remainder_end :
    let s := inCondition .busy (ready.setRli { ready.rli with drove := true, fairness := true })
    after (exec (.abandonedRemainderEnd (announceFrame (announcement 5 false none))) s) (fun t =>
      t.rli.contention == .gap && !t.rli.drove && t.rli.fairness && !t.rli.silent) = true := by decide +kernel
/-- Log 3: with no command waiting only the clock of a part held in reset moves. -/
theorem test_tick_held : after (step (nest.setResetHeld true)) (fun t => t == (nest.setResetHeld true).setClock 1) =
    true := by decide +kernel

/-! ## States that meet the obligations' hypotheses, clause by clause -/

/-- A prompt whose claim is about to be evaluated. -/
def waitingOperatorAt (settle : Settle) (mode : PromptMode) : State :=
  let s := claiming { promptCheck mode with waitsOn := .claim .operator }
    ⟨.operator, 3, false, 0, .ckr, settle, some 30000⟩
  s.setOpu { s.opu with state := .waiting, prompt := some (seatbelt mode) }
def waitingOperator (mode : PromptMode) : State := waitingOperatorAt (.running 1) mode

/-- A SOUND check that settles, or whose settle time is over, and waits for QUIET. -/
def quietCheck (timer : Option Nat) : CheckRecord :=
  { settling (.sound 4 1800 300) with waitsOn := .claim .quiet, stageTimer := timer }
def waitingQuiet (timer : Option Nat) : State := claiming (quietCheck timer) ⟨.quiet, 3, false, 0, .ckr, .passed, some 1⟩

/-- A SOUND check that waits for QUIET with its audible write of slot 9, as in order 320 of section 4.7. -/
def strike : FieldWrite := ⟨9, 16, 4, false, 2, 1, 1, 0, true, true⟩
def strikeCheck : CheckRecord :=
  checkAt (orderOf 320 [.fieldWrite strike] (some (.sound 4 1800 300)) none) .stimulating (.claim .quiet)
def waitingStrike (settle : Settle) : State :=
  let s := claiming strikeCheck ⟨.quiet, 3, false, 0, .ckr, settle, some 1⟩
  s.setBem { s.bem with slots := s.bem.slots.setIfInBounds 9 { speedSlot with enabled := false } }

theorem strikeCheck_asks (settle : Settle) : strikeCheck.AsksQuietFor strike (waitingStrike settle) 9 :=
  ⟨rfl, rfl, ⟨4, 1800, 300, rfl⟩, rfl, rfl, rfl, (by decide : (100 : Nat) ≠ 0), rfl,
    (by decide +kernel : (waitingStrike .passed).bem.slots[(9 : Fin 24)].defined = true),
    by decide, by decide, by decide⟩

/-- In the views that v makes of a state by the peer claim it shows: a claim whose settle is not over, one whose
condition fails, an OPERATOR claim behind a peer's; a GRANTED one; and one whose condition holds, of a check's power-up,
a retry, a SOUND check before and after its settle time and with its audible write, and a prompt of each mode. -/
def ViewsOfClaims (v : State → Option AnnClaim → State) : Prop :=
  let own (s : State) (c : OwnClaim) : Prop := s.clu.claim = some c ∧ s.clu.audible = none
  let inrush (q : Requester) (settle : Settle) : OwnClaim := ⟨.inrush, 3, false, 15, q, settle, some 30000⟩
  let quiet : OwnClaim := ⟨.quiet, 3, false, 0, .ckr, .passed, some 1⟩
  let operator : OwnClaim := ⟨.operator, 3, false, 0, .ckr, .passed, some 30000⟩
  let full := v (powering .passed) (some ⟨.inrush, 9, true, 66⟩)
  let fits := v (powering .passed) (some ⟨.inrush, 9, true, 65⟩)
  let retry := v (retrying .passed) none
  let behind := v (waitingOperatorAt .passed .yesNo) (some ⟨.operator, 2, true, 0⟩)
  let k := checkAt (orderOf 301 [.supplySet 12000 50] (some (.current 4)) none) .stimulating (.claim .inrush)
  (own (v (powering .notBegun) none) (inrush .ckr .notBegun) ∧ Still (v (powering .notBegun) none)) ∧
  (own full (inrush .ckr .passed) ∧ grantCondition full (inrush .ckr .passed) = false ∧ Still full) ∧
  (own behind operator ∧ grantCondition behind operator = false ∧ Still behind) ∧
  ((∃ c, own (v (holding none) none) c ∧ c.granted = true ∧ c.resource ≠ .quiet) ∧ Still (v (holding none) none)) ∧
  (own fits (inrush .ckr .passed) ∧ grantCondition fits (inrush .ckr .passed) = true ∧ fits.spu.rail = .waitInrush ∧
    0 < fits.spu.setpoint ∧ fits.ckr = some k ∧ k.stage = .stimulating ∧ k.waitsOn = .claim .inrush) ∧
  (own retry (inrush .spu .passed) ∧ grantCondition retry (inrush .spu .passed) = true ∧
    retry.spu.rail = .waitInrush ∧ 0 < retry.spu.setpoint ∧ retry.spu.retry = true ∧ Still retry) ∧
  (∀ timer, own (v (waitingQuiet timer) none) quiet ∧ (v (waitingQuiet timer) none).ckr = some (quietCheck timer) ∧
    (quietCheck timer).stage = .settling ∧ (quietCheck timer).waitsOn = .claim .quiet ∧
    (quietCheck timer).stageTimer = timer ∧ (quietCheck timer).order.meas = some (.sound 4 1800 300)) ∧
  grantCondition (v (waitingQuiet none) none) quiet = true ∧
  grantCondition (v (waitingQuiet (some 1)) none) quiet = true ∧
  (∀ mode, own (v (waitingOperatorAt .passed mode) none) operator ∧
    (v (waitingOperatorAt .passed mode) none).opu.state = .waiting ∧
    (v (waitingOperatorAt .passed mode) none).opu.prompt = some (seatbelt mode) ∧
    ∃ k, (v (waitingOperatorAt .passed mode) none).ckr = some k ∧ k.stage = .prompting ∧
      k.waitsOn = .claim .operator) ∧
  grantCondition (v (waitingOperatorAt .passed .attended) none) operator = true ∧
  own (v (waitingStrike .passed) none) quiet ∧ (v (waitingStrike .passed) none).ckr = some strikeCheck ∧
  grantCondition (v (waitingStrike .passed) none) quiet = true ∧
  strikeCheck.AsksQuietFor strike (v (waitingStrike .passed) none) 9

/-- A power-on reset, and the release of a held pin. -/
theorem witness_ResetValuesOfBlocks :
    Instr.powerOnReset 5 1 = .powerOnReset 5 1 ∧ (nest.setResetHeld true).resetHeld = true := ⟨rfl, rfl⟩

theorem witness_StepTakesFrontCommand :
    (nest.setPending [.keyClear, .keyPass]).pending = .keyClear :: [.keyPass] := rfl

theorem currentMean_exists (n : Nat) (u : Spu) : ∃ q, u.MeanCurrent n q := by
  exact (Nat.lt_or_ge _ _).elim (fun h => ⟨_, .inl ⟨h, rfl⟩⟩) fun h => ⟨_, .inr ⟨h, rfl⟩⟩

/-- Held in reset; an event due, by a timer and by the samples of the last millisecond; and, with none due: a claim that
settles, a ramp, a crank's dip and its recovery, filters one sample short of each fault, a discharge, a current window
before and at its last sample, a sound window at its first, at one between and at its last, a channel in RANGING and in
LOCKED with 13, 14 and 15 samples of a block, and one in WINDOW with two samples to take, one and none beside the last.
-/
theorem witness_EmptyQueueIsOneMillisecond :
    let idle (s : State) : Prop := s.pending = [] ∧ s.resetHeld = false ∧ s.arrived = [] ∧ dueEvents s = []
    let window (n : Nat) := measuringCurrent.setCsu { measuringCurrent.csu with count := n }
    let sound (n : Nat) := measuringSound.setCsu { measuringSound.csu with count := n }
    let block (state : LightState) (n : Nat) := measuringLight { lightAt state 20 with blockCount := n }
    let light (n : Nat) := measuringLight { lightAt .window 26 with count := n }
    let ramp := railed .ramping ready
    ((nest.setResetHeld true).pending = [] ∧ (nest.setResetHeld true).resetHeld = true) ∧
    ((ready.setOi { ready.oi with presence := some 0 }).arrived ++
        dueEvents (ready.setOi { ready.oi with presence := some 0 }) ≠ [] ∧
      { ready with arrived := [.slotDue 3] }.arrived ++ dueEvents { ready with arrived := [.slotDue 3] } ≠ []) ∧
    (idle ready ∧ ready.clu.claim = none ∧ ready.csu.window = .idle) ∧
    (idle (powering (.running 1)) ∧ (powering (.running 1)).clu.claim.isSome = true) ∧
    (idle (ramp.setSpu { ramp.spu with effective := 0 }) ∧ ramp.spu.rail.outputOn = true) ∧
    (idle (cranking (some 1)) ∧ idle (cranking none)) ∧
    idle (ready.setSpu { (railed .on ready).spu with shortCount := 19, overCurrentCount := 199, overVoltageCount := 9 }) ∧
    (idle (railed .discharging ready) ∧ (railed .discharging ready).spu.rail = .discharging) ∧
    (idle (window 2) ∧ (window 2).csu.count + 1 < (window 2).csu.length ∧ idle (window 3) ∧
      (window 3).csu.length ≤ (window 3).csu.count + 1 ∧ ∃ q, (window 3).spu.MeanCurrent (window 3).clock q) ∧
    (idle (sound 0) ∧ (sound 0).csu.count + 1 < (sound 0).csu.length ∧ idle (sound 2) ∧
      (sound 2).csu.count + 1 < (sound 2).csu.length ∧ idle (sound 3) ∧
      (sound 3).csu.length ≤ (sound 3).csu.count + 1) ∧
    (∀ n, n ∈ [13, 14, 15] → idle (block .ranging n) ∧ idle (block .locked n) ∧
      (block .ranging n).ltu[(3 : Fin 8)].blockCount = n) ∧
    ∀ n, n ∈ [13, 14, 15] → idle (light n) ∧ (light n).ltu[(3 : Fin 8)].state = .window ∧
      (light n).ltu[(3 : Fin 8)].count = n ∧ (light n).ltu[(3 : Fin 8)].window = 16 := by
  refine ⟨⟨rfl, rfl⟩, ⟨by decide +kernel, by decide +kernel⟩, by decide +kernel, by decide +kernel, by decide +kernel,
    by decide +kernel, by decide +kernel, by decide +kernel, ⟨by decide +kernel, by decide +kernel, by decide +kernel,
    by decide +kernel, currentMean_exists _ _⟩, by decide +kernel, by decide +kernel, by decide +kernel⟩

/-- Held and not held; 9 µs and 10 µs; a command that is no reset. -/
theorem witness_ResetsReadStrapsAndClearLine :
    (nest.setResetHeld true).resetHeld = true ∧ nest.resetHeld = false ∧ 9 < 10 ∧ 10 ≤ 10 ∧
      (∀ a b, Instr.keyClear ≠ .powerOnReset a b) ∧ (∀ n, Instr.keyClear ≠ .resetPinLow n) ∧
      ∀ a b, Instr.keyClear ≠ .resetPinRelease a b :=
  ⟨rfl, rfl, by decide, by decide, nofun, nofun, nofun⟩

theorem witness_ContentionConditions :
    nest.resetHeld = false ∧ nest.rli.contention = .syncing ∧ (inCondition .gap nest).rli.contention = .gap ∧
      (inCondition (.window 33) nest).rli.contention = .window 33 ∧ (inCondition .busy nest).rli.contention = .busy ∧
      ∃ tx, (sending false).rli.contention = .transmitting tx := ⟨rfl, rfl, rfl, rfl, rfl, _, rfl⟩

/-- The URGENT position with the announcement, with the head reply and with neither; the NORMAL one with the flag set; a
position of another station. -/
theorem witness_PositionStartOffersOneFrame :
    let urgent := talking.setRli { talking.rli with buffer := some (announcement 5 true none, .urgent) }
    let receiptFirst := talking.setRli { talking.rli with replies := [.receipt ⟨.order, 413, .accepted, 8⟩] }
    (talking.resetHeld = false ∧ talking.rli.silent = false ∧ talking.rli.contention = .window 0) ∧
    ((5 : Fin 34).val = 0 + talking.rli.slot.toNat ∧ urgent.rli.buffer = some (announcement 5 true none, .urgent)) ∧
    ((∀ a, receiptFirst.rli.buffer ≠ some (a, .urgent)) ∧
      receiptFirst.rli.replies = Reply.receipt ⟨.order, 413, .accepted, 8⟩ :: [] ∧
      Reply.cls (.receipt ⟨.order, 413, .accepted, 8⟩) = .urgent) ∧
    ((∀ a, talking.rli.buffer ≠ some (a, .urgent)) ∧
      ∀ x xs, talking.rli.replies = x :: xs → x.cls ≠ .urgent) ∧
    ((22 : Fin 34).val = 17 + talking.rli.slot.toNat ∧
      (talking.setRli { talking.rli with fairness := true }).rli.fairness = true ∧ talking.rli.fairness = false) ∧
    ((0 : Fin 34).val ≠ 0 + talking.rli.slot.toNat ∧ (33 : Fin 34).val ≠ 17 + talking.rli.slot.toNat) := by
  refine ⟨⟨rfl, rfl, rfl⟩, ⟨rfl, rfl⟩, ⟨?_, rfl, rfl⟩, ⟨?_, ?_⟩, ⟨rfl, rfl, rfl⟩, by decide, by decide⟩
  · intro a h; cases h
  · intro a h; cases h
  · intro x xs h; cases h; decide

theorem witness_ReadbackDifferenceIsCounted :
    (sending false).resetHeld = false ∧ (∃ tx, (sending false).rli.contention = .transmitting tx) ∧
      ((sending false).setRli { (sending false).rli with collisions := 1 }).rli.collisions < 2 :=
  ⟨rfl, ⟨_, rfl⟩, by decide⟩

/-- A third collision, and an own-slot frame, with a rail in SAFE as well. -/
theorem witness_DuplicateSlotSilencesStation :
    let third := (sending false).setRli { (sending false).rli with collisions := 2 }
    (third.rli.silent = false ∧ third.resetHeld = false ∧ (∃ tx, third.rli.contention = .transmitting tx) ∧
      third.rli.collisions = 2) ∧
    ((railed .safe ready).rli.silent = false ∧ (railed .safe ready).spu.rail = .safe ∧
      Ends (railed .safe ready) (announceFrame (announcement 5 false none)) .ownSlot) :=
  ⟨⟨rfl, rfl, ⟨_, rfl⟩, rfl⟩, rfl, rfl, rfl, rfl, by decide +kernel⟩

/-- A reply; an announcement whose claim begins its settle; one whose claim is another. -/
theorem witness_FrameSentInFull :
    let reply := inCondition (.transmitting ⟨.reply (.receipt ⟨.order, 413, .accepted, 8⟩), .urgent, [], false⟩) talking
    let mine : AnnClaim := ⟨.inrush, 3, false, 15⟩
    let s := inCondition (.transmitting ⟨.announce (announcement 5 false (some mine)), .urgent, [], false⟩)
      (powering .notBegun)
    (reply.resetHeld = false ∧ ∃ tx x, reply.rli.contention = .transmitting tx ∧ tx.frame = .reply x) ∧
    (s.resetHeld = false ∧ ∃ tx a c, s.rli.contention = .transmitting tx ∧ tx.frame = .announce a ∧
      s.clu.claim = some c ∧ a.claim = some mine ∧ mine.resource = c.resource ∧ mine.ticket = c.ticket ∧
      mine.granted = false ∧ c.granted = false ∧ c.settle = .notBegun) ∧
    (∃ tx a, (sending true).rli.contention = .transmitting tx ∧ tx.frame = .announce a ∧
      (sending true).clu.claim = none) :=
  ⟨⟨rfl, _, _, rfl, rfl⟩, ⟨rfl, _, _, _, rfl, rfl, rfl, rfl, rfl, rfl, rfl, rfl, rfl⟩, _, _, rfl, rfl, rfl⟩

/-- Noise; a reply of nest 3; a SILENT station; after an abandoned attempt, noise and an intact frame. -/
theorem witness_FramesForNoBlock :
    let after := ready.setRli { ready.rli with drove := true }
    let silent := ready.setRli { ready.rli with silent := true, fairness := true }
    ready.resetHeld = false ∧ ready.rli.contention.sending = false ∧ rxFilter 5 noise = none ∧
      classify ready.rli strayReply = .peerReply ∧ silent.rli.silent = true ∧
      (∃ i, rxFilter silent.rli.slot strayReply = some i) ∧ after.rli.drove = true ∧ after.rli.silent = false ∧
      rxFilter after.rli.slot noise = none ∧
      ∃ i, rxFilter after.rli.slot strayReply = some i :=
  ⟨rfl, rfl, by decide +kernel, by decide +kernel, rfl, Option.isSome_iff_exists.mp (by decide +kernel), rfl, rfl,
    by decide +kernel, Option.isSome_iff_exists.mp (by decide +kernel)⟩

/-- An audible write of a station with slot 9 defined, waiting; a peer in slot 3 wants QUIET. -/
def audibleBeside (claim : Option AnnClaim) : State :=
  withPeer ⟨.live, 0, 1, false, claim⟩ (audibleWait.setBem { audibleWait.bem with
    slots := audibleWait.bem.slots.setIfInBounds 9 { speedSlot with enabled := false } })

/-- A payload with a fault (state 4), and a sound one. A waiting audible request with the peer's QUIET claim still in
view, and gone. Under the QUIET grant: a clear announcement, the second NOISY one and the third. -/
theorem witness_AnnounceReceivedWritesEntry :
    let bad : List Byte := [3, 4, 0, 0, 0, 0, 0, 0, 0, 0, 0, 0, 0, 0]
    let good := (announcement 3 true (some ⟨.inrush, 7, true, 100⟩)).payload
    let wants := (announcement 3 false (some ⟨.quiet, 7, true, 0⟩)).payload
    let done := (announcement 3 false none).payload
    let view (s : State) (claim : Option AnnClaim) := s.setClu { s.clu with
      peers := s.clu.peers.setIfInBounds 3 ⟨.live, 0, 1, false, claim⟩ }
    let waits := audibleBeside (some ⟨.quiet, 7, true, 0⟩)
    let w : FieldWrite := ⟨9, 16, 4, false, 2, 1, 1, 0, true, true⟩
    let k := checkAt (orderOf 301 [.fieldWrite w] none none) .stimulating .audible
    let noisy (n : Nat) := measuringSound.setCsu { measuringSound.csu with disturbances := n }
    (Ends ready (received (frameBytes 3 31 .announce bad)) (.announce 3 bad) ∧ parseAnnounce bad = none) ∧
    (Ends ready (received (frameBytes 3 31 .announce good)) (.announce 3 good) ∧
      parseAnnounce good = some ⟨1, true, some ⟨.inrush, 7, true, 100⟩⟩ ∧ ready.clu.claim = none ∧
      ready.clu.audible = none ∧ Still ready) ∧
    (Ends waits (received (frameBytes 3 31 .announce wants)) (.announce 3 wants) ∧
      parseAnnounce wants = some ⟨1, false, some ⟨.quiet, 7, true, 0⟩⟩ ∧ waits.clu.claim = none ∧
      waits.clu.audible = some 1 ∧ waits.ckr = some k ∧ k.stage = .stimulating ∧ k.waitsOn = .audible ∧
      peerClaims (view (ended waits) (some ⟨.quiet, 7, true, 0⟩)) .quiet ≠ []) ∧
    (Ends waits (received (frameBytes 3 31 .announce done)) (.announce 3 done) ∧
      parseAnnounce done = some ⟨1, false, none⟩ ∧ peerClaims (view (ended waits) none) .quiet = [] ∧
      k.order.actions[k.index]? = some (.fieldWrite w) ∧ k.SettlesNext ∧ w.slot = (9 : Fin 24).val ∧
      waits.bem.slots[(9 : Fin 24)].defined = true ∧ 1 ≤ w.len ∧ w.start + w.len ≤ 64 ∧ w.den ≠ 0 ∧
      waits.bem.slots[(9 : Fin 24)].enabled = false ∧ waits.clu.noisy = false) ∧
    (Ends (noisy 2) (received (frameBytes 3 31 .announce good)) (.announce 3 good) ∧ (noisy 1).csu.disturbances < 2 ∧
      2 ≤ (noisy 2).csu.disturbances ∧ (noisy 2).clu.deferred = none ∧ (noisy 2).clu.audible = none ∧
      RunsAlone (noisy 2) soundCheck ∧ soundCheck.stage = .measuring ∧ soundCheck.waitsOn = .measurement ∧
      soundCheck.order.meas = some (.sound 4 1800 300) ∧ (noisy 2).csu.window = .sound ∧
      ∃ c, (noisy 2).clu.claim = some c ∧ c.resource = .quiet ∧ c.granted = true ∧ c.requester = .ckr) :=
  ⟨⟨⟨rfl, rfl, by decide +kernel⟩, by decide +kernel⟩, ⟨⟨rfl, rfl, by decide +kernel⟩, by decide +kernel, rfl, rfl,
    .inl ⟨rfl, rfl, by decide +kernel⟩⟩, ⟨⟨rfl, rfl, by decide +kernel⟩, by decide +kernel, rfl, rfl, rfl, rfl, rfl,
    by decide +kernel⟩, ⟨⟨rfl, rfl, by decide +kernel⟩, by decide +kernel, by decide +kernel, rfl,
    ⟨rfl, by decide, nofun, nofun⟩, rfl, by decide +kernel, by decide, by decide, by decide, by decide +kernel, rfl⟩,
    ⟨rfl, rfl, by decide +kernel⟩, by decide, by decide, rfl, rfl, ⟨rfl, rfl, rfl⟩, rfl, rfl, rfl, rfl, _, rfl, rfl,
    rfl, rfl⟩

/-- An announcement with each of those claims ends at each of those stations, and leaves those views. -/
theorem witness_AnnounceReceivedWritesEntry_claims :
    let frame (claim : Option AnnClaim) := (announcement 3 false claim).payload
    let reads (claim : Option AnnClaim) := parseAnnounce (frame claim) = some ⟨1, false, claim⟩
    (∀ s : State, s.resetHeld = false → s.rli = ready.rli →
      Ends s (received (frameBytes 3 31 .announce (frame none))) (.announce 3 (frame none))) ∧
    Ends (powering .passed) (received (frameBytes 3 31 .announce (frame (some ⟨.inrush, 9, true, 65⟩))))
      (.announce 3 (frame (some ⟨.inrush, 9, true, 65⟩))) ∧
    (reads none ∧ reads (some ⟨.inrush, 9, true, 66⟩) ∧ reads (some ⟨.inrush, 9, true, 65⟩) ∧
      reads (some ⟨.operator, 2, true, 0⟩)) ∧
    ((powering .passed).rli = ready.rli ∧ (retrying .passed).rli = ready.rli ∧ (holding none).rli = ready.rli ∧
      (∀ x, (waitingQuiet x).rli = ready.rli) ∧ ∀ x mode, (waitingOperatorAt x mode).rli = ready.rli) ∧
    ViewsOfClaims fun s claim => (ended s).setClu { s.clu with
      peers := s.clu.peers.setIfInBounds 3 ⟨.live, 0, 1, false, claim⟩ } :=
  ⟨fun s h e => ⟨h, by rw [e]; rfl, by rw [e]; decide +kernel⟩, ⟨rfl, rfl, by decide +kernel⟩,
    by decide +kernel, ⟨rfl, rfl, rfl, fun _ => rfl, fun _ _ => rfl⟩,
    ⟨⟨rfl, rfl⟩, .inr ⟨_, rfl, .inr (.inl ⟨rfl, by decide⟩)⟩⟩,
    ⟨⟨rfl, rfl⟩, by decide +kernel, .inr ⟨_, rfl, .inr (.inl ⟨rfl, by decide⟩)⟩⟩,
    ⟨⟨rfl, rfl⟩, by decide +kernel, .inr ⟨_, rfl, .inr (.inr (.inl ⟨rfl, by decide⟩))⟩⟩,
    ⟨⟨_, ⟨rfl, rfl⟩, rfl, nofun⟩, .inr ⟨_, rfl, .inl rfl⟩⟩,
    ⟨⟨rfl, rfl⟩, by decide +kernel, rfl, by decide, rfl, rfl, rfl⟩,
    ⟨⟨rfl, rfl⟩, by decide +kernel, rfl, by decide, rfl, .inl ⟨rfl, rfl, by decide +kernel⟩⟩,
    fun _ => ⟨⟨rfl, rfl⟩, rfl, rfl, rfl, rfl, rfl⟩, by decide +kernel, by decide +kernel,
    fun _ => ⟨⟨rfl, rfl⟩, rfl, rfl, _, rfl, rfl, rfl⟩, by decide +kernel, ⟨rfl, rfl⟩, rfl,
    by decide +kernel, strikeCheck_asks .passed⟩

/-- With a check and an INRUSH claim, and with neither. -/
theorem witness_AnnounceTimerHandsIn :
    (ready.resetHeld = false ∧ ready.clu.announceTimer = some 50 ∧ ready.rli.silent = false ∧ ready.ckr = none ∧
      ready.clu.claim = none) ∧
    ((∃ c, (powering .passed).ckr = some c) ∧ ∃ c, (powering .passed).clu.claim = some c ∧ c.resource = .inrush) :=
  ⟨⟨rfl, rfl, rfl, rfl, rfl⟩, ⟨_, rfl⟩, _, rfl, rfl⟩

/-- No own claim; the claims of ViewsOfClaims, where nest 7 falls silent and nest 3 stays; a waiting audible request
whose last peer QUIET claim is nest 3's, and one behind another peer's. -/
theorem witness_PeerBecomesStale :
    let s := withPeer ⟨.live, 201, 2, true, none⟩ ready
    let old (e : PeerEntry) (s : State) := s.setClu { s.clu with peers := s.clu.peers.setIfInBounds 7 e }
    let waits := audibleBeside (some ⟨.quiet, 7, true, 0⟩)
    let gone := withPeer ⟨.stale, 201, 1, false, some ⟨.quiet, 7, true, 0⟩⟩ waits
    let w : FieldWrite := ⟨9, 16, 4, false, 2, 1, 1, 0, true, true⟩
    let k := checkAt (orderOf 301 [.fieldWrite w] none none) .stimulating .audible
    (s.resetHeld = false ∧ s.clu.claim = none ∧ s.clu.audible = none ∧ Still s ∧ (3 : Fin 16).val ≠ s.rli.slot.toNat ∧
      s.clu.peers[3].liveness = .live) ∧
    ((∀ s, (old ⟨.live, 201, 2, true, none⟩ s).clu.peers[(7 : Fin 16)].liveness = .live) ∧
      ViewsOfClaims fun s claim => withPeer ⟨.live, 0, 1, false, claim⟩ (old ⟨.stale, 201, 2, true, none⟩ s)) ∧
    (waits.clu.peers[3].liveness = .live ∧ waits.clu.claim = none ∧ waits.clu.audible = some 1 ∧
      waits.ckr = some k ∧ k.stage = .stimulating ∧ k.waitsOn = .audible ∧ peerClaims gone .quiet = [] ∧
      peerClaims (old ⟨.live, 0, 2, false, some ⟨.quiet, 9, true, 0⟩⟩ gone) .quiet ≠ [] ∧
      k.order.actions[k.index]? = some (.fieldWrite w) ∧ k.SettlesNext ∧ w.slot = (9 : Fin 24).val ∧
      gone.bem.slots[(9 : Fin 24)].defined = true ∧ gone.bem.slots[(9 : Fin 24)].enabled = false) :=
  ⟨⟨rfl, rfl, rfl, .inl ⟨rfl, rfl, by decide +kernel⟩, by decide, by decide +kernel⟩, ⟨fun _ => by simp [State.setClu],
    ⟨⟨rfl, rfl⟩, .inr ⟨_, rfl, .inr (.inl ⟨rfl, by decide⟩)⟩⟩,
    ⟨⟨rfl, rfl⟩, by decide +kernel, .inr ⟨_, rfl, .inr (.inl ⟨rfl, by decide⟩)⟩⟩,
    ⟨⟨rfl, rfl⟩, by decide +kernel, .inr ⟨_, rfl, .inr (.inr (.inl ⟨rfl, by decide⟩))⟩⟩,
    ⟨⟨_, ⟨rfl, rfl⟩, rfl, nofun⟩, .inr ⟨_, rfl, .inl rfl⟩⟩,
    ⟨⟨rfl, rfl⟩, by decide +kernel, rfl, by decide, rfl, rfl, rfl⟩,
    ⟨⟨rfl, rfl⟩, by decide +kernel, rfl, by decide, rfl, .inl ⟨rfl, rfl, by decide +kernel⟩⟩,
    fun _ => ⟨⟨rfl, rfl⟩, rfl, rfl, rfl, rfl, rfl⟩, by decide +kernel, by decide +kernel,
    fun _ => ⟨⟨rfl, rfl⟩, rfl, rfl, _, rfl, rfl, rfl⟩, by decide +kernel, ⟨rfl, rfl⟩, rfl,
    by decide +kernel, strikeCheck_asks .passed⟩,
    by decide +kernel, rfl, rfl, rfl, rfl, rfl, by decide +kernel, by decide +kernel, rfl,
    ⟨rfl, by decide, nofun, nofun⟩, rfl, by decide +kernel, by decide +kernel⟩

/-- The distances 1, 127, 0 and 128, and a claim in view. -/
theorem witness_TicketPrecedence :
    ((11 : Byte) - 10).toNat = 1 ∧ ((126 : Byte) - 255).toNat = 127 ∧ ((7 : Byte) - 7).toNat = 0 ∧
      ((126 : Byte) - 254).toNat = 128 ∧ 2 ≠ 4 ∧
      peerClaims (withPeer ⟨.live, 0, 1, false, some ⟨.operator, 7, true, 0⟩⟩ ready) .operator =
        [(3, ⟨.operator, 7, true, 0⟩)] := by decide +kernel

/-- The condition fails, at 66 + 15 beside 80; it holds, at 65 + 15, for a check and for a retry; QUIET for a SOUND
check that still settles, for one whose settle time is over and for one that waits with its audible write. -/
theorem witness_ClaimSettleExpiryEvaluates :
    let beside (n : Nat) (s : State) := withPeer ⟨.live, 0, 0, false, some ⟨.inrush, 9, true, n⟩⟩ s
    let own (q : Requester) : OwnClaim := ⟨.inrush, 3, false, 15, q, .running 1, some 30000⟩
    let k := checkAt (orderOf 301 [.supplySet 12000 50] (some (.current 4)) none) .stimulating (.claim .inrush)
    let retry := retrying (.running 1)
    let quiet : OwnClaim := ⟨.quiet, 3, false, 0, .ckr, .running 1, some 30000⟩
    let settles := quietCheck
    ((powering (.running 1)).resetHeld = false ∧ (beside 66 (powering (.running 1))).clu.claim = some (own .ckr) ∧
      grantCondition (beside 66 (powering (.running 1))) (own .ckr) = false ∧ Still (beside 66 (powering (.running 1)))) ∧
    ((own .ckr).amount + countedInrush (beside 65 (powering (.running 1))) (own .ckr) ≤ 80 ∧
      (powering (.running 1)).spu.rail = .waitInrush ∧ 0 < (powering (.running 1)).spu.setpoint ∧
      (powering (.running 1)).ckr = some k ∧ k.stage = .stimulating ∧ k.waitsOn = .claim .inrush) ∧
    ((beside 65 retry).clu.claim = some (own .spu) ∧
      (own .spu).amount + countedInrush (beside 65 retry) (own .spu) ≤ (beside 65 retry).oi.rack.budget ∧
      retry.spu.rail = .waitInrush ∧ 0 < retry.spu.setpoint ∧ retry.spu.retry = true ∧ Still retry) ∧
    (∀ timer, (claiming (settles timer) quiet).clu.claim = some quiet ∧
      (claiming (settles timer) quiet).ckr = some (settles timer) ∧ (settles timer).stage = .settling ∧
      (settles timer).waitsOn = .claim .quiet ∧ (settles timer).order.meas = some (.sound 4 1800 300) ∧
      (settles timer).stageTimer = timer) ∧
    grantCondition (claiming (settles (some 1)) quiet) quiet = true ∧
    grantCondition (claiming (settles none) quiet) quiet = true ∧
    ((waitingStrike (.running 1)).clu.claim = some { quiet with wait := some 1 } ∧
      grantCondition (waitingStrike (.running 1)) { quiet with wait := some 1 } = true ∧
      (waitingStrike (.running 1)).ckr = some strikeCheck ∧
      strikeCheck.AsksQuietFor strike (waitingStrike (.running 1)) 9) :=
  ⟨⟨rfl, rfl, by decide +kernel, .inr ⟨_, rfl, .inr (.inl ⟨rfl, by decide⟩)⟩⟩,
    ⟨by decide +kernel, rfl, by decide, rfl, rfl, rfl⟩, ⟨rfl, by decide +kernel, rfl, by decide, rfl,
    .inl ⟨rfl, rfl, by decide +kernel⟩⟩, fun _ => ⟨rfl, rfl, rfl, rfl, rfl, rfl⟩, by decide +kernel, by decide +kernel,
    rfl, by decide +kernel, rfl, strikeCheck_asks _⟩

/-- The three modes; the challenge field's slot defined and not; the fifth restore place empty and not. -/
theorem witness_OperatorGrantBeginsPrompt :
    (∀ mode, ∃ c k, (waitingOperator mode).resetHeld = false ∧ (waitingOperator mode).clu.claim = some c ∧
      c.granted = false ∧ c.settle = .running 1 ∧ c.resource = .operator ∧ c.requester = .ckr ∧
      (peerClaims (waitingOperator mode) .operator).any (ahead (waitingOperator mode) c) = false ∧
      (waitingOperator mode).ckr = some k ∧ k.stage = .prompting ∧ k.waitsOn = .claim .operator ∧
      (waitingOperator mode).opu.state = .waiting ∧ (waitingOperator mode).opu.prompt = some (seatbelt mode) ∧
      (seatbelt mode).mode = mode ∧ k.fifth = none) ∧
    let s := waitingOperator .attended
    ((0 : Fin 24).val = s.opu.cfg.slot ∧ s.bem.slots[(0 : Fin 24)].defined = false ∧
      (s.setBem { s.bem with slots := s.bem.slots.setIfInBounds 0 speedSlot }).bem.slots[(0 : Fin 24)].defined = true ∧
      ∃ k, (s.setCkr (some { promptCheck .attended with fifth := some ⟨0, 0, 14, 0⟩ })).ckr = some k ∧
        k.fifth = some ⟨0, 0, 14, 0⟩) :=
  ⟨fun mode => ⟨_, _, rfl, rfl, rfl, rfl, rfl, rfl, by cases mode <;> decide +kernel, rfl, rfl, rfl, rfl, rfl, rfl,
    rfl⟩, by decide +kernel, by decide +kernel, by decide +kernel, _, rfl, rfl⟩

/-- A power-up of a check, a supply retry, and a prompt of a check with a measured value. -/
theorem witness_ClaimWaitExpiryEndsCheck :
    (∃ c k, (powering .passed).resetHeld = false ∧ (powering .passed).clu.claim = some c ∧ c.granted = false ∧
      c.wait = some 30000 ∧ c.requester = .ckr ∧ (powering .passed).clu.deferred = none ∧
      (powering .passed).ckr = some k ∧ k.waitsOn = .claim c.resource ∧ k.stage ≠ .prompting ∧
      (powering .passed).oi.queue = [] ∧ (powering .passed).oi.station = .running ∧
      (powering .passed).spu.rail = .waitInrush ∧ (powering .passed).spu.retry = false) ∧
    (∃ c, (retrying .passed).resetHeld = false ∧ (retrying .passed).clu.claim = some c ∧ c.granted = false ∧
      c.wait = some 30000 ∧ (retrying .passed).clu.deferred = none ∧ c.requester = .spu ∧
      (retrying .passed).spu.retry = true ∧ (retrying .passed).spu.rail = .waitInrush ∧
      (retrying .passed).ckr = none ∧ (retrying .passed).oi.station = .ready) ∧
    let k := { promptCheck .yesNo with waitsOn := .claim .operator, value := some 412 }
    let s := (waitingOperatorAt .passed .yesNo).setCkr (some k)
    ∃ c, s.resetHeld = false ∧ s.clu.claim = some c ∧ c.granted = false ∧ c.wait = some 30000 ∧
      s.clu.deferred = none ∧ c.resource = .operator ∧ c.requester = .ckr ∧ RunsAlone s k ∧ k.stage = .prompting ∧
      k.waitsOn = .claim .operator ∧ s.opu.state ≠ .idle :=
  ⟨⟨_, _, rfl, rfl, rfl, rfl, rfl, rfl, rfl, rfl, by decide, rfl, rfl, rfl, rfl⟩,
    ⟨_, rfl, rfl, rfl, rfl, rfl, rfl, rfl, rfl, rfl, rfl⟩,
    _, rfl, rfl, rfl, rfl, rfl, rfl, rfl, ⟨rfl, rfl, rfl⟩, rfl, rfl, nofun⟩

theorem witness_AudibleWaitExpiryEndsCheck :
    (audibleWait.resetHeld = false ∧ audibleWait.clu.audible = some 1 ∧ (audibleWait.setCkr none).ckr = none) ∧
    ∃ k, audibleWait.ckr = some k ∧ k.waitsOn = .audible ∧ audibleWait.oi.queue = [] ∧
      audibleWait.oi.station = .running := ⟨⟨rfl, rfl, rfl⟩, _, rfl, rfl, rfl, rfl⟩

theorem witness_InrushHoldExpiryReleases :
    let q : ClaimRequest := ⟨.quiet, 0, .ckr⟩
    ∃ c k, (holding none).resetHeld = false ∧ (holding none).clu.claim = some c ∧ c.resource = .inrush ∧
      c.requester = .ckr ∧ (holding none).ckr = some k ∧ k.holdTimer = some 1 ∧ k.Waits ∧
      (holding none).clu.deferred = none ∧ (holding (some q)).clu.deferred = some q ∧ q.resource ≠ .inrush :=
  ⟨_, _, rfl, rfl, rfl, rfl, rfl, rfl, .inl rfl, rfl, rfl, by decide⟩

/-- A CURRENT check; a SOUND check with QUIET held and without; a LIGHT check; a BUSFIELD that runs one bit beyond the
last payload, one whose slot is not fresh, and one that is there: raw -1 of 6 bits, times 1 over 2, is -0.5, away from
zero; with a prompt, judged PASS and judged otherwise. A gain override; no measurement, with a prompt and without. -/
theorem witness_CheckSettleExpiryHandsMeasurementOver :
    let b (start : Nat) : BusField := ⟨2, start, 6, true, 2, 1, 0⟩
    let k (start : Nat) := settling (.busfield (b start))
    let s (start : Nat) (fresh : Bool) := (running (k start)).setBem { ready.bem with
      captures := ready.bem.captures.setIfInBounds 2 ⟨true, 700, false, 0xfc00#64, 2, 5, fresh, none⟩ }
    let there (t : State) (start : Nat) := t.bem.captures[(2 : Fin 8)].fresh = true ∧
      (b start).start + (b start).len ≤ 8 * t.bem.captures[(2 : Fin 8)].lastLen
    (running (settling (.current 4))).ckr = some (settling (.current 4)) ∧ (settling (.current 4)).stage = .settling ∧
    (settling (.current 4)).stageTimer = some 1 ∧ (settling (.current 4)).order.meas = some (.current 4) ∧
    (settling (.sound 4 1800 300)).order.meas = some (.sound 4 1800 300) ∧
    holdsQuiet (claiming (settling (.sound 4 1800 300)) ⟨.quiet, 3, true, 0, .ckr, .passed, none⟩) = true ∧
    holdsQuiet (claiming (settling (.sound 4 1800 300)) ⟨.quiet, 3, false, 0, .ckr, .passed, some 1⟩) = false ∧
    (settling (.light ⟨7, none, none, 16⟩)).order.meas = some (.light ⟨(7 : Fin 8), none, none, 16⟩) ∧
    (∀ start fresh, RunsAlone (s start fresh) (k start) ∧ (k start).order.meas = some (.busfield (b start)) ∧
      (b start).slot = (2 : Fin 8).val ∧ (k start).order.prompt = none ∧
      (asking (k start)).order.prompt = some (seatbelt .yesNo) ∧
      RunsAlone ((s start fresh).setCkr (some (asking (k start)))) (asking (k start))) ∧
    (¬ there (s 11 true) 11 ∧ ¬ there (s 10 false) 10 ∧ there (s 10 true) 10) ∧
    ((63 : Nat) = (s 10 true).bem.captures[(2 : Fin 8)].last.toNat / 2 ^ 10 % 2 ^ 6 ∧ 2 ^ (6 - 1) ≤ 63 ∧
      RoundsAway ((-1) * (1 : Int)) 2 (-1) ∧ LimitVerdict none none (-1) .pass ∧ LimitVerdict (some 0) none (-1) .failLow) ∧
    (settling (.light ⟨7, none, some 48, 16⟩)).order.meas = some (.light ⟨(7 : Fin 8), none, some 48, 16⟩) ∧
    let done : CheckRecord := { settling (.current 4) with order := orderOf 301 [] none none }
    (done.order.meas = none ∧ done.order.prompt = none ∧ done.value = none ∧ RunsAlone (running done) done ∧
      done.stage = .settling ∧ done.stageTimer = some 1 ∧ (asking done).order.meas = none ∧
      (asking done).order.prompt = some (seatbelt .yesNo) ∧ (running (asking done)).clu.claim = none ∧
      (claiming (asking done) ⟨.inrush, 3, true, 15, .ckr, .passed, none⟩).clu.deferred = none) :=
  ⟨rfl, rfl, rfl, rfl, rfl, by decide +kernel, by decide +kernel, rfl, fun _ _ => ⟨⟨rfl, rfl, rfl⟩, rfl, rfl, rfl, rfl,
    rfl, rfl, rfl⟩, by decide +kernel, ⟨by decide +kernel, by decide, by unfold RoundsAway; decide,
    .inr (.inr ⟨nofun, nofun, rfl⟩), .inl ⟨⟨0, rfl, by decide⟩, rfl⟩⟩, rfl, rfl, rfl, rfl, ⟨rfl, rfl, rfl⟩, rfl, rfl, rfl,
    rfl, rfl, rfl⟩

theorem witness_CheckStartRequestsInrush :
    aboutToStart.resetHeld = false ∧
      aboutToStart.oi.queue = orderOf 301 [.supplySet 13505 50] (some (.current 4)) none :: [] ∧
      aboutToStart.oi.station = .ready ∧ aboutToStart.ckr = none ∧ aboutToStart.spu.rail = .off ∧
      aboutToStart.spu.retry = false ∧ aboutToStart.clu.claim = none := by decide +kernel

theorem speedSlot_proper : speedSlot.Proper :=
  ⟨by decide, fun k h => by cases h; decide, fun a l h => by
    cases h; exact ⟨by decide, by decide, fun k h => by cases h; decide⟩⟩

/-- One action and a CURRENT measurement: a level other than the present one and the present one, in ON; a dip and a
SUPPLY_OFF in OFF and in ON; MESSAGE_ON of an undefined, a periodic and an event-only slot, MESSAGE_OFF of an enabled
one; a write, an audible one with no peer QUIET claim, with one, and in a SOUND check; no action, and a BUSFIELD. Two
actions: MESSAGE_OFF and a level. -/
theorem witness_CheckStartCarriesOutAction :
    let order (a : Action) := orderOf 301 [a] (some (.current 4)) none
    let on := railed .on ready
    let behind (s : State) (o : OrderRec) := s.setOi { s.oi with queue := [o] }
    let heads (s : State) (o : OrderRec) : Prop := (behind s o).oi.queue = o :: [] ∧ (behind s o).resetHeld = false ∧
      (behind s o).oi.station = .ready ∧ (behind s o).ckr = none ∧ (behind s o).spu.rail ≠ .discharging ∧
      (behind s o).spu.retry = false
    let event := { speedSlot with period := 0, phase := 0, enabled := false }
    let slots := ((on.bem.slots.setIfInBounds 9 event).setIfInBounds 10 { speedSlot with enabled := false }).setIfInBounds
      23 speedSlot
    let bus := on.setBem { on.bem with slots := slots }
    let w (audible : Bool) : FieldWrite := ⟨9, 16, 4, false, 2, 1, 1, 0, true, audible⟩
    let wants := withPeer ⟨.live, 0, 1, false, some ⟨.quiet, 7, true, 0⟩⟩ bus
    let busfield : BusField := ⟨7, 0, 8, false, 1, 1, 0⟩
    ((∀ o, heads ready o) ∧ (∀ o, heads on o) ∧ (∀ o, heads bus o) ∧ ∀ o, heads wants o) ∧
    (∀ a, ((order a).newCheck false).SettlesNext) ∧
    (on.spu.rail = .on ∧ on.spu.effective ≠ 13505 / 10 * 10 ∧ on.spu.effective = 12009 / 10 * 10 ∧
      ready.spu.rail = .off ∧ on.spu.outputMv < 500 ∧
      ¬ (on.setSpu { on.spu with outputMv := 500 }).spu.outputMv < 500) ∧
    (bus.bem.slots[(0 : Fin 24)].defined = false ∧ bus.bem.slots[(23 : Fin 24)].enabled = true ∧
      bus.bem.slots[(10 : Fin 24)].defined = true ∧ bus.bem.slots[(10 : Fin 24)].enabled = false ∧
      bus.bem.slots[(10 : Fin 24)].period ≠ 0 ∧ bus.bem.slots[(9 : Fin 24)] = event ∧ bus.bem.silent = false) ∧
    event.Proper ∧
    (∀ audible, (w audible).slot = (9 : Fin 24).val ∧ 1 ≤ (w audible).len ∧ (w audible).start + (w audible).len ≤ 64 ∧
      (w audible).den ≠ 0 ∧ (w audible).audible = audible) ∧
    (holdsQuiet bus = false ∧ peerClaims bus .quiet = [] ∧ holdsQuiet wants = false ∧ peerClaims wants .quiet ≠ [] ∧
      bus.clu.claim = none ∧ bus.clu.noisy = false) ∧
    ((orderOf 322 [.messageOff 10, .supplySet 13505 50] none none).actions =
        [.messageOff (10 : Fin 24), .supplySet 13505 50] ∧ bus.spu.rail = .on ∧ bus.spu.effective ≠ 13505 / 10 * 10) ∧
    ((orderOf 320 [.fieldWrite (w true)] (some (.sound 4 1800 300)) none).meas = some (.sound 4 1800 300) ∧
      (orderOf 321 [] (some (.busfield busfield)) none).settle ≠ 0 ∧ busfield.slot = (7 : Fin 8).val) :=
  ⟨⟨fun _ => ⟨rfl, rfl, rfl, rfl, nofun, rfl⟩, fun _ => ⟨rfl, rfl, rfl, rfl, nofun, rfl⟩,
    fun _ => ⟨rfl, rfl, rfl, rfl, nofun, rfl⟩, fun _ => ⟨rfl, rfl, rfl, rfl, nofun, rfl⟩⟩,
    fun _ => ⟨rfl, (by decide : (100 : Nat) ≠ 0), nofun, nofun⟩, by decide +kernel, by decide +kernel, speedSlot_proper,
    fun _ => ⟨rfl, (by decide : 1 ≤ 4), (by decide : 16 + 4 ≤ 64), (by decide : (1 : Nat) ≠ 0), rfl⟩, by decide +kernel,
    by decide +kernel, by decide +kernel⟩

/-- The five refusals: eight orders queued; the id in flight; id 0; HOLD; UNCONFIGURED. -/
theorem witness_OrderRefusedByFirstTest :
    let p := currentOrderPayload
    let full := queued.setOi { queued.oi with queue := List.replicate 8 (orderOf 302 [] none none) }
    let mine := running { currentCheck with order := orderOf 9 [] (some (.current 4)) none }
    let zero : List Byte := 0 :: p.tail
    let held := ready.setOi { ready.oi with station := .hold }
    Ends ready (toNest .order p) (.order p) ∧ Ends ready (toNest .order zero) (.order zero) ∧
    (full.resetHeld = false ∧ full.rli = ready.rli ∧ 8 ≤ full.oi.queue.length) ∧
    (mine.oi.queue.length < 8 ∧ idTaken mine (leadingHalf p) = true) ∧
    (idTaken ready (leadingHalf zero) = false ∧ ((parseOrder zero).map OrderRec.malformed) = some true) ∧
    (idTaken held (leadingHalf p) = false ∧ parseOrder p = some currentOrder ∧ currentOrder.malformed = false ∧
      orderImpossible held currentOrder = false ∧ held.oi.station = .hold) ∧
    (orderImpossible nest currentOrder = false ∧ nest.oi.station = .unconfigured) :=
  ⟨⟨rfl, rfl, by decide +kernel⟩, ⟨rfl, rfl, by decide +kernel⟩, by decide +kernel, by decide +kernel,
    by decide +kernel, by decide +kernel, by decide +kernel⟩

/-- Seven orders queued behind a check that measures; READY, with the rail DISCHARGING, in a retry, and with nothing to
wait for. -/
theorem witness_OrderAcceptedJoinsQueue :
    let s := queued.setOi { queued.oi with queue := List.replicate 7 (orderOf 302 [] none none) }
    let takes (s : State) : Prop := Ends s (toNest .order currentOrderPayload) (.order currentOrderPayload) ∧
      s.oi.queue.length < 8 ∧ idTaken s (leadingHalf currentOrderPayload) = false ∧ orderImpossible s currentOrder = false
    (parseOrder currentOrderPayload = some currentOrder ∧ currentOrder.malformed = false) ∧
    (takes s ∧ s.oi.station = .running ∧ s.ckr = some currentCheck ∧ currentCheck.Waits) ∧
    (takes (railed .discharging ready) ∧ (railed .discharging ready).oi.station = .ready ∧
      (railed .discharging ready).ckr = none ∧ (railed .discharging ready).spu.rail = .discharging) ∧
    (takes (faulted 0) ∧ (faulted 0).oi.station = .ready ∧ (faulted 0).ckr = none ∧ (faulted 0).spu.retry = true) ∧
    (takes ready ∧ ready.oi.station = .ready ∧ ready.ckr = none ∧ ready.oi.queue = [] ∧ ready.spu.rail ≠ .discharging ∧
      ready.spu.retry = false ∧ currentOrder.actions = [] ∧ (clampOrder ready currentOrder).settle ≠ 0 ∧
      currentOrder.meas = some (.current 4)) :=
  have takes (s : State) (h1 : s.resetHeld = false) (h2 : s.rli = ready.rli) (h : s.oi.queue.length < 8 ∧
      idTaken s (leadingHalf currentOrderPayload) = false ∧ orderImpossible s currentOrder = false) :=
    (⟨⟨h1, by rw [h2]; rfl, by rw [h2]; decide +kernel⟩, h⟩ :
      Ends s (toNest .order currentOrderPayload) (.order currentOrderPayload) ∧ s.oi.queue.length < 8 ∧
        idTaken s (leadingHalf currentOrderPayload) = false ∧ orderImpossible s currentOrder = false)
  ⟨by decide +kernel, ⟨takes _ rfl rfl (by decide +kernel), rfl, rfl, .inl rfl⟩,
    ⟨takes _ rfl rfl (by decide +kernel), rfl, rfl, rfl⟩, ⟨takes _ rfl rfl (by decide +kernel), rfl, rfl, rfl⟩,
    takes _ rfl rfl (by decide +kernel), rfl, rfl, rfl, by decide, rfl, rfl, by decide +kernel, rfl⟩

/-- A SUPPLY_SET, a CRANK, another action, a prompt and a LIGHT measurement with an override, above and below their
ranges. -/
theorem witness_OrderCopyIsClamped :
    let o := orderOf 9 [.supplySet 18001 0, .crank 18001 1 2001, .supplyOff] (some (.light ⟨7, none, some 48, 0⟩))
      (some ⟨.yesNo, [], 121⟩)
    o.clamped = false ∧ o.actions[0]? = some (.supplySet 18001 0) ∧ o.actions[1]? = some (.crank 18001 1 2001) ∧
      o.actions[2]? = some .supplyOff ∧ (currentOrder.prompt = none ∧ ∀ m, currentOrder.meas ≠ some (.light m)) ∧
      o.prompt = some ⟨.yesNo, [], 121⟩ ∧ o.meas = some (.light ⟨(7 : Fin 8), none, some 48, 0⟩) :=
  ⟨rfl, rfl, rfl, rfl, ⟨rfl, nofun⟩, rfl, rfl⟩

/-- ABORT, addressed and broadcast: for another check; for this one, with and without a target; with two orders behind
it, flushed; a flush with no check in flight and behind a check that goes on; with an order behind it, not flushed, the
rail OFF and DISCHARGING. END_DUT with and without a check. A check with a field to put back; one that measures light,
current and sound. -/
theorem witness_ControlAbortAndEndDut :
    let a (flags target : Byte) := abortPayload flags target
    let k := { currentCheck with fifth := some ⟨3, 0, 4, 5⟩, restore := [⟨23, 60, 4, 2⟩] }
    let named (k : CheckRecord) (target : Option Half) := target = none ∨ target = some k.order.checkId
    (Ends (running currentCheck) (toNest .control (a 2 9)) (.control false (a 2 9)) ∧
      parseControl (a 2 9) = some (.abort false (some 9)) ∧ Still (running currentCheck) ∧
      (∀ k, (running currentCheck).ckr = some k → ¬ named k (some 9))) ∧
    (Ends (running k) (toAll .control (a 0 0)) (.control true (a 0 0)) ∧ parseControl (a 0 0) = some (.abort false none) ∧
      parseControl [7, 0, 1, 2, 0x2d, 1] = some (.abort false (some k.order.checkId)) ∧ (running k).ckr = some k ∧
      (running k).oi.queue = [] ∧ (running k).oi.station = .running ∧ (running k).rli.hasRoom = true ∧
      (∀ n : Fin 24, (running k).bem.slots[n].period ≠ 0 ∨ (running k).bem.slots[n].enabled = false)) ∧
    (Ends queued (toNest .control (a 3 9)) (.control false (a 3 9)) ∧ parseControl (a 1 0) = some (.abort true none) ∧
      queued.ckr = some currentCheck ∧ queued.oi.queue ≠ [] ∧ queued.oi.station = .running ∧
      parseControl (a 3 9) = some (.abort true (some 9)) ∧ currentCheck.Waits ∧ ¬ named currentCheck (some 9)) ∧
    (aboutToStart.ckr = none ∧ aboutToStart.oi.station ≠ .running) ∧
    (Ends (railed .on queued) (toNest .control endPayload) (.control false endPayload) ∧
      Ends ready (toAll .control endPayload) (.control true endPayload) ∧ parseControl endPayload = some .endDut ∧
      (railed .on queued).ckr = some currentCheck ∧ ready.ckr = none) ∧
    (queued.oi.queue = orderOf 302 [] none none :: [orderOf 303 [] none none] ∧ queued.spu.retry = false ∧
      queued.spu.rail = .off ∧ (railed .discharging queued).spu.rail = .discharging ∧
      (railed .discharging queued).oi.queue = queued.oi.queue ∧ (orderOf 302 [] none none).actions = [] ∧
      (orderOf 302 [] none none).settle ≠ 0 ∧ (orderOf 302 [] none none).meas = none) ∧
    (currentCheck.stage = .measuring ∧ currentCheck.order.meas = some (.current 4) ∧ soundCheck.stage = .measuring ∧
      soundCheck.order.meas = some (.sound 4 1800 300) ∧ ∃ k l, (measuringLight (lightAt .window 26)).ckr = some k ∧
        k.stage = .measuring ∧ k.order.meas = some (.light l) ∧ l.channel = (3 : Fin 8).val) ∧
    ¬ (running k).ArrivalMeets :=
  ⟨⟨⟨rfl, rfl, by decide +kernel⟩, by decide +kernel, .inr ⟨_, rfl, .inl rfl⟩, fun k h => by cases h; decide⟩,
    ⟨⟨rfl, rfl, by decide +kernel⟩, by decide +kernel, by decide +kernel, rfl, rfl, rfl, by decide +kernel,
    by decide +kernel⟩, ⟨⟨rfl, rfl, by decide +kernel⟩, by decide +kernel, rfl, nofun, rfl, by decide +kernel, .inl rfl,
    by decide⟩, ⟨rfl, nofun⟩, ⟨⟨rfl, rfl, by decide +kernel⟩, ⟨rfl, rfl, by decide +kernel⟩, by decide +kernel, rfl, rfl⟩,
    by decide +kernel, ⟨rfl, rfl, rfl, rfl, _, _, rfl, rfl, rfl, rfl⟩, fun h => nomatch h.2.1⟩

/-- Addressed and broadcast; with a check and a queue, a transmission in progress, and at rest; a prompt in DONE; eight
orders and no TAKE_SUMMARY behind it. -/
theorem witness_ControlRestartClearsStation :
    let f := toNest .control restartPayload
    let done := ready.setOpu { ready.opu with state := .done, attempts := 1, code := 8210 }
    let eight := queued.setOi { queued.oi with queue := List.replicate 8 (orderOf 302 [] none none) }
    (queued.resetHeld = false ∧ classify queued.rli f = .control false restartPayload ∧
      classify queued.rli (toAll .control restartPayload) = .control true restartPayload ∧
      parseControl restartPayload = some .restart ∧ queued.ckr = some currentCheck) ∧
    ((sending false).rli.contention.sending = true ∧ classify (sending false).rli f = .control false restartPayload) ∧
    (ready.rli.contention.sending = false ∧ ready.ckr = none ∧ ready.clu.claim = none ∧ ready.clu.noisy = false) ∧
    done.opu.state ≠ .idle ∧ NoTakeNext eight ∧ eight.oi.queue.length ≤ 8 ∧ (railed .safe queued).spu.rail = .safe :=
  ⟨by decide +kernel, by decide +kernel, by decide +kernel, by decide +kernel, nofun, by decide +kernel, rfl⟩

/-- HOLD; UNCONFIGURED; BUSY by a check, by the queue and by the rail; none of them. -/
theorem witness_ControlBeginDut :
    Ends ready (toNest .control beginPayload) (.control false beginPayload) ∧
      parseControl beginPayload = some (.beginDut 1042) ∧
      (ready.setOi { ready.oi with station := .hold }).oi.station = .hold ∧ nest.oi.station = .unconfigured ∧
      queued.ckr.isSome = true ∧ queued.oi.station ≠ .hold ∧ queued.oi.station ≠ .unconfigured ∧
      aboutToStart.oi.queue ≠ [] ∧ (railed .on ready).spu.rail ≠ .off ∧
      ¬ (ready.ckr.isSome = true ∨ ready.oi.queue ≠ [] ∨ ready.spu.rail ≠ .off) :=
  ⟨⟨rfl, rfl, by decide +kernel⟩, by decide +kernel⟩

theorem witness_ControlClearHold :
    let held := (railed .safe ready).setOi { ready.oi with station := .hold, safeHold := true }
    Ends held (toNest .control clearPayload) (.control false clearPayload) ∧
      parseControl clearPayload = some .clearHold ∧ (Still (running currentCheck) ∧
      (running currentCheck).spu.rail ≠ .safe) ∧ AtRest held ∧ held.spu.rail = .safe :=
  ⟨⟨rfl, rfl, by decide +kernel⟩, by decide +kernel, ⟨.inr ⟨_, rfl, .inl rfl⟩, by decide⟩,
    ⟨rfl, rfl, by decide +kernel⟩, rfl⟩

/-- Room, and 16 frames in the reply queue; the exchange already made. -/
theorem witness_ControlTakeSummary :
    Ends ready (toAll .control takePayload) (.control true takePayload) ∧
      parseControl takePayload = some .takeSummary ∧ ready.taken = false ∧ ready.rli.hasRoom = true ∧
      (ready.setRli { ready.rli with
        replies := List.replicate 16 (.receipt ⟨.order, 1, .accepted, 8⟩) }).rli.hasRoom = false ∧
      Ends (ready.setTaken true) (toAll .control takePayload) (.control true takePayload) ∧
      (ready.setTaken true).taken = true :=
  ⟨⟨rfl, rfl, by decide +kernel⟩, by decide +kernel, rfl, by decide +kernel, by decide +kernel,
    ⟨rfl, rfl, by decide +kernel⟩, rfl⟩

theorem witness_MalformedFramesAnswerInvalid :
    let c : List Byte := [7, 0, 9]
    let g : List Byte := [7, 0, 7]
    (Ends ready (toNest .control c) (.control false c) ∧ parseControl c = none) ∧
    Ends ready (toAll .control c) (.control true c) ∧
    (Ends ready (toNest .configure g) (.configure g) ∧ parseConfigure g = none) :=
  ⟨⟨⟨rfl, rfl, by decide +kernel⟩, by decide +kernel⟩, ⟨rfl, rfl, by decide +kernel⟩,
    ⟨rfl, rfl, by decide +kernel⟩, by decide +kernel⟩

/-- One byte; id 0; no record of the id; two records, of which the newer is not of the id. -/
theorem witness_QueryAnswersNewestRecord :
    let r (id : Half) : VerdictRecord := ⟨⟨id, .pass, none, .none, none, none, {}, none⟩, ⟨none, none⟩, id⟩
    let s := ready.setVdu { ready.vdu with ring := [r 9, r 10] }
    (Ends ready (toNest .query [9]) (.query [9]) ∧ [(9 : Byte)].length ≠ 2) ∧
    (Ends ready (toNest .query [0, 0]) (.query [0, 0]) ∧ half 0 0 = 0) ∧
    (Ends s (toNest .query [9, 0]) (.query [9, 0]) ∧ (∀ x ∈ ready.vdu.ring, x.content.checkId ≠ half 9 0) ∧
      s.vdu.ring = [] ++ r 9 :: [r 10] ∧ (r 9).content.checkId = half 9 0 ∧ half 9 0 ≠ 0 ∧
      ∀ x ∈ [r 10], x.content.checkId ≠ half 9 0) :=
  ⟨⟨⟨rfl, rfl, by decide +kernel⟩, by decide⟩, ⟨⟨rfl, rfl, by decide +kernel⟩, rfl⟩, ⟨rfl, rfl, by decide +kernel⟩,
    by decide, rfl, by decide, by decide,
    by decide⟩

/-- BUSY in HOLD, with a check, with a queue and with the rail ON. -/
theorem witness_ConfigureBusy :
    let may (s : State) := (s.oi.station = .unconfigured ∨ s.oi.station = .ready) ∧ s.ckr = none ∧ s.oi.queue = [] ∧
      s.spu.rail = .off
    Ends ready (toNest .configure supplyPayload) (.configure supplyPayload) ∧
      parseConfigure supplyPayload = some (.supply ⟨50, 9, 100⟩) ∧
      ¬ may (ready.setOi { ready.oi with station := .hold }) ∧ ¬ may (running currentCheck) ∧ ¬ may aboutToStart ∧
      ¬ may (railed .on ready) :=
  ⟨⟨rfl, rfl, by decide +kernel⟩, by decide +kernel⟩

/-- The six sections, the named slot or channel at an end of its range. -/
theorem witness_ConfigureAccepted :
    let light : List Byte := [7, 0, 3, 7, 0, 0, 50, 0, 8, 4, 12, 128, 0, 1, 7]
    let message : List Byte := messagePayload.set 3 23
    let capture : List Byte := [7, 0, 6, 7, 0xff, 0xff, 9]
    (Ends ready (toNest .configure rackPayload) (.configure rackPayload) ∧ ready.oi.station = .ready ∧
      nest.oi.station = .unconfigured ∧ ready.ckr = none ∧ ready.oi.queue = [] ∧ ready.spu.rail = .off) ∧
    parseConfigure rackPayload = some (.rack ⟨300, 65, 0, 5, 200⟩) ∧
    parseConfigure supplyPayload = some (.supply ⟨50, 9, 100⟩) ∧
    parseConfigure light = some (.light (7 : Fin 8) ⟨0, 50, 8, 4, 12, 128, 1, 7⟩) ∧
    (parseConfigure operatorPayload = some (.operator ⟨3, 800, 0, 7, 16⟩) ∧ ready.opu.errors ≤ max 1 (min 15 3)) ∧
    (parseConfigure message = some (.message ⟨(23 : Fin 24), 416, 8, 20, 5, 0xff00000000000000#64, some (56, 4), some 6⟩)) ∧
    parseConfigure capture = some (.capture ⟨(7 : Fin 8), 65535, true⟩) :=
  ⟨⟨⟨rfl, rfl, by decide +kernel⟩, by decide +kernel⟩, by decide +kernel⟩

/-- Periods 0 and 1; a counter and a checksum byte that stay; a checksum byte one past the payload; a counter that
shares a bit with the checksum byte, one that ends at the payload's end and one that runs past it. -/
theorem witness_MessageSectionAdjusted :
    let m : MessageSection := ⟨3, 416, 8, 20, 5, 0, some (56, 4), some 6⟩
    (adjustMessage { m with period := 0 }).period = 0 ∧ (adjustMessage { m with period := 1 }).period ≠ 0 ∧
      (adjustMessage m).checksum = some 6 ∧ (adjustMessage m).counter = some (56, 4) ∧
      (adjustMessage { m with len := 6 }).checksum = none ∧
      (adjustMessage { m with counter := some (48, 0) }).counter = none ∧
      (adjustMessage { m with counter := some (56, 9) }).counter = some (56, 8) ∧
      (adjustMessage { m with counter := some (57, 8) }).counter = none := by decide +kernel

/-- The rail OFF with nothing to do; a rail that is ON; a queue; a check without a queue and with one. -/
theorem witness_LinePresenceExpiry :
    (ready.resetHeld = false ∧ ready.oi.presence = some 10000 ∧ ready.spu.rail = .off ∧ ready.ckr = none ∧
      ready.oi.queue = []) ∧
    (railed .on ready).spu.rail ≠ .off ∧ (aboutToStart.oi.queue ≠ [] ∧ aboutToStart.ckr = none) ∧
    ((running currentCheck).ckr = some currentCheck ∧ (running currentCheck).oi.queue = []) ∧
    (queued.ckr = some currentCheck ∧ queued.oi.queue ≠ []) := by decide +kernel

theorem onRail_isLast (a : Action) : (onRail a).OnLastRailAction :=
  ⟨rfl, rfl, rfl, (by decide : (100 : Nat) ≠ 0), nofun, nofun⟩

/-- A check on the rail with its first action, another behind it. -/
def onRailThen (a b : Action) : CheckRecord := checkAt (orderOf 301 [a, b] none none) .stimulating .rail

/-- A check's power-up with a slot of phase 0 enabled, and a retry; a further SUPPLY_SET. -/
theorem witness_RampComplete :
    let k := onRail (.supplySet 12000 50)
    let s := railed .ramping ((running k).setBem { nest.bem with
      slots := nest.bem.slots.setIfInBounds 23 { speedSlot with phase := 0 } })
    let retry := railed .ramping ((ready.setClu { ready.clu with
      claim := some ⟨.inrush, 3, true, 15, .spu, .passed, none⟩ }).setSpu { ready.spu with retry := true })
    (s.resetHeld = false ∧ s.spu.rail = .ramping ∧ s.spu.retry = false ∧ s.ckr = some k ∧ k.OnLastRailAction ∧
      s.bem.slots[(23 : Fin 24)].defined = true ∧ s.bem.slots[(23 : Fin 24)].enabled = true ∧
      s.bem.slots[(23 : Fin 24)].phase = 0 ∧ { speedSlot with phase := 0 }.Proper) ∧
    ((∀ n : Fin 24, retry.bem.slots[n].enabled = false) ∧ retry.spu.rail = .ramping ∧ retry.spu.retry = true ∧
      AtRest retry ∧ retry.clu.deferred = none ∧
      ∃ c, retry.clu.claim = some c ∧ c.resource = .inrush ∧ c.requester = .spu) ∧
    (let k := onRailThen (.supplySet 12000 50) (.supplySet 13505 50);
      (s.setCkr (some k)).spu.retry = false ∧ (s.setCkr (some k)).ckr = some k ∧ k.stage = .stimulating ∧
        k.waitsOn = .rail ∧ k.order.actions[k.index + 1]? = some (.supplySet 13505 50) ∧
        13505 / 10 * 10 ≠ s.spu.setpoint) :=
  ⟨⟨rfl, rfl, rfl, rfl, onRail_isLast _, by decide +kernel, by decide +kernel, by decide +kernel, speedSlot_proper⟩,
    ⟨by decide +kernel, rfl, rfl, ⟨rfl, rfl, by decide +kernel⟩, rfl, _, rfl, rfl, rfl⟩, by decide +kernel⟩

/-- The three arrivals, with no check and with one that waits; a dip that ends below the setpoint; a next action of each
kind. -/
theorem witness_RailProfilesArrive :
    let level := (cranking (some 0)).setSpu { (cranking (some 0)).spu with effective := 13500 }
    ((railed .slewing ready).spu.rail = .slewing ∧ Still (railed .slewing ready) ∧
      NoneWaitsForRail (railed .slewing ready)) ∧
    ((cranking none).spu.rail = .cranking ∧ (∃ p, (cranking none).spu.crank = some p ∧ p.hold = none) ∧
      ∃ k, (cranking none).ckr = some k ∧ k.OnLastRailAction) ∧
    (level.spu.rail = .cranking ∧ level.spu.effective = level.spu.setpoint ∧
      ∃ p, level.spu.crank = some p ∧ p.hold = some 0) ∧
    ((∃ p, (cranking (some 0)).spu.crank = some p ∧ p.hold = some 0) ∧
      (cranking (some 0)).spu.effective ≠ (cranking (some 0)).spu.setpoint) ∧
    (let s := railed .slewing ready;
      let next (a : Action) := onRailThen (.supplySet 12000 50) a;
      (∀ a, (s.setCkr (some (next a))).ckr = some (next a) ∧ (next a).stage = .stimulating ∧
        (next a).waitsOn = .rail ∧ (next a).order.actions[(next a).index + 1]? = some a) ∧
      13505 / 10 * 10 ≠ s.spu.setpoint ∧ s.spu.retry = false ∧
      500 ≤ (s.setSpu { s.spu with effective := 11990 }).spu.arrived.outputMv ∧
      500 ≤ (s.setSpu { s.spu with outputMv := 500 }).spu.arrived.outputMv) :=
  ⟨⟨rfl, .inl ⟨rfl, rfl, by decide +kernel⟩, fun _ h => by cases h⟩,
    ⟨rfl, ⟨⟨6000, none, 25⟩, rfl, rfl⟩, onRail (.crank 6000 40 25), rfl, onRail_isLast _⟩,
    ⟨rfl, by decide +kernel, ⟨6000, some 0, 25⟩, rfl, rfl⟩, ⟨⟨⟨6000, some 0, 25⟩, rfl, rfl⟩, by decide +kernel⟩,
    fun _ => ⟨rfl, rfl, rfl, rfl⟩, by decide +kernel⟩

/-- 499 and 500 mV; no check; a SUPPLY_OFF; a queue held back. -/
theorem witness_DischargeEndsInOff :
    let o := orderOf 301 [] none none
    let back := railed .discharging (ready.setOi { ready.oi with queue := [o] })
    (500 ≤ 500 ∧ 499 < 500) ∧
    ((railed .discharging ready).resetHeld = false ∧ (railed .discharging ready).spu.rail = .discharging ∧
      Still (railed .discharging ready) ∧ NoneWaitsForRail (railed .discharging ready)) ∧
    ((onRail .supplyOff).OnLastRailAction ∧
      (onRail .supplyOff).order.actions[(onRail .supplyOff).index]? = some .supplyOff) ∧
    (back.ckr = none ∧ back.spu.retry = false ∧ back.oi.station = .ready ∧ back.oi.queue = o :: [] ∧
      o.actions = [] ∧ o.settle ≠ 0 ∧ o.meas = none) :=
  ⟨by decide, ⟨rfl, rfl, .inl ⟨rfl, rfl, by decide +kernel⟩, fun _ h => by cases h⟩, ⟨onRail_isLast _, rfl⟩,
    by decide +kernel⟩

/-- No check and no claim; a retry's claim; a check; an effective setpoint of 2 mV and of 1 mV. -/
theorem witness_SupplyFaultEntersFaultOff :
    let low (n : Nat) := (railed .on ready).setSpu { (railed .on ready).spu with effective := n }
    let retry := railed .ramping ((ready.setClu { ready.clu with
      claim := some ⟨.inrush, 3, true, 15, .spu, .passed, none⟩ }).setSpu { ready.spu with retry := true })
    ((low 2).resetHeld = false ∧ 2 ≤ (low 2).spu.effective ∧ (low 2).spu.rail.outputOn = true ∧ (low 2).ckr = none ∧
      (low 2).oi.station ≠ .running ∧ (low 2).clu.claim = none ∧ (low 2).clu.deferred = none) ∧
    (retry.spu.rail.outputOn = true ∧ retry.ckr = none ∧ retry.clu.deferred = none ∧
      ∃ q, retry.clu.claim = some q ∧ q.resource = .inrush ∧ q.requester = .spu) ∧
    ((railed .on (running currentCheck)).ckr = some currentCheck ∧
      (railed .on (running currentCheck)).oi.station = .running) ∧
    ((low 1).spu.rail = .on ∧ (low 1).spu.effective < 2) :=
  ⟨by decide +kernel, ⟨rfl, rfl, rfl, _, rfl, rfl, rfl⟩, ⟨rfl, rfl⟩, rfl, by decide⟩

/-- No check, with and without a queue; a check, with and without one. -/
theorem witness_OvervoltageEntersSafe :
    (railed .on ready).resetHeld = false ∧ (railed .on ready).spu.rail.outputOn = true ∧
      (railed .on ready).oi.station = .ready ∧ (railed .on ready).ckr = none ∧ (railed .on ready).oi.queue = [] ∧
      (railed .on aboutToStart).ckr = none ∧ (railed .on aboutToStart).oi.queue ≠ [] ∧
      (railed .on (running currentCheck)).oi.station = .running ∧
      (railed .on (running currentCheck)).ckr = some currentCheck ∧
      (railed .on (running currentCheck)).oi.queue = [] ∧ (railed .on queued).ckr = some currentCheck ∧
      (railed .on queued).oi.queue ≠ [] := by decide +kernel

/-- A count below the limit and at it; a recovery timer. -/
theorem witness_RetryTimersExpire :
    ((faulted 0).resetHeld = false ∧ (faulted 0).spu.rail = .faultOff ∧ (faulted 0).spu.offTimer = some 0 ∧
      (faulted 0).spu.retry = true ∧ (faulted 0).ckr = none ∧ (faulted 0).oi.station = .ready ∧
      (faulted 0).clu.claim = none ∧ (faulted 0).spu.retryCount < (faulted 0).spu.cfg.retryLimit) ∧
    (faulted 1).spu.cfg.retryLimit ≤ (faulted 1).spu.retryCount ∧
    (ready.setSpu { ready.spu with recovery := some 1 }).spu.recovery = some 1 := by decide +kernel

/-- A slot with counter and checksum that is due, with and without an instance that waits; one that is not due; an
event-only one. -/
theorem witness_SlotDueTakesSnapshot :
    let m := emulating.bem.slots[(3 : Fin 24)]
    let w := waitingInstance
    (emulating.resetHeld = false ∧ emulating.bem.schedule = some 5 ∧ m = speedSlot ∧ speedSlot.period ≠ 0 ∧
      speedSlot.defined = true ∧ speedSlot.enabled = true ∧ emulating.bem.silent = false ∧ emulating.spu.rail = .on ∧
      emulating.bem.queue = [] ∧ w.bem.schedule = some 5 ∧ w.bem.queue = [⟨3, 416, 8, 0⟩] ∧
      (railed .off emulating).spu.rail = .off ∧ emulating.bem.slots[(4 : Fin 24)].period = 0) ∧ speedSlot.Proper :=
  ⟨by decide +kernel, speedSlot_proper⟩

/-- A head to send; an attempt with and without a newer snapshot; counts 30 and 31, alone and with a check. -/
theorem witness_AttemptsOnTheClusterBus :
    let newer := (onTheBus 0).setBem { (onTheBus 0).bem with queue := [⟨3, 416, 8, 1⟩] }
    (waitingInstance.bem.sending = none ∧ waitingInstance.bem.queue = ⟨3, 416, 8, 0⟩ :: []) ∧
    ((onTheBus 30).resetHeld = false ∧ (onTheBus 30).bem.sending = some ⟨(3 : Fin 24), 416, 8, 0⟩ ∧
      (onTheBus 30).bem.unacked < 31 ∧ ∀ y ∈ (onTheBus 30).bem.queue, y.slot ≠ (3 : Fin 24)) ∧
    (∃ y ∈ newer.bem.queue, y.slot = (3 : Fin 24)) ∧
    ((onTheBus 31).bem.unacked = 31 ∧ (onTheBus 31).bem.silent = false ∧ (onTheBus 31).ckr = none ∧
      Still (onTheBus 31)) ∧
    RunsAlone ((running currentCheck).setBem (onTheBus 31).bem) currentCheck ∧
    ¬ ((running currentCheck).setBem (onTheBus 31).bem).ArrivalMeets :=
  ⟨by decide +kernel, by decide +kernel, ⟨_, .head _, rfl⟩, ⟨rfl, rfl, rfl, .inl ⟨rfl, rfl, by decide +kernel⟩⟩,
    ⟨rfl, rfl, rfl⟩, fun h => nomatch h.2.1⟩

theorem badHalf_of_short {data : List Byte} (h : data.length ≠ 8) : IsBadHalf data :=
  ⟨fun _ ⟨_, _, _, _, _, _, e, _⟩ => h (e ▸ rfl), fun ⟨_, _, _, _, _, _, e⟩ => h (e ▸ rfl)⟩

/-- A remote frame and a data frame of 8 bytes; the bus ACTIVE, and BUS_SILENT with the rail OFF and ON and an
event-only slot enabled. A PLAIN slot beside an IDENT slot of another identifier; an IDENT slot with a half held and
with none; a good half 0, a good half 1 and a bad half. -/
theorem witness_ClusterFrameIsCaptured :
    let quiet := ready.setBem { ready.bem with silent := true }
    let event := (railed .on quiet).setBem { quiet.bem with
      slots := quiet.bem.slots.setIfInBounds 23 { speedSlot with period := 0, phase := 0 } }
    let plain := (identifying 0).setBem { (identifying 0).bem with
      captures := (identifying 0).bem.captures.setIfInBounds 7 ⟨true, 2047, false, 0, 0, 65535, false, none⟩ }
    let empty := ready.setBem { ready.bem with
      captures := ready.bem.captures.setIfInBounds 2 ⟨true, 700, true, 0, 0, 65535, false, none⟩ }
    (ready.resetHeld = false ∧ ready.bem.silent = false ∧ (⟨false, true, 1, []⟩ : CanFrame).remote = true) ∧
    (quiet.bem.silent = true ∧ quiet.spu.rail.transmits = false) ∧
    (event.bem.silent = true ∧ event.spu.rail.transmits = true ∧ event.bem.slots[(23 : Fin 24)].defined = true ∧
      event.bem.slots[(23 : Fin 24)].enabled = true ∧ event.bem.slots[(23 : Fin 24)].period = 0) ∧
    { speedSlot with period := 0, phase := 0 }.Proper ∧
    (plain.bem.silent = false ∧ (⟨false, false, 2047, [1, 2, 3, 4, 5, 6, 7, 8]⟩ : CanFrame).data.length ≤ 8 ∧
      plain.bem.captures[(7 : Fin 8)].defined = true ∧ plain.bem.captures[(7 : Fin 8)].id = 2047 ∧
      (∀ n : Fin 8, ¬ ((plain.bem.captures[n].defined = true ∧ plain.bem.captures[n].id = 2047) ∧
        plain.bem.captures[n].ident = true)) ∧ plain.bem.captures[(2 : Fin 8)].id ≠ 2047) ∧
    ((identifying 0).bem.captures[(2 : Fin 8)].ident = true ∧ (identifying 0).bem.captures[(2 : Fin 8)].id = 700 ∧
      (identifying 0).bem.captures[(2 : Fin 8)].tracker = some heldHalf ∧
      (∀ n : Fin 8, empty.bem.captures[n].tracker = none) ∧ empty.bem.captures[(2 : Fin 8)].ident = true) ∧
    (IsHalf0 [0, 0x12, 0x04, 1, 2, 3, 4, 32] heldHalf ∧ IsHalf1 [1, 5, 6, 7, 8, 9, 10, 46] ∧ IsBadHalf [1, 2]) :=
  ⟨by decide +kernel, by decide +kernel, by decide +kernel, speedSlot_proper, by decide +kernel, by decide +kernel,
    ⟨0x12, 0x04, 1, 2, 3, 4, by decide, by decide⟩, ⟨5, 6, 7, 8, 9, 10, by decide⟩, badHalf_of_short (by decide)⟩

/-- Ages 1000 and 1001; the first pair with the variant GIVEN and another; a later pair with the same serial and
another, the rail OFF and ON; alone, with a check, and with two orders behind it. -/
theorem witness_IdentityPairRaisesEvents :
    let s := identifying 1000
    let c := s.bem.captures[(2 : Fin 8)]
    let serial : Serial := ((10 : Byte) ++ (9 : Byte) ++ (8 : Byte) ++ (7 : Byte) ++ (6 : Byte) ++ (5 : Byte) :
      BitVec 48) ++ heldHalf.serialLow
    let had (n : Serial) := s.setBem { s.bem with received := some (1042, n), current := ⟨some 1042, some n⟩ }
    (s.resetHeld = false ∧ s.bem.silent = false ∧ c.defined = true ∧ c.id = 700 ∧ c.ident = true ∧
      (∀ i : Fin 8, i ≠ 2 → s.bem.captures[i].defined = true → s.bem.captures[i].id ≠ 700) ∧
      c.tracker = some heldHalf) ∧
    (1000 < (identifying 1001).bem.captures[(2 : Fin 8)].age ∧ c.age ≤ 1000) ∧
    (s.bem.received = none ∧ s.bem.given = some heldHalf.variant) ∧
    ((had serial).bem.received ≠ none ∧ (had serial).bem.current.serial = some serial) ∧
    ((had 0).bem.current.serial ≠ some serial ∧ (had 0).spu.rail = .off ∧ (railed .on (had 0)).spu.rail ≠ .off) ∧
    ((s.setBem { s.bem with given := some 1043 }).bem.given = some 1043 ∧ (1043 : Half) ≠ heldHalf.variant) ∧
    (s.ckr = none ∧ s.oi.station ≠ .running) ∧
    ((queued.setBem s.bem).ckr = some currentCheck ∧ (queued.setBem s.bem).oi.station = .running ∧
      (queued.setBem s.bem).oi.queue ≠ []) ∧
    RunsAlone ((running currentCheck).setBem s.bem) currentCheck :=
  ⟨by decide +kernel, by decide +kernel, by decide +kernel, by decide +kernel, by decide +kernel, by decide +kernel,
    by decide +kernel, ⟨rfl, rfl, nofun⟩, rfl, rfl, rfl⟩

/-- RANGING: not locked, locked BAND at the fourth in-band block, locked PINNED at the fourth pinned block; LOCKED: the
gain still, the gain moved, the lock lost. The block's last 16 samples, and its last one after 15 of 2065. -/
theorem witness_LightBlockComplete :
    let l (state : LightState) (gain : Nat) (c : LightChannel → LightChannel) :=
      ((measuringLight (c (lightAt state gain))).ltu[(3 : Fin 8)])
    let mean (x : Code) : Nat := ((List.replicate 16 x).map (·.toNat)).sum / 16
    let last := l .ranging 20 fun c => { c with blockCount := 15, blockSum := 15 * 2065 }
    (l .ranging 20 id).blockSum = 0 ∧ (l .ranging 20 id).blockCount + 16 = 16 ∧
    (l .ranging 20 id).blockSaturated = false ∧
    (last.blockCount + [(2065 : Code)].length = 16 ∧
      BlockStep (last.blockSaturated || [(2065 : Code)].any saturatedCode)
        ((last.blockSum + ([(2065 : Code)].map (·.toNat)).sum) / 16) 2048 0) ∧
    BlockStep ((List.replicate 16 (4095 : Code)).any saturatedCode) (mean 4095) 2048 (-8) ∧
    BlockStep ((List.replicate 16 (0 : Code)).any saturatedCode) (mean 0) 2048 8 ∧
    ((l .ranging 20 id).state = .ranging ∧ (l .ranging 20 id).inBand = 0 ∧
      (l .ranging 26 fun c => { c with inBand := 3 }).inBand + 1 = 4 ∧
      (l .ranging 47 fun c => { c with pinned := 3 }).pinned + 1 = 4 ∧ (l .ranging 47 id).gain = 47 ∧
      (l .ranging 47 id).cal.gmax = 47) ∧
    ((l .locked 26 id).state = .locked ∧ (l .locked 26 id).outOfBand = 0 ∧
      (l .locked 26 fun c => { c with outOfBand := 1 }).outOfBand + 1 = 2 ∧ 2 * (l .locked 26 id).cal.band < 2048) := by
  refine ⟨rfl, rfl, rfl, ⟨rfl, ?_⟩, .inl ⟨rfl, rfl⟩, .inr (.inl ⟨rfl, rfl, rfl⟩), by decide +kernel, by decide +kernel⟩
  refine .inr (.inr (.inr ⟨by decide +kernel, by decide +kernel, by decide +kernel, 0, by decide, by decide,
    by decide +kernel, ?_⟩))
  intro j h1 h2
  interval_cases j <;> decide +kernel

/-- RANGING with and without a check, LOCKED; and a block's last sample that waits. -/
theorem witness_RangeTimerExpiry :
    let s (st : LightState) := measuringLight (lightAt st 20)
    (s .ranging).resetHeld = false ∧ (s .ranging).ltu[(3 : Fin 8)].rangeTimer = some 160 ∧
      (s .ranging).ltu[(3 : Fin 8)].state = .ranging ∧ (s .locked).ltu[(3 : Fin 8)].state = .locked ∧
      AtRest (ready.setLtu (s .ranging).ltu) ∧
      ∃ k, RunsAlone (s .ranging) k ∧ k.stage = .measuring ∧ k.waitsOn = .measurement :=
  ⟨rfl, rfl, rfl, rfl, ⟨rfl, rfl, by decide +kernel⟩, _, ⟨rfl, rfl, rfl⟩, rfl, rfl⟩

/-- The last sample of a window and an earlier one; a gain just above Gmin and at it; under an override and not; a
second saturated sample. -/
theorem witness_LightWindowRerange :
    let c (gain : Nat) (f : LightChannel → LightChannel) := (measuringLight (f (lightAt .window gain))).ltu[(3 : Fin 8)]
    (c 1 id).state = .window ∧ saturatedCode 4095 = true ∧ saturatedCode 4094 = false ∧
      (c 1 id).count + (List.replicate 15 (4094 : Code)).length < (c 1 id).window ∧
      (c 0 id).count + [(4094 : Code)].length + 1 < (c 0 id).window ∧
      ((c 1 id).reranged = false ∧ (c 1 id).cal.gmin < (c 1 id).gain ∧ (c 1 id).override = false) ∧
      (c 1 fun x => { x with override := true }).override = true ∧
      (c 1 fun x => { x with reranged := true }).reranged = true ∧ (c 0 id).gain ≤ (c 0 id).cal.gmin := by
  decide +kernel

/-- Chapter 7's worked case, cut to 16 samples: a remainder below half the denominator, with its verdict PASS; a
remainder at half of it; a check with a prompt, judged PASS and judged otherwise. -/
theorem witness_LightWindowComplete :
    let s := measuringLight (lightAt .window 26)
    let c := s.ltu[(3 : Fin 8)]
    let xs := List.replicate 16 (2065 : Code)
    let below := c.window * 4 * gainMantissa c.gain * 2 ^ (c.gain / 8)
    s.resetHeld = false ∧ c.state = .window ∧ xs ≠ [] ∧ c.count + xs.length = c.window ∧
      (∀ x ∈ xs, saturatedCode x = false) ∧
      (2 * ((c.sum + darkSum c.cal.dark xs) * c.cal.kc % below) < below ∧
        621 = (c.sum + darkSum c.cal.dark xs) * c.cal.kc / below) ∧
      (below ≤ 2 * (below / 2 % below)) ∧
      (∃ k, RunsAlone s k ∧ k.Measures ∧ k.MeasuresLast .pass ∧
        LimitVerdict k.order.low k.order.high (min 16777215 621 : Nat) .pass) ∧
      let k := asking (checkAt (orderOf 301 [] (some (.light ⟨3, none, none, 16⟩)) none) .measuring .measurement)
      RunsAlone (s.setCkr (some k)) k ∧ k.Measures ∧ k.order.prompt = some (seatbelt .yesNo) ∧ k.MeasuresLast .failLow :=
  ⟨rfl, rfl, nofun, by decide +kernel, fun x h => by rw [List.eq_of_mem_replicate h]; decide, by decide +kernel,
    by decide +kernel, ⟨_, ⟨rfl, rfl, rfl⟩, ⟨rfl, rfl⟩,
    ⟨⟨rfl, rfl⟩, .inl rfl⟩, .inr (.inr ⟨nofun, nofun, rfl⟩)⟩, ⟨rfl, rfl, rfl⟩, ⟨rfl, rfl⟩, rfl, ⟨rfl, rfl⟩, .inr nofun⟩

/-- A current window not yet and just complete, judged at a limit and past it; a sound window at its first sample, at a
tone, below the threshold, disarmed, and complete; a check with a prompt. -/
theorem witness_CurrentAndSoundWindows :
    (measuringCurrent.resetHeld = false ∧ measuringCurrent.csu.window = .current ∧
      measuringCurrent.csu.count + [300].length < measuringCurrent.csu.length ∧
      measuringCurrent.csu.count + [300, 300, 300, 300].length = measuringCurrent.csu.length ∧
      300 = ([300, 300, 300, 300].sum) / 4) ∧
    (RunsAlone measuringCurrent currentCheck ∧ currentCheck.Measures ∧ (∀ v, currentCheck.MeasuresLast v) ∧
      LimitVerdict currentCheck.order.low currentCheck.order.high 300 .pass ∧
      LimitVerdict currentCheck.order.low currentCheck.order.high 299 .failLow ∧
      LimitVerdict currentCheck.order.low currentCheck.order.high 601 .failHigh) ∧
    (measuringSound.csu.window = .sound ∧ measuringSound.csu.count + 1 < measuringSound.csu.length ∧
      measuringSound.csu.count = 0 ∧ measuringSound.csu.threshold ≤ (1800 : Code).toNat ∧
      (1799 : Code).toNat < measuringSound.csu.threshold) ∧
    (let c := { measuringSound.csu with count := 3, armed := true };
      c.count + 1 = c.length ∧ c.count ≠ 0 ∧ c.armed = true ∧ ({ c with armed := false } : Csu).armed = false) ∧
    (RunsAlone measuringSound soundCheck ∧ ∀ v, soundCheck.MeasuresLast v) ∧
    (RunsAlone (measuringCurrent.setCkr (some (asking currentCheck))) (asking currentCheck) ∧
      (asking currentCheck).Measures ∧ (asking currentCheck).order.prompt = some (seatbelt .yesNo) ∧
      (asking currentCheck).MeasuresLast .failHigh) :=
  ⟨by decide +kernel,
    ⟨⟨rfl, rfl, rfl⟩, ⟨rfl, rfl⟩, fun _ => ⟨⟨rfl, rfl⟩, .inl rfl⟩,
      .inr (.inr ⟨fun l h => by cases h; decide, fun l h => by cases h; decide, rfl⟩),
      .inl ⟨⟨300, rfl, by decide⟩, rfl⟩,
      .inr (.inl ⟨fun l h => by cases h; decide, ⟨600, rfl, by decide⟩, rfl⟩)⟩,
    by decide +kernel, by decide +kernel, ⟨⟨rfl, rfl, rfl⟩, fun _ => ⟨⟨rfl, rfl⟩, .inl rfl⟩⟩,
    ⟨rfl, rfl, rfl⟩, ⟨rfl, rfl⟩, rfl, ⟨rfl, rfl⟩, .inr nofun⟩

/-- A third digit; a right fourth digit, with and without a question after it; wrong and hasty keys at the first and the
second attempt, the error limit not reached and passed. -/
theorem witness_DigitKeys :
    let s := prompting .attended .challenge
    let k : CheckRecord := { promptCheck .attended with fifth := some ⟨7, 16, 14, 0⟩ }
    ((s none [8, 2] 0 0).resetHeld = false ∧ (s none [8, 2] 0 0).opu.state = .challenge ∧
      (s none [8, 2] 0 0).opu.prompt = some (seatbelt .attended) ∧ (seatbelt .attended).mode ≠ .yesNo ∧
      RunsAlone (s none [8, 2] 0 0) k ∧ k.stage = .prompting ∧ k.waitsOn = .prompt ∧
      (s none [8, 2] 0 0).clu.deferred = none) ∧
    ((s none [8, 2] 0 0).opu.lookTimer = none ∧ (s none [8, 2] 0 0).opu.entry.length < 3) ∧
    ((s none [8, 2, 1] 0 0).opu.entry.length = 3 ∧
      digitsToNat ((s none [8, 2, 1] 0 0).opu.entry ++ [(0 : Fin 10).val]) = (s none [8, 2, 1] 0 0).opu.code) ∧
    ((s none [8, 2, 1] 0 0).opu.Fails 1 ∧ (s (some 1) [] 1 3).opu.Fails 0 ∧ (s (some 1) [] 0 2).opu.attempts = 0 ∧
      (s (some 1) [] 1 2).opu.attempts = 1 ∧ min ((s (some 1) [] 0 2).opu.errors + 1) 16 ≤ 3 ∧
      3 < min ((s (some 1) [] 1 3).opu.errors + 1) 16) ∧
    ((prompting .attendedYesNo .challenge none [8, 2, 1] 0 0).opu.prompt = some (seatbelt .attendedYesNo) ∧
      (7 : Nat) = (7 : Fin 24).val ∧ (s none [] 0 0).bem.slots[(7 : Fin 24)].defined = true ∧
      (s none [] 0 0).bem.slots[(7 : Fin 24)].enabled = false) :=
  ⟨⟨rfl, rfl, rfl, by decide, ⟨rfl, rfl, rfl⟩, rfl, rfl, rfl⟩, by decide +kernel, by decide +kernel,
    ⟨.inr ⟨rfl, rfl, by decide +kernel⟩, .inl rfl, by decide +kernel⟩, by decide +kernel⟩

/-- The three states that ignore keys, CHALLENGE, and YESNO of both kinds of prompt. -/
theorem witness_OtherKeys :
    nest.opu.state = .idle ∧ (prompting .attended .challenge none [] 0 0).opu.state = .challenge ∧
      (waitingOperator .yesNo).opu.state = .waiting ∧ (prompting .attended .done none [] 0 0).opu.state = .done ∧
      (∀ mode, (prompting mode .yesNo none [] 0 0).opu.state = .yesNo ∧
        (prompting mode .yesNo none [] 0 0).opu.prompt = some (seatbelt mode) ∧
        (prompting mode .yesNo none [] 0 0).clu.deferred = none ∧
        ∃ k, RunsAlone (prompting mode .yesNo none [] 0 0) k ∧ k.stage = .prompting ∧ k.waitsOn = .prompt) ∧
      (seatbelt .attended).mode ≠ .yesNo :=
  ⟨rfl, rfl, rfl, rfl, fun _ => ⟨rfl, rfl, rfl, _, ⟨rfl, rfl, rfl⟩, rfl, rfl⟩, by decide⟩

/-- YESNO; CHALLENGE with the raised count at the limit and past it. -/
theorem witness_PromptTimerExpiry :
    let s (st : PromptState) (errors : Nat) := prompting .attended st none [] 0 errors
    ((s .yesNo 0).resetHeld = false ∧ (s .yesNo 0).opu.promptTimer = some 30000 ∧
      (s .yesNo 0).opu.prompt = some (seatbelt .attended) ∧ (s .yesNo 0).clu.deferred = none ∧
      ∃ k, RunsAlone (s .yesNo 0) k ∧ k.stage = .prompting ∧ k.waitsOn = .prompt) ∧
    (s .yesNo 0).opu.state = .yesNo ∧
    ((s .challenge 2).opu.state = .challenge ∧ min ((s .challenge 2).opu.errors + 1) 16 ≤ 3 ∧
      3 < min ((s .challenge 3).opu.errors + 1) 16 ∧ (s .challenge 3).opu.cfg.errorLimit = 3) :=
  ⟨⟨rfl, rfl, rfl, rfl, _, ⟨rfl, rfl, rfl⟩, rfl, rfl⟩, rfl, by decide +kernel⟩

/-- A command that none of the exceptions names, with its next state. -/
theorem witness_OnlyItsCommandsChangeIt :
    (∃ t, exec .keyClear ready = .next t) ∧ (∀ f, Instr.keyClear ≠ .configureRack f) ∧
      (∀ f, Instr.keyClear ≠ .controlBeginDut f) ∧ (∀ f, Instr.keyClear ≠ .clusterFrameReceived f) ∧
      (∀ f, Instr.keyClear ≠ .announceReceived f) ∧ ∀ n, Instr.keyClear ≠ .peerStale n :=
  ⟨⟨_, rfl⟩, nofun, nofun, nofun, nofun, nofun⟩

/-- A ring that is full, and a command that forms a record; an ABORT with a flush and a TAKE_SUMMARY behind it. -/
theorem witness_RecordsAreFormedInOrder :
    let r : VerdictRecord := ⟨⟨9, .pass, none, .none, none, none, {}, none⟩, ⟨none, none⟩, 9⟩
    let s := measuringCurrent.setVdu { nest.vdu with ring := List.replicate 16 r }
    let flush := queued.setPending [.controlTakeSummary (toAll .control takePayload)]
    ((∀ a b, Instr.currentWindowComplete [1] ≠ .powerOnReset a b) ∧
      (∀ n, Instr.currentWindowComplete [1] ≠ .resetPinLow n) ∧
      (∀ a b, Instr.currentWindowComplete [1] ≠ .resetPinRelease a b) ∧ s.vdu.ring.length ≤ 16 ∧
      (∃ t, exec (.currentWindowComplete [1]) s = .next t) ∧
      (∀ f, Instr.currentWindowComplete [1] ≠ .controlTakeSummary f) ∧
      ∀ f, Instr.currentWindowComplete [1] ≠ .controlBeginDut f) ∧
    (¬ NoTakeNext flush ∧ flush.vdu.ring.length ≤ 16 ∧ takeWaits flush = true ∧
      ∃ t, exec (.controlAbort (toNest .control (abortPayload 1 0))) flush = .next t) :=
  ⟨⟨nofun, nofun, nofun, by decide +kernel, ⟨_, rfl⟩, nofun, nofun⟩, fun h => h _ _ rfl, by decide +kernel,
    by decide +kernel, _, rfl⟩

/-- Eight orders, two instances of one identifier, 32 attempts unacknowledged, a gain at Gmax, an error count above the
limit in HOLD; and a step of that state. -/
theorem witness_StepKeepsBounds :
    let s := ((((queued.setCkr none).setOi { queued.oi with
      queue := List.replicate 8 (orderOf 302 [] none none), station := .hold, limitHold := true }).setBem { queued.bem with
        queue := [⟨3, 416, 8, 0⟩, ⟨4, 416, 8, 0⟩], unacked := 32 }).setLtu
      (queued.ltu.setIfInBounds 7 { LightChannel.reset with gain := 47 })).setOpu { queued.opu with errors := 4 }
    Bounded (s.setPending [.keyClear]) ∧ ∃ t, step (s.setPending [.keyClear]) = .next t := by
  intro s
  have gains : ∀ n : Fin 8, (s.setPending [.keyClear]).ltu[n].GainInRange := by
    unfold LightChannel.GainInRange
    decide +kernel
  have order : (s.setPending [.keyClear]).bem.QueueOrdered := by
    unfold Bem.QueueOrdered
    decide +kernel
  have counts : (s.setPending [.keyClear]).vdu.summary.Consistent := by
    unfold Summary.Consistent Summary.FailCounted
    decide +kernel
  exact ⟨⟨⟨by decide +kernel, by decide +kernel, by decide +kernel⟩, counts, show (4 : Nat) ≤ 16 by decide, order,
    show (32 : Nat) ≤ 32 by decide, gains, fun _ => .inl ⟨rfl, rfl⟩, nofun⟩, _, rfl⟩

/-- A SILENT station with its rail in SAFE and the setpoint at 18000 mV; a channel and a window with the check that
measures with them; and steps of both. -/
theorem witness_StepKeepsOff :
    let s := (nest.setSpu { nest.spu with rail := .safe, setpoint := 18000 }).setRli { nest.rli with silent := true }
    OffMeansOff (s.setPending [.keyClear]) ∧ (∃ t, step (s.setPending [.keyClear]) = .next t) ∧
    OneMeasurement (measuringLight (lightAt .window 26)) ∧ OneMeasurement measuringCurrent ∧
    OneMeasurement measuringSound := by
  have held : ∀ n : Fin 8, nest.ltu[n].state = .held := by decide +kernel
  have one : ∀ n : Fin 8, (measuringLight (lightAt .window 26)).ltu[n].state ≠ .held → 3 = n.val := by decide +kernel
  intro s
  have levels : LevelsBounded (s.setPending [.keyClear]) :=
    ⟨Nat.le_refl _, Nat.zero_le _, fun o h => (List.not_mem_nil h).elim, fun k h => by cases h⟩
  have none : OneMeasurement (s.setPending [.keyClear]) := ⟨fun n h => (h (held n)).elim, fun h => (h rfl).elim⟩
  have light : OneMeasurement (measuringLight (lightAt .window 26)) :=
    ⟨fun n h => ⟨_, _, rfl, rfl, rfl, rfl, one n h⟩, fun h => (h rfl).elim⟩
  have current : OneMeasurement measuringCurrent :=
    ⟨fun n h => (h (held n)).elim, fun _ => ⟨_, rfl, rfl, rfl, .inl ⟨_, rfl⟩⟩⟩
  have sound : OneMeasurement measuringSound :=
    ⟨fun n h => (h (held n)).elim, fun _ => ⟨_, rfl, rfl, rfl, .inr ⟨_, _, _, rfl⟩⟩⟩
  exact ⟨⟨fun _ => ⟨rfl, rfl, rfl⟩, fun _ => rfl, levels, none⟩, ⟨_, rfl⟩, light, current, sound⟩

/-- 128 payload bytes for the own slot; an INRUSH claim of 100 and no claim. -/
theorem witness_FramesReadBack :
    (List.replicate 128 (0 : Byte)).length ≤ 128 ∧ addressesPass 5 30 5 .order = true ∧
      (0x00 : Byte) ++ (0x00 : Byte) ≠ crc16 (frameBody 30 5 .query [9, 0]) ∧
      (∀ c, (announcement 5 false (some ⟨.inrush, 7, true, 100⟩)).claim = some c →
        c.amount < 256 ∧ (c.resource = .inrush → 1 ≤ c.amount ∧ c.amount ≤ 100)) ∧
      ∀ c, (announcement 5 false none).claim = some c → c.amount < 256 :=
  ⟨by rw [List.length_replicate], by decide +kernel, by decide +kernel, fun c h => by cases h; decide, nofun⟩

end Sys2Proof.Tests
end

section
/-! A frame of the line station that the RLI delivers reaches its handler on the heard state (chapter 2), and the two
answers of this family: BEGIN_DUT (R33, R131, R176) and QUERY (R37, R175). -/

namespace Sys2Proof.Machine

/-! ## The heard state -/

@[simp] theorem heardFrame_oi_queue (s : State) : (heardFrame s).oi.queue = s.oi.queue := rfl
@[simp] theorem heardFrame_oi_station (s : State) : (heardFrame s).oi.station = s.oi.station := rfl
@[simp] theorem heardFrame_clu (s : State) : (heardFrame s).clu = s.clu := rfl
@[simp] theorem heardFrame_ckr (s : State) : (heardFrame s).ckr = s.ckr := rfl
@[simp] theorem heardFrame_spu (s : State) : (heardFrame s).spu = s.spu := rfl
@[simp] theorem heardFrame_bem (s : State) : (heardFrame s).bem = s.bem := rfl
@[simp] theorem heardFrame_vdu (s : State) : (heardFrame s).vdu = s.vdu := rfl
@[simp] theorem heardFrame_opu (s : State) : (heardFrame s).opu = s.opu := rfl

@[simp] theorem freePlaces_heardFrame (s : State) : freePlaces (heardFrame s) = 8 - s.oi.queue.length := rfl

/-! ## Delivery of a frame that ends -/

/-- A frame that is what its command names is delivered to its block once its end is taken (R7, R9). -/
theorem act_frameEvent_of_ends {α : Type} {s : State} {f : RxFrame} {x : Received}
    {pick : Received → Option α} {a : α} (deliver : α → State → State) (h : Ends s f x)
    (hx : ∀ src, x ≠ .undelivered src) (hp : pick x = some a) :
    act s (frameEvent f pick deliver) = .next (deliver a (ended s)) := by
  obtain ⟨hreset, hsending, hclass⟩ := h
  have delivered : frameEvent f pick deliver s = deliver a (ended s) := by
    rw [frameEvent, if_neg (ne_true_of_eq_false hsending), hclass]
    split
    · exact absurd rfl (hx _)
    · rw [hp]
      rfl
  simp [act, hreset, delivered]

theorem pickControl_of_parse {α : Type} {sel : Control → Option α} {p : List Byte} {c : Control} {a : α} (b : Bool)
    (hp : parseControl p = some c) (hs : sel c = some a) :
    pickControl sel (.control b p) = some (b, leadingHalf p, a) := by
  simp [pickControl, hp, hs]

theorem exec_controlBeginDut_of_ends {s : State} {f : RxFrame} {b : Bool} {p : List Byte} {v : Half}
    (h : Ends s f (.control b p)) (hp : parseControl p = some (.beginDut v)) :
    exec (.controlBeginDut f) s = .next (controlBeginDut b (leadingHalf p) v (heardFrame s)) := by
  change execControlBeginDut f s = _
  unfold execControlBeginDut
  exact act_frameEvent_of_ends _ h nofun (pickControl_of_parse b hp (by rfl))

theorem exec_query_of_ends {s : State} {f : RxFrame} {p : List Byte} (h : Ends s f (.query p)) :
    exec (.query f) s = .next (answerQuery p (heardFrame s)) :=
  act_frameEvent_of_ends _ h nofun rfl

/-! ## BEGIN_DUT -/

theorem beginRefusal_of_hold {s : State} (h : s.oi.station = .hold) : beginRefusal s = some .held := by
  simp [beginRefusal, h]

theorem beginRefusal_of_unconfigured {s : State} (h : s.oi.station = .unconfigured) :
    beginRefusal s = some .unconfigured := by
  simp [beginRefusal, h]

/-- In any other station state the check, the queue and the rail decide. -/
theorem beginRefusal_of_configured {s : State} (hh : s.oi.station ≠ .hold) (hu : s.oi.station ≠ .unconfigured) :
    beginRefusal s =
      if s.ckr.isSome = true ∨ s.oi.queue ≠ [] ∨ s.spu.rail ≠ .off then some .busy else none := by
  rw [beginRefusal, if_neg hh, if_neg hu]

theorem controlBeginDut_of_refused {s : State} {code : ReceiptCode} (reference variant : Half)
    (h : beginRefusal s = some code) :
    controlBeginDut false reference variant s =
      handInReply (.receipt ⟨.control, reference, code, freePlaces s⟩) s := by
  simp [controlBeginDut, h, answerControl, receipt]

theorem controlBeginDut_of_not_refused {s : State} (reference variant : Half) (h : beginRefusal s = none) :
    controlBeginDut false reference variant s = emptySummary (beginIdentity variant
      (handInReply (.receipt ⟨.control, reference, .accepted, freePlaces s⟩) s)) := by
  simp [controlBeginDut, h, answerControl, receipt]

@[simp] theorem emptySummary_vdu (s : State) : (emptySummary s).vdu = { s.vdu with summary := ⟨0, 0, none, 0⟩ } := rfl

@[simp] theorem handInReply_rli (x : Reply) (s : State) : (handInReply x s).rli = s.rli.handInReply x := rfl

@[simp] theorem getElem_mapEntries {α : Type} {n : Nat} (g : α → α) (xs : Vector α n) (i : Nat) (hi : i < n) :
    (mapEntries g xs)[i] = g xs[i] := by
  simp [mapEntries]

@[simp] theorem beginIdentity_bem (v : Half) (s : State) : (beginIdentity v s).bem =
    { s.bem with
      given := some v
      received := none
      current := ⟨some v, none⟩
      captures := mapEntries (fun c => { c with tracker := none }) s.bem.captures } := rfl

/-! ## QUERY -/

theorem parseQuery_of_length_ne {p : List Byte} (h : p.length ≠ 2) : parseQuery p = none := by
  unfold parseQuery
  split
  · exact absurd rfl h
  · rfl

theorem findRecord_of_absent {ring : List VerdictRecord} {id : Half} (h : ∀ r ∈ ring, r.content.checkId ≠ id) :
    findRecord ring id = none := by
  simpa [findRecord] using h

/-- R175: a record with no newer one of its id is the one found. -/
theorem findRecord_of_newest {older newer : List VerdictRecord} {r : VerdictRecord} {id : Half}
    (hr : r.content.checkId = id) (hn : ∀ x ∈ newer, x.content.checkId ≠ id) :
    findRecord (older ++ r :: newer) id = some r := by
  have none_newer : findRecord newer id = none := findRecord_of_absent hn
  unfold findRecord at none_newer ⊢
  rw [List.reverse_append, List.reverse_cons, List.find?_append, List.find?_append, none_newer]
  simp [hr]

theorem answerQuery_of_malformed {p : List Byte} (s : State) (h : p.length ≠ 2) :
    answerQuery p s = handInReply (.receipt ⟨.query, leadingHalf p, .invalid, freePlaces s⟩) s := by
  simp [answerQuery, parseQuery_of_length_ne h, receipt]

/-- Check id 0 is answered like an id of which the ring has no record (R37). -/
theorem answerQuery_of_unknown {b0 b1 : Byte} {s : State}
    (h : half b0 b1 = 0 ∨ findRecord s.vdu.ring (half b0 b1) = none) :
    answerQuery [b0, b1] s = handInReply (.receipt ⟨.query, half b0 b1, .unknownId, freePlaces s⟩) s := by
  by_cases h0 : half b0 b1 = 0
  · simp [answerQuery, parseQuery, h0, receipt]
  · simp only [answerQuery, parseQuery, if_neg h0, h.resolve_left h0, receipt]

theorem answerQuery_of_found {b0 b1 : Byte} {s : State} {r : VerdictRecord} (h0 : half b0 b1 ≠ 0)
    (h : findRecord s.vdu.ring (half b0 b1) = some r) :
    answerQuery [b0, b1] s = handInReply (.verdict r) s := by
  simp only [answerQuery, parseQuery, if_neg h0, h]

end Sys2Proof.Machine

namespace Sys2Proof.Certificates

open Machine

/-! ## The obligations -/

/-- Settles O28: the tests in their order, then the state of an accepted BEGIN_DUT block by block. -/
theorem controlBeginDut : Obligations.ControlBeginDut := by
  intro s f p v h hp answered busy
  rw [exec_controlBeginDut_of_ends h hp]
  refine ⟨fun hh => congrArg _ (controlBeginDut_of_refused _ v (beginRefusal_of_hold hh)),
    fun hu => congrArg _ (controlBeginDut_of_refused _ v (beginRefusal_of_unconfigured hu)),
    fun hh hu hb => congrArg _ (controlBeginDut_of_refused _ v ((beginRefusal_of_configured hh hu).trans (if_pos hb))),
    fun hh hu hb => ?_⟩
  have accepted : beginRefusal (heardFrame s) = none := (beginRefusal_of_configured hh hu).trans (if_neg hb)
  have idle : s.ckr = none := Option.not_isSome_iff_eq_none.mp fun hc => hb (.inl hc)
  refine ⟨_, rfl, ?_⟩
  rw [controlBeginDut_of_not_refused _ v accepted]
  simp [answered, idle]

/-- Settles O32: the search from the newest end stops at the first record of the id. -/
theorem queryAnswersNewestRecord : Obligations.QueryAnswersNewestRecord := by
  intro s f p h answered
  rw [exec_query_of_ends h]
  refine ⟨fun hlen => ⟨leadingHalf p, fun _ => rfl, congrArg _ (answerQuery_of_malformed _ hlen)⟩, ?_⟩
  rintro b0 b1 rfl unknown
  refine ⟨fun h0 => congrArg _ (answerQuery_of_unknown (.inl h0)),
    fun hnone => congrArg _ (answerQuery_of_unknown (.inr (findRecord_of_absent hnone))),
    fun older r newer hring hid h0 hnewer => congrArg _ (answerQuery_of_found h0 ?_)⟩
  rw [heardFrame_vdu, hring]
  exact findRecord_of_newest hid hnewer

end Sys2Proof.Certificates
end

section
/-! The order of tickets (R53), membership in the peer view and the grant conditions as they ask it (R52, R56, R57), and
the values a reset leaves in the tables of the blocks (R66, R135, R153). -/

namespace Sys2Proof.Machine

/-! ## Tickets (R53) -/

/-- The two distances between two tickets add up to a full turn, unless the tickets are equal. -/
theorem ticketDistance_swap (a b : Byte) : (a - b).toNat = (256 - (b - a).toNat) % 256 := by
  rw [BitVec.toNat_sub, BitVec.toNat_sub]
  omega

theorem precedes_of_near {a b : Byte} (x y : Nat) (h : 1 ≤ (b - a).toNat) (h' : (b - a).toNat ≤ 127) :
    precedes a x b y = true := by
  have untied : ¬ ((b - a).toNat = 0 ∨ (b - a).toNat = 128) := by omega
  rw [precedes, if_neg untied]
  exact decide_eq_true h'

theorem precedes_of_tied {a b : Byte} (x y : Nat) (h : (b - a).toNat = 0 ∨ (b - a).toNat = 128) :
    precedes a x b y = decide (x < y) :=
  if_pos h

theorem precedes_of_far {a b : Byte} (x y : Nat) (h : 129 ≤ (b - a).toNat) : precedes a x b y = false := by
  have untied : ¬ ((b - a).toNat = 0 ∨ (b - a).toNat = 128) := by omega
  rw [precedes, if_neg untied]
  exact decide_eq_false (by omega)

/-- Between different slots exactly one claim precedes: a distance of 1 to 127 is one of 129 to 255 the other way
round, and 0 and 128 are the same both ways and leave it to the slots. -/
theorem precedes_eq_not_swap (a b : Byte) {x y : Nat} (h : x ≠ y) : precedes a x b y = !precedes b y a x := by
  have swap := ticketDistance_swap a b
  have range := (b - a).isLt
  by_cases tied : (b - a).toNat = 0 ∨ (b - a).toNat = 128
  · rw [precedes_of_tied x y tied, precedes_of_tied y x (by omega), ← decide_not]
    exact decide_eq_decide.mpr (by omega)
  by_cases near : (b - a).toNat ≤ 127
  · rw [precedes_of_near x y (by omega) near, precedes_of_far y x (by omega)]
    rfl
  · rw [precedes_of_far x y (by omega), precedes_of_near y x (by omega) (by omega)]
    rfl

/-! ## The claims and the marks in view (R45, R52) -/

theorem mem_livePeers {s : State} {p : Nat × PeerEntry} : p ∈ livePeers s ↔
    ∃ n : Fin 16, p = (n.val, s.clu.peers[n]) ∧ n.val ≠ s.rli.slot.toNat ∧ s.clu.peers[n].liveness = .live := by
  have mem_zip : p ∈ (List.range 16).zip s.clu.peers.toList ↔ ∃ n : Fin 16, p = (n.val, s.clu.peers[n]) := by
    simp [List.mem_iff_getElem, Fin.exists_iff, eq_comm]
  rw [livePeers, List.mem_filter, mem_zip]
  constructor
  · rintro ⟨⟨n, rfl⟩, kept⟩
    exact ⟨n, rfl, by simpa using kept⟩
  · rintro ⟨n, rfl, kept⟩
    exact ⟨⟨n, rfl⟩, by simpa using kept⟩

/-- A claim counts for a resource when it is on that resource, and for OPERATOR when it comes from the own group. -/
theorem claimCounts_iff {x : AnnClaim} {r : Resource} {group own : BitVec 2} :
    (x.resource = r && (r != .operator || group == own)) = true ↔ x.resource = r ∧ (r = .operator → group = own) := by
  simp [imp_iff_not_or]

/-- A slot's claim counts for a resource when the slot is a LIVE peer that announced it, of the own group for
OPERATOR. -/
theorem mem_peerClaims {s : State} {r : Resource} {n : Fin 16} {x : AnnClaim} : (n.val, x) ∈ peerClaims s r ↔
    (n.val ≠ s.rli.slot.toNat ∧ s.clu.peers[n].liveness = .live) ∧ s.clu.peers[n].claim = some x ∧
      x.resource = r ∧ (r = .operator → s.clu.peers[n].group = s.rli.group) := by
  simp only [peerClaims, List.mem_filterMap, mem_livePeers]
  constructor
  · rintro ⟨_, ⟨m, rfl, peer⟩, picked⟩
    cases hc : s.clu.peers[m].claim with
    | none => simp only [hc, reduceCtorEq] at picked
    | some c =>
      simp only [hc, Option.ite_none_right_eq_some, Option.some.injEq, Prod.mk.injEq, Fin.val_inj] at picked
      obtain ⟨counts, rfl, rfl⟩ := picked
      exact ⟨peer, hc, claimCounts_iff.mp counts⟩
  · rintro ⟨peer, hc, counts⟩
    refine ⟨_, ⟨n, rfl, peer⟩, ?_⟩
    simp only [hc]
    exact if_pos (claimCounts_iff.mpr counts)

/-! ## Grant conditions (R56, R57) -/

theorem noisy_livePeers_eq_false_iff {s : State} : (livePeers s).any (fun p => p.2.noisy) = false ↔
    ∀ n : Fin 16, n.val ≠ s.rli.slot.toNat ∧ s.clu.peers[n].liveness = .live → s.clu.peers[n].noisy = false := by
  rw [List.any_eq_false]
  constructor
  · intro h n peer
    exact Bool.eq_false_of_not_eq_true (h _ (mem_livePeers.mpr ⟨n, rfl, peer⟩))
  · intro h p hp
    obtain ⟨n, rfl, peer⟩ := mem_livePeers.mp hp
    exact ne_true_of_eq_false (h n peer)

theorem any_ahead_eq_false_iff {s : State} {c : OwnClaim} {ps : List (Nat × AnnClaim)} :
    ps.any (ahead s c) = false ↔ ∀ p ∈ ps, ahead s c p = false := by
  simp only [List.any_eq_false, Bool.not_eq_true]

/-- QUIET asks for a view without NOISY peers; QUIET and OPERATOR ask that no peer's claim be ahead. -/
theorem grantCondition_eq_true_iff_of_ne_inrush {s : State} {c : OwnClaim} (h : c.resource ≠ .inrush) :
    grantCondition s c = true ↔ (c.resource = .quiet → (livePeers s).any (fun p => p.2.noisy) = false) ∧
      (peerClaims s c.resource).any (ahead s c) = false := by
  unfold grantCondition
  cases hr : c.resource with
  | inrush => exact absurd hr h
  | quiet => simp
  | operator => simp

theorem grantCondition_eq_true_iff_of_inrush {s : State} {c : OwnClaim} (h : c.resource = .inrush) :
    grantCondition s c = true ↔ c.amount + countedInrush s c ≤ s.oi.rack.budget := by
  rw [grantCondition, h]
  exact decide_eq_true_iff

/-! ## The two resets (R18, R195) -/

/-- A power-on reset, and the release of a pin that was held, put every block in reset with the straps read. -/
theorem exec_of_reset {c : Instr} {slot : BitVec 4} {group : BitVec 2} {s : State}
    (h : c = .powerOnReset slot group ∨ (c = .resetPinRelease slot group ∧ s.resetHeld = true)) :
    ∃ held, exec c s = .next ((resetTo slot group s).setResetHeld held) := by
  rcases h with rfl | ⟨rfl, held⟩
  · exact ⟨s.resetHeld, rfl⟩
  · exact ⟨false, congrArg _ (if_pos held)⟩

/-! ## The tables after reset (R66, R135, R153) -/

theorem Clu.reset_peers (n : Fin 16) : Clu.reset.peers[n] = .reset := Vector.getElem_replicate n.isLt

theorem Bem.reset_slots (n : Fin 24) : Bem.reset.slots[n] = .undefined := Vector.getElem_replicate n.isLt

theorem Bem.reset_captures (n : Fin 8) : Bem.reset.captures[n] = .undefined := Vector.getElem_replicate n.isLt

theorem resetTo_ltu (slot : BitVec 4) (group : BitVec 2) (s : State) (n : Fin 8) :
    (resetTo slot group s).ltu[n] = .reset := Vector.getElem_replicate n.isLt

end Sys2Proof.Machine

namespace Sys2Proof.Certificates

open Machine

/-- Settles O14: the four distances of two tickets, the peers that membership in the view names, and the grant condition
of each resource over them. -/
theorem ticketPrecedence : Obligations.TicketPrecedence := by
  refine ⟨fun a b x y => precedes_of_near x y, fun a b x y tied => ?_, fun a b x y => precedes_eq_not_swap a b,
    fun s => ⟨fun r n x => mem_peerClaims, fun c notInrush => ?_, fun c => grantCondition_eq_true_iff_of_inrush⟩⟩
  · rw [precedes_of_tied x y tied, decide_eq_true_iff]
  · rw [grantCondition_eq_true_iff_of_ne_inrush notInrush, noisy_livePeers_eq_false_iff, any_ahead_eq_false_iff]
    rfl

/-- Settles O4: both resets leave `resetTo`, whose blocks are the reset values and whose tables hold one reset entry in
every place. -/
theorem resetValuesOfBlocks : Obligations.ResetValuesOfBlocks := by
  intro c slot group s h
  obtain ⟨held, reset⟩ := exec_of_reset h
  have slots (n : Fin 24) : Bem.reset.slots[n].defined = false ∧ Bem.reset.slots[n].enabled = false ∧
      Bem.reset.slots[n].late = false := by
    rw [Bem.reset_slots]
    exact ⟨rfl, rfl, rfl⟩
  refine ⟨_, reset, rfl,
    Clu.reset_peers, rfl, rfl, rfl, rfl, rfl, rfl, rfl, rfl,
    rfl, rfl,
    slots, fun n => congrArg _ (Bem.reset_captures n), rfl, rfl, rfl, rfl, rfl, rfl, rfl, rfl,
    fun n => ?_,
    rfl, rfl,
    rfl, rfl, rfl, rfl, rfl, rfl, rfl, rfl, rfl, rfl, rfl, rfl⟩
  rw [State.setResetHeld_ltu, resetTo_ltu]
  decide

end Sys2Proof.Certificates
end

section
/-! The payload bit by bit, the message table and the transmit queue entry by entry, and what a snapshot and a due time
of a periodic slot leave (chapter 6: R117, R119, R120). -/

namespace Sys2Proof.Machine

/-! ## Payload bit fields (R119, R123) -/

theorem getLsbD_lowBits (len i : Nat) : (lowBits len).getLsbD i = (decide (i < 64) && decide (i < len)) := by
  rw [lowBits, BitVec.getLsbD_ofNat, Nat.testBit_two_pow_sub_one]

theorem toNat_lowBits {len : Nat} (h : len ≤ 64) : (lowBits len).toNat = 2 ^ len - 1 := by
  have below : 2 ^ len ≤ 2 ^ 64 := Nat.pow_le_pow_right (by decide) h
  rw [lowBits, BitVec.toNat_ofNat]
  exact Nat.mod_eq_of_lt (by omega)

theorem getLsbD_readField (p : Payload) (start len i : Nat) :
    (readField p start len).getLsbD i = (decide (i < len) && p.getLsbD (start + i)) := by
  rw [readField, BitVec.getLsbD_and, BitVec.getLsbD_ushiftRight, getLsbD_lowBits]
  by_cases h : i < 64
  · simp [h, Bool.and_comm]
  · simp [BitVec.getLsbD_of_ge p (start + i) (by omega)]

theorem toNat_readField (p : Payload) (start : Nat) {len : Nat} (h : len ≤ 64) :
    (readField p start len).toNat = (p >>> start).toNat % 2 ^ len := by
  rw [readField, BitVec.toNat_and, toNat_lowBits h, Nat.and_two_pow_sub_one_eq_mod]

/-- A write into a field within the payload: the pattern in the field, every other bit as it was. -/
theorem getLsbD_writeField (p q : Payload) {start len : Nat} (h : start + len ≤ 64) (i : Nat) :
    (writeField p start len q).getLsbD i =
      if start ≤ i ∧ i < start + len then q.getLsbD (i - start) else p.getLsbD i := by
  simp only [writeField, BitVec.getLsbD_or, BitVec.getLsbD_and, BitVec.getLsbD_not, BitVec.getLsbD_shiftLeft,
    getLsbD_lowBits]
  by_cases inField : start ≤ i ∧ i < start + len
  · have inWord : i < 64 ∧ i - start < 64 ∧ i - start < len ∧ ¬ i < start := by omega
    simp [inField, inWord]
  · rw [if_neg inField]
    by_cases hi : i < 64
    · by_cases below : i < start
      · simp [hi, below]
      · have above : ¬ i - start < len := by omega
        simp [hi, above]
    · simp [hi, BitVec.getLsbD_of_ge p i (by omega)]

theorem getLsbD_writeField_of_outside (p q : Payload) {start len i : Nat} (h : start + len ≤ 64)
    (hi : ¬ (start ≤ i ∧ i < start + len)) : (writeField p start len q).getLsbD i = p.getLsbD i := by
  rw [getLsbD_writeField p q h, if_neg hi]

theorem readField_writeField_same (p q : Payload) {start len : Nat} (h : start + len ≤ 64) :
    readField (writeField p start len q) start len = readField q 0 len := by
  refine BitVec.eq_of_getLsbD_eq fun i _ => ?_
  rw [getLsbD_readField, getLsbD_readField, getLsbD_writeField p q h]
  by_cases hi : i < len
  · simp [hi]
  · simp [hi]

theorem readField_writeField_of_disjoint (p q : Payload) {start len a l : Nat} (h : start + len ≤ 64)
    (disjoint : a + l ≤ start ∨ start + len ≤ a) : readField (writeField p start len q) a l = readField p a l := by
  refine BitVec.eq_of_getLsbD_eq fun i _ => ?_
  rw [getLsbD_readField, getLsbD_readField]
  by_cases hi : i < l
  · rw [getLsbD_writeField_of_outside p q h (by omega)]
  · simp [hi]

theorem payloadByte_eq_readField (p : Payload) (k : Nat) : payloadByte p k = (readField p (8 * k) 8).setWidth 8 := by
  refine BitVec.eq_of_getLsbD_eq fun i hi => ?_
  simp [payloadByte, getLsbD_readField, hi]

theorem payloadByte_writeField_same (p : Payload) {k : Nat} (b : Byte) (h : k < 8) :
    payloadByte (writeField p (8 * k) 8 (b.setWidth 64)) k = b := by
  rw [payloadByte_eq_readField, readField_writeField_same _ _ (by omega)]
  refine BitVec.eq_of_getLsbD_eq fun i hi => ?_
  rw [BitVec.getLsbD_setWidth, getLsbD_readField, Nat.zero_add, BitVec.getLsbD_setWidth]
  simp [hi, show i < 64 by omega]

theorem payloadByte_writeField_of_ne (p q : Payload) {k i : Nat} (h : k < 8) (hi : i ≠ k) :
    payloadByte (writeField p (8 * k) 8 q) i = payloadByte p i := by
  rw [payloadByte_eq_readField, payloadByte_eq_readField, readField_writeField_of_disjoint _ _ (by omega) (by omega)]

/-! ## The payload of a snapshot (R119) -/

theorem MessageSlot.Proper.checksum_lt {m : MessageSlot} (hm : m.Proper) {k : Nat} (h : m.checksum = some k) :
    k < 8 := by
  obtain ⟨len_le, checksum_lt, -⟩ := hm
  exact Nat.lt_of_lt_of_le (checksum_lt k h) len_le

theorem MessageSlot.Proper.counter_le {m : MessageSlot} (hm : m.Proper) {a l : Nat} (h : m.counter = some (a, l)) :
    a + l ≤ 64 := by
  obtain ⟨-, -, fits⟩ := hm
  obtain ⟨-, within, -⟩ := fits a l h
  exact within

theorem raiseCounter_of_none {m : MessageSlot} (h : m.counter = none) : raiseCounter m = m.payload := by
  rw [raiseCounter, h]

theorem raiseCounter_of_some {m : MessageSlot} {start len : Nat} (h : m.counter = some (start, len)) :
    raiseCounter m = writeField m.payload start len (readField m.payload start len + 1) := by
  rw [raiseCounter, h]

/-- The counter field goes up by 1 modulo 2 to its length. -/
theorem toNat_readField_raiseCounter {m : MessageSlot} {start len : Nat} (h : m.counter = some (start, len))
    (hfit : start + len ≤ 64) :
    (readField (raiseCounter m) start len).toNat = ((m.payload >>> start).toNat % 2 ^ len + 1) % 2 ^ len := by
  have divides : 2 ^ len ∣ 2 ^ 64 := Nat.pow_dvd_pow 2 (by omega)
  rw [raiseCounter_of_some h, readField_writeField_same _ _ hfit, toNat_readField _ _ (by omega),
    BitVec.ushiftRight_zero, BitVec.toNat_add, toNat_readField _ _ (by omega), Nat.mod_mod_of_dvd _ divides]
  rfl

theorem getLsbD_raiseCounter_of_outside {m : MessageSlot} (hm : m.Proper) {i : Nat}
    (hi : ¬ ∃ a l, m.counter = some (a, l) ∧ a ≤ i ∧ i < a + l) :
    (raiseCounter m).getLsbD i = m.payload.getLsbD i := by
  cases hc : m.counter with
  | none => rw [raiseCounter_of_none hc]
  | some field =>
    obtain ⟨a, l⟩ := field
    rw [raiseCounter_of_some hc]
    exact getLsbD_writeField_of_outside _ _ (hm.counter_le hc) fun inField => hi ⟨a, l, hc, inField⟩

/-- A sum of bytes is the sum of their values modulo 256. -/
theorem toNat_foldl_add (f : Nat → Byte) (b : Byte) (l : List Nat) :
    (l.foldl (fun acc i => acc + f i) b).toNat = ((l.map fun i => (f i).toNat).sum + b.toNat) % 256 := by
  induction l generalizing b with
  | nil => rw [List.foldl_nil, List.map_nil, List.sum_nil, Nat.zero_add, Nat.mod_eq_of_lt b.isLt]
  | cons i l ih =>
    rw [List.foldl_cons, ih, BitVec.toNat_add, List.map_cons, List.sum_cons]
    omega

theorem toNat_checksumOf (m : MessageSlot) (p : Payload) (k : Nat) : (checksumOf m p k).toNat =
    ((((List.range m.len).filter (· ≠ k)).map fun i => (payloadByte p i).toNat).sum + m.id) % 256 := by
  have others : (fun i : Nat => i != k) = fun i => decide (i ≠ k) := by
    funext i
    exact Bool.eq_iff_iff.mpr (by simp)
  rw [checksumOf, toNat_foldl_add, others, byteOf, BitVec.toNat_ofNat, Nat.add_mod_mod]

/-- The checksum does not look at its own byte. -/
theorem checksumOf_writeField_self (m : MessageSlot) (p q : Payload) {k : Nat} (h : k < 8) :
    checksumOf m (writeField p (8 * k) 8 q) k = checksumOf m p k := by
  have same : ∀ i ∈ (List.range m.len).filter (· ≠ k),
      (payloadByte (writeField p (8 * k) 8 q) i).toNat = (payloadByte p i).toNat := fun i hi =>
    congrArg _ (payloadByte_writeField_of_ne p q h (by simpa using (List.mem_filter.mp hi).2))
  apply BitVec.eq_of_toNat_eq
  rw [toNat_checksumOf, toNat_checksumOf, List.map_congr_left same]

theorem snapshotPayload_of_none {m : MessageSlot} (h : m.checksum = none) : snapshotPayload m = raiseCounter m := by
  rw [snapshotPayload, h]

theorem snapshotPayload_of_some {m : MessageSlot} {k : Nat} (h : m.checksum = some k) : snapshotPayload m =
    writeField (raiseCounter m) (8 * k) 8 ((checksumOf m (raiseCounter m) k).setWidth 64) := by
  rw [snapshotPayload, h]

/-- The checksum byte lies outside the counter field, so that its write leaves the raised counter. -/
theorem readField_snapshotPayload_counter {m : MessageSlot} (hm : m.Proper) {a l : Nat}
    (hc : m.counter = some (a, l)) : readField (snapshotPayload m) a l = readField (raiseCounter m) a l := by
  cases hk : m.checksum with
  | none => rw [snapshotPayload_of_none hk]
  | some k =>
    have hlt : k < 8 := hm.checksum_lt hk
    obtain ⟨-, -, fits⟩ := hm
    obtain ⟨-, -, apart⟩ := fits a l hc
    rw [snapshotPayload_of_some hk, readField_writeField_of_disjoint _ _ (by omega) (apart k hk)]

theorem getLsbD_snapshotPayload_of_outside {m : MessageSlot} (hm : m.Proper) {i : Nat}
    (hi : ¬ ∃ k, m.checksum = some k ∧ 8 * k ≤ i ∧ i < 8 * k + 8) :
    (snapshotPayload m).getLsbD i = (raiseCounter m).getLsbD i := by
  cases hk : m.checksum with
  | none => rw [snapshotPayload_of_none hk]
  | some k =>
    have hlt : k < 8 := hm.checksum_lt hk
    rw [snapshotPayload_of_some hk]
    exact getLsbD_writeField_of_outside _ _ (by omega) fun inByte => hi ⟨k, hk, inByte⟩

theorem snapshotOf_snapshotPayload {m : MessageSlot} (hm : m.Proper) : SnapshotOf m (snapshotPayload m) := by
  refine ⟨fun a l hc => ?_, fun k hk => ?_, fun i notCounter notChecksum => ?_⟩
  · have hfit : a + l ≤ 64 := hm.counter_le hc
    rw [← toNat_readField _ _ (by omega), readField_snapshotPayload_counter hm hc,
      toNat_readField_raiseCounter hc hfit]
  · have hlt : k < 8 := hm.checksum_lt hk
    rw [← toNat_checksumOf, snapshotPayload_of_some hk, checksumOf_writeField_self _ _ _ hlt,
      payloadByte_writeField_same _ _ hlt]
  · rw [getLsbD_snapshotPayload_of_outside hm notChecksum, getLsbD_raiseCounter_of_outside hm notCounter]

/-! ## The message table -/

theorem entryAt_fin {α : Type} {n : Nat} (v : Vector α n) (i : Fin n) (d : α) : entryAt v i d = v[i] := by
  simp [entryAt]

theorem getElem_setEntry {α : Type} {n : Nat} (v : Vector α n) (i : Nat) (x : α) (j : Fin n) :
    (setEntry v i x)[j] = if i = j then x else v[j] := by
  simp [setEntry, Vector.getElem_setIfInBounds]

theorem slotAt_fin (s : State) (n : Fin 24) : slotAt s n = s.bem.slots[n] := entryAt_fin _ n _

theorem setSlot_bem_slots (n : Nat) (m : MessageSlot) (s : State) (i : Fin 24) :
    (setSlot n m s).bem.slots[i] = if n = i then m else s.bem.slots[i] := getElem_setEntry _ n m i

@[simp] theorem setSlot_bem_queue (n : Nat) (m : MessageSlot) (s : State) :
    (setSlot n m s).bem.queue = s.bem.queue := rfl

theorem setLate_bem_slots (n : Fin 24) (b : Bool) (s : State) (i : Fin 24) :
    (setLate n b s).bem.slots[i] = if n = i then { s.bem.slots[n] with late := b } else s.bem.slots[i] := by
  rw [setLate, setSlot_bem_slots, slotAt_fin]
  simp only [Fin.val_inj]

@[simp] theorem setLate_bem_queue (n : Nat) (b : Bool) (s : State) : (setLate n b s).bem.queue = s.bem.queue := rfl

@[simp] theorem reportBusLate_ckr (s : State) : (reportBusLate s).ckr =
    s.ckr.map fun k => { k with flags := { k.flags with busLate := true } } := rfl

/-! ## The transmit queue (R120) -/

theorem mem_insertInstance {x y : TxInstance} {q : List TxInstance} : y ∈ insertInstance x q ↔ y = x ∨ y ∈ q := by
  induction q with
  | nil => exact List.mem_singleton.trans (by simp)
  | cons z q ih =>
    rw [insertInstance]
    split
    · exact List.mem_cons
    · rw [List.mem_cons, ih, List.mem_cons, or_left_comm]

theorem waitsInQueue_iff {s : State} {n : Nat} : waitsInQueue s n = true ↔ ∃ x ∈ s.bem.queue, x.slot = n := by
  simp [waitsInQueue]

theorem enqueue_of_waits {x : TxInstance} {s : State} (h : waitsInQueue s x.slot = true) : enqueue x s =
    reportBusLate (setLate x.slot true
      (s.setBem { s.bem with queue := insertInstance x (s.bem.queue.filter (·.slot != x.slot)) })) := if_pos h

theorem enqueue_of_not_waits {x : TxInstance} {s : State} (h : ¬ waitsInQueue s x.slot = true) : enqueue x s =
    s.setBem { s.bem with queue := insertInstance x (s.bem.queue.filter (·.slot != x.slot)) } := if_neg h

theorem enqueue_bem_queue (x : TxInstance) (s : State) :
    (enqueue x s).bem.queue = insertInstance x (s.bem.queue.filter (·.slot != x.slot)) := by
  by_cases h : waitsInQueue s x.slot = true
  · rw [enqueue_of_waits h, reportBusLate_bem, setLate_bem_queue, State.setBem_bem]
  · rw [enqueue_of_not_waits h, State.setBem_bem]

/-- The new entry is in the queue, and of the others those of other slots. -/
theorem mem_enqueue {x y : TxInstance} {s : State} :
    y ∈ (enqueue x s).bem.queue ↔ y = x ∨ y ∈ s.bem.queue ∧ y.slot ≠ x.slot := by
  rw [enqueue_bem_queue, mem_insertInstance, List.mem_filter, bne_iff_ne]

/-! ## A snapshot (R119, R120) -/

/-- The entry that a snapshot of slot n puts in the transmit queue. -/
def snapshotInstance (s : State) (n : Fin 24) : TxInstance :=
  ⟨n, s.bem.slots[n].id, s.bem.slots[n].len, snapshotPayload s.bem.slots[n]⟩

theorem snapshot_eq_enqueue (n : Fin 24) (s : State) : snapshot n s = enqueue (snapshotInstance s n)
    (setSlot n { s.bem.slots[n] with payload := snapshotPayload s.bem.slots[n] } s) := by
  rw [snapshot, slotAt_fin]
  rfl

theorem mem_snapshot {n : Fin 24} {s : State} {y : TxInstance} : y ∈ (snapshot n s).bem.queue ↔
    y = snapshotInstance s n ∨ y ∈ s.bem.queue ∧ y.slot ≠ n := by
  rw [snapshot_eq_enqueue, mem_enqueue]
  rfl

/-- Only the slot's own entry changes; a replaced queue entry leaves it late. -/
theorem snapshot_bem_slots (n : Fin 24) (s : State) (i : Fin 24) : (snapshot n s).bem.slots[i] =
    if n = i then { s.bem.slots[n] with
      payload := snapshotPayload s.bem.slots[n], late := waitsInQueue s n || s.bem.slots[n].late }
    else s.bem.slots[i] := by
  rw [snapshot_eq_enqueue]
  by_cases h : waitsInQueue s n = true
  · rw [enqueue_of_waits h, reportBusLate_bem]
    refine (setLate_bem_slots n true _ i).trans ?_
    simp only [State.setBem_bem, setSlot_bem_slots, Fin.val_inj, if_true, h, Bool.true_or]
    split <;> rfl
  · rw [enqueue_of_not_waits h, State.setBem_bem, setSlot_bem_slots]
    simp only [Fin.val_inj, h, Bool.false_or]

theorem snapshot_ckr (n : Fin 24) (s : State) : (snapshot n s).ckr =
    if waitsInQueue s n = true then s.ckr.map fun k => { k with flags := { k.flags with busLate := true } }
    else s.ckr := by
  rw [snapshot_eq_enqueue]
  by_cases h : waitsInQueue s n = true
  · rw [enqueue_of_waits h, if_pos h]
    simp
  · rw [enqueue_of_not_waits h, if_neg h]
    simp

/-! ## A slot falls due (R117) -/

theorem RailState.transmits_iff {r : RailState} : r.transmits = true ↔ r = .on ∨ r = .slewing ∨ r = .cranking := by
  cases r <;> simp [RailState.transmits]

theorem canSnapshot_iff {s : State} {m : MessageSlot} : canSnapshot s m = true ↔
    m.defined = true ∧ m.enabled = true ∧ s.bem.silent = false ∧
      (s.spu.rail = .on ∨ s.spu.rail = .slewing ∨ s.spu.rail = .cranking) := by
  rw [← RailState.transmits_iff]
  simp [canSnapshot, and_assoc, and_comm (a := s.spu.rail.transmits = true)]

theorem exec_slotDue_of_scheduled {s : State} {z : Nat} (n : Fin 24) (hr : s.resetHeld = false)
    (hz : s.bem.schedule = some z) : exec (.slotDue n) s =
      .next (if s.bem.slots[n].period ≠ 0 then if canSnapshot s s.bem.slots[n] then snapshot n s else s else s) := by
  change execSlotDue n s = _
  simp [execSlotDue, act, hr, hz, slotAt_fin, fallDue]

end Sys2Proof.Machine

namespace Sys2Proof.Certificates

open Machine

/-! ## The obligation -/

/-- Settles O43: the due time is a snapshot or nothing, and the snapshot is taken apart into its payload, its entry in
the table and its place in the queue. -/
theorem slotDueTakesSnapshot : Obligations.SlotDueTakesSnapshot := by
  intro s n z hreset hz m due waits
  rw [exec_slotDue_of_scheduled n hreset hz]
  refine ⟨fun eventOnly => congrArg _ (if_neg (not_not.mpr eventOnly)), fun periodic passes => ?_,
    fun periodic falls proper => ?_⟩
  · rw [if_pos periodic, if_neg (mt canSnapshot_iff.mp passes)]
  rw [if_pos periodic, if_pos (canSnapshot_iff.mpr falls)]
  have own : (snapshot n s).bem.slots[n] =
      { m with payload := snapshotPayload m, late := waitsInQueue s n || m.late } :=
    (snapshot_bem_slots n s n).trans (if_pos rfl)
  refine ⟨_, rfl, snapshotPayload m, snapshotOf_snapshotPayload proper, congrArg _ own,
    fun i hi => (snapshot_bem_slots n s i).trans (if_neg hi.symm), mem_snapshot.mpr (.inl rfl),
    fun x hx ofSlot => (mem_snapshot.mp hx).resolve_right fun ⟨_, other⟩ => other ofSlot, fun x other => ?_,
    fun w => ?_, fun w => ?_, snapshot_spu n s, snapshot_oi n s, snapshot_clu n s, snapshot_rli n s, snapshot_vdu n s,
    snapshot_opu n s⟩
  · have notNew : x ≠ snapshotInstance s n := fun new => other (congrArg TxInstance.slot new)
    simp only [mem_snapshot, notNew, other, false_or, ne_eq, not_false_eq_true, and_true]
  · have replaces : waitsInQueue s n = true := waitsInQueue_iff.mpr w
    rw [own, snapshot_ckr, replaces]
    exact ⟨rfl, rfl⟩
  · have joins : waitsInQueue s n = false := Bool.eq_false_of_not_eq_true (mt waitsInQueue_iff.mp w)
    rw [own, snapshot_ckr, joins]
    exact ⟨rfl, rfl⟩

end Sys2Proof.Certificates
end

section
/-! A check that has its value: the judgement of the value, the end of a check that has nothing left to ask, and the
entry to PROMPTING of one that has (R50 to R52, R57, R61, R70, R81 to R83, R165). -/

namespace Sys2Proof.Machine

/-! ## The value judged (R81, R165; section 5.3) -/

theorem roundHalfUp_eq {n d q : Nat}
    (h : (2 * (n % d) < d ∧ q = n / d) ∨ (d ≤ 2 * (n % d) ∧ q = n / d + 1)) : roundHalfUp n d = q := by
  rcases h with ⟨below, rfl⟩ | ⟨reached, rfl⟩
  · exact if_neg below.not_ge
  · exact if_pos reached

theorem low_test_iff {low : Option Int} {v : Int} : (low.map fun l => decide (v < l)).getD false = true ↔
    ∃ l, low = some l ∧ v < l := by
  cases low <;> simp

theorem high_test_iff {high : Option Int} {v : Int} : (high.map fun h => decide (v > h)).getD false = true ↔
    ∃ h, high = some h ∧ h < v := by
  cases high <;> simp

theorem judgeLimits_of_limitVerdict {low high : Option Int} {v : Int} {o : Verdict} (h : LimitVerdict low high v o) :
    judgeLimits low high v = o := by
  have notLow (h : ∀ l, low = some l → l ≤ v) : ¬ (low.map fun l => decide (v < l)).getD false = true := fun fails =>
    have ⟨l, hl, below⟩ := low_test_iff.mp fails
    (h l hl).not_gt below
  have notHigh (h : ∀ l, high = some l → v ≤ l) : ¬ (high.map fun l => decide (v > l)).getD false = true :=
    fun fails =>
      have ⟨l, hl, above⟩ := high_test_iff.mp fails
      (h l hl).not_gt above
  rcases h with ⟨below, rfl⟩ | ⟨least, above, rfl⟩ | ⟨least, most, rfl⟩
  · exact if_pos (low_test_iff.mpr below)
  · exact (if_neg (notLow least)).trans (if_pos (high_test_iff.mpr above))
  · exact (if_neg (notLow least)).trans (if_neg (notHigh most))

/-- A check's record with its outcome, on its way to its next stage. -/
def CheckRecord.withVerdict (k : CheckRecord) (v : Verdict) (next : Stage) : CheckRecord :=
  { k with judged := v, waitsOn := .none, stage := next }

theorem CheckRecord.measured_of_last {k : CheckRecord} {v : Int} {o : Verdict}
    (ho : LimitVerdict k.order.low k.order.high v o) (h : k.order.prompt = none ∨ o ≠ .pass) :
    k.measured v = { k with value := some v }.withVerdict o .judging := by
  have judging : ¬ (o = .pass ∧ k.order.prompt.isSome = true) := by
    rcases h with unasked | notPassed
    · simp [unasked]
    · exact fun ⟨passed, _⟩ => notPassed passed
  simp only [CheckRecord.measured, judgeLimits_of_limitVerdict ho, if_neg judging, CheckRecord.withVerdict]

theorem CheckRecord.measured_of_prompt {k : CheckRecord} {v : Int} {p : Prompt}
    (ho : LimitVerdict k.order.low k.order.high v .pass) (h : k.order.prompt = some p) :
    k.measured v = { k with value := some v }.withVerdict .pass .prompting := by
  simp [CheckRecord.measured, judgeLimits_of_limitVerdict ho, h, CheckRecord.withVerdict]

theorem reportMeasurement_of_measures {s : State} {k : CheckRecord} (f : CheckRecord → CheckRecord)
    (h : s.ckr = some k) (hm : k.Measures) : reportMeasurement f s = s.setCkr (some (f k)) := by
  have measures : k.measures = true := by
    obtain ⟨stage, waits⟩ := hm
    rw [CheckRecord.measures, stage, waits]
    rfl
  rw [reportMeasurement, updateCheck, h, Option.map_some, if_pos measures]

/-! ## Releases with nothing deferred (R51, R61) -/

theorem dropDeferred_of_none {s : State} (h : s.clu.deferred = none) (w : Requester) (r : Resource) :
    dropDeferred w r s = s := by
  rw [dropDeferred, h]

theorem takeDeferred_of_none {s : State} (h : s.clu.deferred = none) : takeDeferred s = s := by
  unfold takeDeferred
  rw [h]
  split
  · rename_i deferred
    exact nomatch deferred
  · rfl

/-- With nothing deferred a release is the removal of the claim or nothing, and the OPU hears of neither. -/
theorem releaseClaim_of_none {s : State} (h : s.clu.deferred = none) (w : Requester) (r : Resource) :
    (releaseClaim w r s).clu.deferred = none ∧ (releaseClaim w r s).opu = s.opu := by
  have removed : (removeClaim s).clu.deferred = none := by simp [removeClaim, h]
  simp only [releaseClaim, dropDeferred_of_none h, takeDeferred_of_none removed]
  split
  · exact ⟨removed, removeClaim_opu s⟩
  · exact ⟨h, rfl⟩

theorem releaseAllOf_opu_of_none {s : State} (h : s.clu.deferred = none) (w : Requester) :
    (releaseAllOf w s).opu = s.opu := by
  simp only [releaseAllOf, dropDeferred_of_none h]
  obtain ⟨inrush, opu1⟩ := releaseClaim_of_none h w .inrush
  obtain ⟨quiet, opu2⟩ := releaseClaim_of_none inrush w .quiet
  exact (releaseClaim_of_none quiet w .operator).2.trans (opu2.trans opu1)

/-! ## The end of a check in JUDGING (R70, R83, R86, R87) -/

/-- In JUDGING no unit is at work for the check: a power-up alone is cancelled. -/
theorem stopWork_of_judging {k : CheckRecord} (h : k.stage = .judging) (s : State) : stopWork k s = powerUpCancel s := by
  simp only [stopWork, h, reduceCtorEq, if_false]

theorem endCheck_of_judging {s : State} {k : CheckRecord} (h : s.ckr = some k) (hj : k.stage = .judging)
    (x : VerdictContent) : endCheck (some x) s = (formVerdict x (clearNoisy (releaseAllOf .ckr (withdrawAudible
      (applyRestores k (powerUpCancel s)))))).setCkr none := by
  simp only [endCheck, h, stopWork_of_judging hj]

theorem endCheck_ltu_of_judging {s : State} {k : CheckRecord} (h : s.ckr = some k) (hj : k.stage = .judging)
    (x : VerdictContent) : (endCheck (some x) s).ltu = s.ltu := by
  simp [endCheck_of_judging h hj]

theorem endCheck_csu_of_judging {s : State} {k : CheckRecord} (h : s.ckr = some k) (hj : k.stage = .judging)
    (x : VerdictContent) : (endCheck (some x) s).csu = s.csu := by
  simp [endCheck_of_judging h hj]

theorem endCheck_opu_of_judging {s : State} {k : CheckRecord} (h : s.ckr = some k) (hj : k.stage = .judging)
    (hd : s.clu.deferred = none) (x : VerdictContent) : (endCheck (some x) s).opu = s.opu := by
  have deferred : (withdrawAudible (applyRestores k (powerUpCancel s))).clu.deferred = none := by
    simp [withdrawAudible, hd]
  rw [endCheck_of_judging h hj, State.setCkr_opu, formVerdict_opu, clearNoisy_opu, releaseAllOf_opu_of_none deferred]
  simp

/-- A check alone in JUDGING ends with the content it formed, and the station is READY. -/
theorem settle_of_judging {s : State} {k : CheckRecord} (h : RunsAlone s k) (hj : k.stage = .judging) :
    settle s = (endCheck (some k.judgedContent) s).setOi s.oiReady := by
  obtain ⟨inFlight, alone, running⟩ := h
  have ends : micro s = some (endCheck (some k.judgedContent) s) := by
    simp [micro, inFlight, hj, finishJudged]
  have idles : micro (endCheck (some k.judgedContent) s) =
      some ((endCheck (some k.judgedContent) s).setOi s.oiReady) := by
    simp [micro, alone, running, stationIdle, State.oiReady]
  have rests : micro ((endCheck (some k.judgedContent) s).setOi s.oiReady) = none := by
    simp [micro, alone, State.oiReady]
  exact settle_of_two ends idles rests

/-- The record of a check's end stands whatever the station is after it. -/
theorem judged_endCheck {s : State} {k : CheckRecord} (h : s.ckr = some k) (x : VerdictContent) (o : Oi) :
    Judged s ((endCheck (some x) s).setOi o) x := by
  have verdicts : (endCheck (some x) s).vdu = vduWith x s.bem.current s.vdu := endCheck_vdu h x
  simp [Judged, verdicts, vduWith, endCheck_noisy h]

/-- What a check alone in JUDGING leaves: its verdict and a READY station, the measuring units as they were. -/
theorem settle_judging_leaves {s : State} {k : CheckRecord} (h : RunsAlone s k) (hj : k.stage = .judging) :
    Judged s (settle s) k.judgedContent ∧ (settle s).oi = s.oiReady ∧ (settle s).ltu = s.ltu ∧
      (settle s).csu = s.csu ∧ (s.clu.deferred = none → (settle s).opu = s.opu) := by
  rw [settle_of_judging h hj]
  obtain ⟨inFlight, -, -⟩ := h
  exact ⟨judged_endCheck inFlight _ _, rfl, endCheck_ltu_of_judging inFlight hj _,
    endCheck_csu_of_judging inFlight hj _, fun hd => endCheck_opu_of_judging inFlight hj hd _⟩

/-! ## The operator's place (R57) -/

/-- The place is read off the peer view and the own slot and group. -/
theorem operatorPlace_congr {s t : State} (hslot : t.rli.slot = s.rli.slot) (hgroup : t.rli.group = s.rli.group)
    (hpeers : t.clu.peers = s.clu.peers) (c : OwnClaim) : operatorPlace t c = operatorPlace s c := by
  have claims : peerClaims t .operator = peerClaims s .operator := by
    simp only [peerClaims, livePeers, hslot, hgroup, hpeers]
  have order : ahead t c = ahead s c := by
    funext p
    simp only [ahead, hslot]
  rw [operatorPlace, operatorPlace, claims, order]

theorem givePlace_of_operator {s : State} {c : OwnClaim} (h : s.clu.claim = some c) (hr : c.resource = .operator)
    (hg : c.granted = false) : givePlace s = s.setOpu { s.opu with place := some (operatorPlace s c) } := by
  simp [givePlace, h, hr, hg]

/-! ## OPERATOR requested (R50 to R52) -/

/-- The claim that a check takes on OPERATOR. -/
def newOperatorClaim (s : State) : OwnClaim :=
  ⟨.operator, newTicket s .operator, false, 0, .ckr, .notBegun, some (s.oi.rack.claimWait * 1000)⟩

/-- The claim taken and its ticket kept, not yet announced. -/
def claimsOperator (s : State) : State :=
  s.setClu { s.clu with claim := some (newOperatorClaim s), lastOperator := newTicket s .operator }

theorem requestOperator_of_no_claim {s : State} (h : s.clu.claim = none) : requestClaim ⟨.operator, 0, .ckr⟩ s =
    (handIn (claimsOperator s)).setOpu { s.opu with place := some (operatorPlace s (newOperatorClaim s)) } := by
  have announced : (handIn (claimsOperator s)).clu = (claimsOperator s).clu := handIn_clu _
  have place : operatorPlace (handIn (claimsOperator s)) (newOperatorClaim s) =
      operatorPlace s (newOperatorClaim s) :=
    operatorPlace_congr (s := s) (t := handIn (claimsOperator s)) (handIn_slot _) (handIn_group _)
      (congrArg Clu.peers announced :) _
  have given : givePlace (handIn (claimsOperator s)) = (handIn (claimsOperator s)).setOpu
      { s.opu with place := some (operatorPlace s (newOperatorClaim s)) } := by
    rw [givePlace_of_operator (congrArg Clu.claim announced) rfl rfl, handIn_opu, place]
    rfl
  rw [requestClaim, h]
  exact given

theorem requestClaim_of_claim {s : State} {c : OwnClaim} (h : s.clu.claim = some c) (hd : s.clu.deferred = none)
    (q : ClaimRequest) : requestClaim q s = s.setClu { s.clu with deferred := some q } := by
  rw [requestClaim, h, deferRequest, hd]

/-- A request changes nothing of the OPU but the place. -/
theorem requestOperator_opu (s : State) : (requestClaim ⟨.operator, 0, .ckr⟩ s).opu =
    { s.opu with place := (requestClaim ⟨.operator, 0, .ckr⟩ s).opu.place } := by
  cases h : s.clu.claim with
  | none => rw [requestOperator_of_no_claim h, State.setOpu_opu]
  | some c =>
    have deferred : (requestClaim ⟨.operator, 0, .ckr⟩ s).opu = s.opu := by
      rw [requestClaim, h]
      exact deferRequest_opu _ s
    rw [deferred]

theorem requestOperator_replies (s : State) : (requestClaim ⟨.operator, 0, .ckr⟩ s).rli.replies = s.rli.replies := by
  unfold requestClaim
  split <;> simp

theorem handIn_buffer {s : State} (h : s.rli.silent = false) : (handIn s).rli.buffer =
    some (buildAnnouncement s, announceClass s.rli.lastSentClaim s.rli.lastSentNoisy (buildAnnouncement s)) := by
  simp [handIn, Rli.handInAnnouncement, h]

/-! ## Entry to PROMPTING (R70, R82) -/

theorem prompted_of_requested {s : State} {k : CheckRecord}
    (h : s.ckr = some { k with stage := .prompting, waitsOn := .claim .operator }) (p : Prompt) :
    Prompted s (promptHandover p (requestClaim ⟨.operator, 0, .ckr⟩ s)) k p := by
  refine ⟨by simp [h], ?_, by simp, by simp, by simp, by simp, ?_, fun free => ?_, fun c held hd => ?_⟩
  · rw [promptHandover, State.setOpu_opu, requestOperator_opu]
  · rw [promptHandover_rli, requestOperator_replies]
  · rw [requestOperator_of_no_claim free]
    exact ⟨by simp [claimsOperator, newOperatorClaim], rfl,
      fun loud => ⟨_, _, handIn_buffer (s := claimsOperator s) loud, rfl⟩⟩
  · rw [requestClaim_of_claim held hd]
    exact ⟨rfl, rfl, rfl⟩

/-- A check that goes to PROMPTING has its prompt handed over and OPERATOR requested, and then waits. -/
theorem settle_of_prompting {s : State} {k : CheckRecord} {p : Prompt}
    (h : s.ckr = some { k with stage := .prompting, waitsOn := .none }) (hp : k.order.prompt = some p) :
    settle s = promptHandover p (requestClaim ⟨.operator, 0, .ckr⟩
      (s.setCkr (some { k with stage := .prompting, waitsOn := .claim .operator }))) := by
  have enters : micro s = some (enterPrompting p { k with stage := .prompting, waitsOn := .none } s) := by
    simp [micro, h, hp]
  refine settle_of_one enters (micro_none_of_waits
    (c := { k with stage := .prompting, waitsOn := .claim .operator }) ?_ (.inr (.inr (.inl ⟨rfl, nofun⟩))))
  simp

end Sys2Proof.Machine
end

section
/-! The light channels: a block and a window sample by sample, what a complete block steps and a re-range leaves, and
the end of a check that has its value (chapter 7: R138 to R151; R70, R81 to R83). -/

namespace Sys2Proof.Machine

/-! ## Channels in the table -/

theorem channelAt_fin (s : State) (n : Fin 8) : channelAt s n = s.ltu[n] := entryAt_fin _ n _

/-- Samples have left channel n at c: its re-range mark, if set, is on the check that measures. -/
def channelTook (n : Fin 8) (c : LightChannel) (s : State) : State :=
  (s.setLtu (s.ltu.setIfInBounds n c)).setCkr (s.ckr.map (CheckRecord.reported c.reranged))

theorem channelTook_eq (n : Fin 8) (c : LightChannel) (s : State) : channelTook n c s =
    let s1 := updateChannel n (fun _ => c) s
    if c.reranged then noteReranged s1 else s1 := by
  unfold channelTook
  cases c.reranged with
  | false =>
    have same : CheckRecord.reported false = id := rfl
    rw [same, Option.map_id]
    rfl
  | true => rfl

theorem lightSamples_of_none {n : Fin 8} {xs : List Code} {s : State} {c : LightChannel}
    (h : s.ltu[n].samples xs = (c, none)) : lightSamples n xs s = channelTook n c s := by
  simp only [lightSamples, channelAt_fin, h, channelTook_eq]

theorem lightSamples_of_some {n : Fin 8} {xs : List Code} {s : State} {c : LightChannel} {r : LightReport}
    (h : s.ltu[n].samples xs = (c, some r)) :
    lightSamples n xs s = settle (reportMeasurement (·.lightReport r) (channelTook n c s)) := by
  simp only [lightSamples, channelAt_fin, h, channelTook_eq]

/-! ## Samples one after another (R138) -/

theorem LightChannel.samples_cons_of_none {c c1 : LightChannel} {x : Code} (xs : List Code)
    (h : c.sample x = (c1, none)) : c.samples (x :: xs) = c1.samples xs := by
  rw [LightChannel.samples, h]

theorem LightChannel.samples_singleton (c : LightChannel) (x : Code) : c.samples [x] = c.sample x := by
  rw [LightChannel.samples]
  rcases c.sample x with ⟨c1, _ | r⟩ <;> rfl

@[simp] theorem LightChannel.tookBlock_nil (c : LightChannel) : c.tookBlock [] = c := by
  simp [LightChannel.tookBlock]

@[simp] theorem LightChannel.tookWindow_nil (c : LightChannel) : c.tookWindow [] = c := by
  simp [LightChannel.tookWindow, darkSum]

theorem LightChannel.tookBlock_tookBlock (c : LightChannel) (xs ys : List Code) :
    (c.tookBlock xs).tookBlock ys = c.tookBlock (xs ++ ys) := by
  simp [LightChannel.tookBlock, Nat.add_assoc, Bool.or_assoc]

theorem LightChannel.tookWindow_tookWindow (c : LightChannel) (xs ys : List Code) :
    (c.tookWindow xs).tookWindow ys = c.tookWindow (xs ++ ys) := by
  simp [LightChannel.tookWindow, darkSum, Nat.add_assoc, Bool.or_assoc]

/-! ## A block (R143) -/

/-- The states in which a channel takes blocks. -/
def LightState.TakesBlocks (st : LightState) : Prop := st = .ranging ∨ st = .locked

theorem takesBlocks_of_state {s : State} {n : Fin 8} (h : s.ltu[n].state.TakesBlocks) : takesBlocks s n = true := by
  rw [takesBlocks, channelAt_fin]
  rcases h with h | h <;> rw [h] <;> rfl

theorem LightChannel.blockSample_eq (c : LightChannel) (x : Code) : c.blockSample x =
    if 16 ≤ c.blockCount + 1 then (c.tookBlock [x]).completeBlock else c.tookBlock [x] := by
  have same : c.tookBlock [x] = { c with
      blockSum := c.blockSum + x.toNat, blockCount := c.blockCount + 1
      blockSaturated := c.blockSaturated || x.toNat == 4095 } := by
    simp [LightChannel.tookBlock, saturatedCode]
  rw [LightChannel.blockSample, same]

theorem LightChannel.sample_of_takesBlocks {c : LightChannel} (h : c.state.TakesBlocks) (x : Code) :
    c.sample x = (c.blockSample x, none) := by
  rcases h with h | h <;> simp only [LightChannel.sample, h]

theorem LightChannel.samples_of_partial_block {xs : List Code} (ys : List Code) {c : LightChannel}
    (hst : c.state.TakesBlocks) (hcount : c.blockCount + xs.length < 16) :
    c.samples (xs ++ ys) = (c.tookBlock xs).samples ys := by
  induction xs generalizing c with
  | nil => rw [List.nil_append, tookBlock_nil]
  | cons x xs ih =>
    rw [List.length_cons] at hcount
    have step : c.sample x = (c.tookBlock [x], none) := by
      rw [sample_of_takesBlocks hst, blockSample_eq, if_neg (by omega)]
    have rest : (c.tookBlock [x]).blockCount + xs.length < 16 := by
      change c.blockCount + 1 + xs.length < 16
      omega
    rw [List.cons_append, samples_cons_of_none _ step, ih (c := c.tookBlock [x]) hst rest, tookBlock_tookBlock,
      List.singleton_append]

/-- The samples that bring the count to 16 complete the block with the last of them. -/
theorem LightChannel.samples_of_whole_block {xs : List Code} (hne : xs ≠ []) {c : LightChannel}
    (hst : c.state.TakesBlocks) (hcount : c.blockCount + xs.length = 16) :
    c.samples xs = ((c.tookBlock xs).completeBlock, none) := by
  obtain rfl | ⟨pre, x, rfl⟩ := xs.eq_nil_or_concat'
  · exact absurd rfl hne
  rw [List.length_append, List.length_singleton] at hcount
  have last : (c.tookBlock pre).sample x = ((c.tookBlock (pre ++ [x])).completeBlock, none) := by
    have full : 16 ≤ (c.tookBlock pre).blockCount + 1 := by
      change 16 ≤ c.blockCount + pre.length + 1
      omega
    rw [sample_of_takesBlocks (c := c.tookBlock pre) hst, blockSample_eq, if_pos full, tookBlock_tookBlock]
  rw [samples_of_partial_block [x] hst (by omega), samples_singleton, last]

/-! ## The step of a block (R139, R144) -/

/-- A scan that keeps the last number passing a test ends at one that passes with no later one. -/
theorem foldl_range_keeps_last {test : Nat → Bool} {k n : Nat} (hk : k < n) (hpass : test k = true)
    (hlast : ∀ j, k < j → j < n → test j = false) :
    (List.range n).foldl (fun best j => if test j then j else best) 0 = k := by
  induction n with
  | zero => exact absurd hk (Nat.not_lt_zero k)
  | succ n ih =>
    rw [List.range_succ, List.foldl_append, List.foldl_cons, List.foldl_nil]
    rcases Nat.lt_succ_iff_lt_or_eq.mp hk with below | rfl
    · rw [hlast n below n.lt_succ_self, ih below fun j hj hjn => hlast j hj (hjn.trans n.lt_succ_self)]
      rfl
    · rw [if_pos hpass]

theorem largestStep_eq {test : Nat → Bool} {k : Nat} (hk : k ≤ 8) (hpass : test k = true)
    (hlast : ∀ j, k < j → j ≤ 8 → test j = false) : largestStep test = k :=
  foldl_range_keeps_last (by omega) hpass fun j hj hj9 => hlast j hj (by omega)

theorem fullStep_of_blockStep {saturated : Bool} {mean target : Nat} {d : Int}
    (h : BlockStep saturated mean target d) : fullStep saturated mean target = d := by
  rcases h with ⟨rfl, rfl⟩ | ⟨rfl, rfl, rfl⟩ | ⟨rfl, pos, below, k, hk, rfl, hpass, hlast⟩ |
    ⟨rfl, pos, above, k, hk, rfl, hpass, hlast⟩
  · rfl
  · rfl
  · rw [fullStep, if_neg Bool.false_ne_true, if_neg pos.ne', if_pos below,
      largestStep_eq hk (decide_eq_true hpass) fun j hj hj8 => decide_eq_false (hlast j hj hj8).not_ge]
  · rw [fullStep, if_neg Bool.false_ne_true, if_neg pos.ne', if_neg above.not_gt,
      largestStep_eq hk (decide_eq_true hpass) fun j hj hj8 => decide_eq_false (hlast j hj hj8).not_ge]

/-! ## The lock test of a block (R145, R146) -/

theorem blockError_eq (mean target : Nat) : blockError mean target = max mean target - min mean target := by
  unfold blockError
  omega

theorem pinCondition_iff {cal : LightCal} {gain mean target : Nat} : pinCondition cal gain mean target = true ↔
    (gain = cal.gmax ∧ mean < target) ∨ (gain = cal.gmin ∧ target < mean) := by
  simp [pinCondition]

/-- In RANGING a block steps the gain by the full step before its lock test. -/
theorem LightChannel.completeBlock_of_ranging {c : LightChannel} {d : Int} (hst : c.state = .ranging)
    (hd : BlockStep c.blockSaturated (c.blockSum / 16) c.target d) : c.completeBlock =
      { c.newBlock with gain := c.cal.bringGain (c.gain + d) }.rangingBlock c.gain (c.blockSum / 16) := by
  simp [LightChannel.completeBlock, hst, fullStep_of_blockStep hd, reducedStep]

/-- In LOCKED a block steps the gain by the reduced step before its lock test. -/
theorem LightChannel.completeBlock_of_locked {c : LightChannel} {d : Int} (hst : c.state = .locked)
    (hd : BlockStep c.blockSaturated (c.blockSum / 16) c.target d) : c.completeBlock =
      { c.newBlock with gain := c.cal.bringGain (c.gain + d.tdiv (2 ^ c.cal.shift)) }.lockedBlock
        c.gain (c.blockSum / 16) := by
  simp [LightChannel.completeBlock, hst, fullStep_of_blockStep hd, reducedStep]

/-- The in-band count after a block (R145). -/
def LightChannel.nextInBand (c : LightChannel) (mean : Nat) : Nat :=
  if blockError mean c.target ≤ c.cal.band then c.inBand + 1 else 0

/-- The pinned count after a block (R145). -/
def LightChannel.nextPinned (c : LightChannel) (blockGain mean : Nat) : Nat :=
  if pinCondition c.cal blockGain mean c.target then c.pinned + 1 else 0

/-- The out-of-band count after a block (R146). -/
def LightChannel.nextOutOfBand (c : LightChannel) (blockGain mean : Nat) : Nat :=
  if decide (blockError mean c.target > 2 * c.cal.band) &&
    !(c.lock == .pinned && pinCondition c.cal blockGain mean c.target) then c.outOfBand + 1 else 0

theorem LightChannel.nextInBand_eq (c : LightChannel) (mean : Nat) : c.nextInBand mean =
    if max mean c.target - min mean c.target ≤ c.cal.band then c.inBand + 1 else 0 := by
  rw [LightChannel.nextInBand, blockError_eq]

theorem LightChannel.nextPinned_eq (c : LightChannel) (blockGain mean : Nat) : c.nextPinned blockGain mean =
    if (blockGain = c.cal.gmax ∧ mean < c.target) ∨ (blockGain = c.cal.gmin ∧ c.target < mean) then c.pinned + 1
    else 0 := if_congr pinCondition_iff rfl rfl

theorem LightChannel.nextOutOfBand_eq (c : LightChannel) (blockGain mean : Nat) : c.nextOutOfBand blockGain mean =
    if 2 * c.cal.band < max mean c.target - min mean c.target ∧ ¬ (c.lock = .pinned ∧
      ((blockGain = c.cal.gmax ∧ mean < c.target) ∨ (blockGain = c.cal.gmin ∧ c.target < mean)))
    then c.outOfBand + 1 else 0 := by
  refine if_congr ?_ rfl rfl
  rw [Bool.and_eq_true, decide_eq_true_iff, Bool.not_eq_true', ← Bool.not_eq_true, Bool.and_eq_true, beq_iff_eq,
    pinCondition_iff, blockError_eq]

theorem LightChannel.rangingBlock_of_inBand {c : LightChannel} {g mean : Nat} (h : 4 ≤ c.nextInBand mean) :
    c.rangingBlock g mean = { c with
      inBand := c.nextInBand mean, pinned := c.nextPinned g mean, state := .locked, lock := .band, outOfBand := 0 } :=
  if_pos h

theorem LightChannel.rangingBlock_of_pinned {c : LightChannel} {g mean : Nat} (hi : c.nextInBand mean < 4)
    (hp : 4 ≤ c.nextPinned g mean) : c.rangingBlock g mean = { c with
      inBand := c.nextInBand mean, pinned := c.nextPinned g mean, state := .locked, lock := .pinned
      outOfBand := 0 } :=
  (if_neg hi.not_ge).trans (if_pos hp)

theorem LightChannel.rangingBlock_of_not_locked {c : LightChannel} {g mean : Nat} (hi : c.nextInBand mean < 4)
    (hp : c.nextPinned g mean < 4) :
    c.rangingBlock g mean = { c with inBand := c.nextInBand mean, pinned := c.nextPinned g mean } :=
  (if_neg hi.not_ge).trans (if_neg hp.not_ge)

theorem LightChannel.lockedBlock_of_lost {c : LightChannel} {g mean : Nat} (h : 2 ≤ c.nextOutOfBand g mean) :
    c.lockedBlock g mean = { c with
      outOfBand := c.nextOutOfBand g mean, state := .ranging, inBand := 0, pinned := 0, lock := .none } :=
  if_pos h

theorem LightChannel.lockedBlock_of_still {c : LightChannel} {g mean : Nat} (h : c.nextOutOfBand g mean < 2)
    (hg : c.gain = g) : c.lockedBlock g mean =
      { c with outOfBand := c.nextOutOfBand g mean, rangeTimer := none }.newWindow :=
  (if_neg h.not_ge).trans (if_pos hg)

theorem LightChannel.lockedBlock_of_moved {c : LightChannel} {g mean : Nat} (h : c.nextOutOfBand g mean < 2)
    (hg : c.gain ≠ g) : c.lockedBlock g mean = { c with outOfBand := c.nextOutOfBand g mean } :=
  (if_neg h.not_ge).trans (if_neg hg)

theorem exec_lightBlockComplete_of_whole {s : State} {n : Fin 8} {xs : List Code} (hr : s.resetHeld = false)
    (hne : xs ≠ []) (hst : s.ltu[n].state.TakesBlocks) (hcount : s.ltu[n].blockCount + xs.length = 16) :
    exec (.lightBlockComplete n xs) s = .next (channelTook n (s.ltu[n].tookBlock xs).completeBlock s) := by
  change execLightBlockComplete n xs s = _
  rw [execLightBlockComplete, act, if_neg (ne_true_of_eq_false hr), if_pos (takesBlocks_of_state hst),
    lightSamples_of_none (LightChannel.samples_of_whole_block hne hst hcount)]

/-! ## A window (R148, R149) -/

/-- Sample x is counted by the window of c, saturated or not: it does not re-range (R149). -/
def LightChannel.Counts (c : LightChannel) (x : Code) : Prop :=
  saturatedCode x = true → c.reranged = true ∨ c.gain ≤ c.cal.gmin

theorem LightChannel.windowSample_of_counts {c : LightChannel} {x : Code} (h : c.Counts x) :
    c.windowSample x = c.tookWindow [x] := by
  have counted : ¬ ((x.toNat == 4095 && !c.reranged && decide (c.gain > c.cal.gmin)) = true) := by
    intro reranges
    rw [Bool.and_eq_true, Bool.and_eq_true, Bool.not_eq_true', decide_eq_true_iff] at reranges
    obtain ⟨⟨saturated, first⟩, above⟩ := reranges
    rcases h saturated with again | least
    · exact Bool.false_ne_true (first.symm.trans again)
    · exact above.not_ge least
  rw [LightChannel.windowSample, if_neg counted]
  simp [LightChannel.tookWindow, darkSum, saturatedCode]

theorem LightChannel.sample_of_partial_window {c : LightChannel} {x : Code} (hst : c.state = .window)
    (h : c.Counts x) (hcount : c.count + 1 < c.window) : c.sample x = (c.tookWindow [x], none) := by
  have goesOn : ¬ ((c.tookWindow [x]).state = .window ∧ (c.tookWindow [x]).count ≥ (c.tookWindow [x]).window) :=
    fun ⟨_, full⟩ => hcount.not_ge full
  simp only [LightChannel.sample, hst, windowSample_of_counts h, if_neg goesOn]

theorem LightChannel.sample_of_last_of_window {c : LightChannel} {x : Code} (hst : c.state = .window)
    (h : c.Counts x) (hcount : c.window ≤ c.count + 1) :
    c.sample x = ((c.tookWindow [x]).finish.1, some (c.tookWindow [x]).finish.2) := by
  have ends : (c.tookWindow [x]).state = .window ∧ (c.tookWindow [x]).count ≥ (c.tookWindow [x]).window :=
    ⟨hst, hcount⟩
  simp only [LightChannel.sample, hst, windowSample_of_counts h, if_pos ends]

theorem LightChannel.samples_of_partial_window {xs : List Code} (ys : List Code) {c : LightChannel}
    (hst : c.state = .window) (h : ∀ x ∈ xs, c.Counts x) (hcount : c.count + xs.length < c.window) :
    c.samples (xs ++ ys) = (c.tookWindow xs).samples ys := by
  induction xs generalizing c with
  | nil => rw [List.nil_append, tookWindow_nil]
  | cons x xs ih =>
    rw [List.length_cons] at hcount
    have step : c.sample x = (c.tookWindow [x], none) :=
      sample_of_partial_window hst (h x List.mem_cons_self) (by omega)
    have rest : (c.tookWindow [x]).count + xs.length < (c.tookWindow [x]).window := by
      change c.count + 1 + xs.length < c.window
      omega
    rw [List.cons_append, samples_cons_of_none _ step,
      ih (c := c.tookWindow [x]) hst (fun y hy => h y (List.mem_cons_of_mem x hy)) rest, tookWindow_tookWindow,
      List.singleton_append]

/-- The samples that bring the count to the window's length complete the window with the last of them. -/
theorem LightChannel.samples_of_whole_window {xs : List Code} (hne : xs ≠ []) {c : LightChannel}
    (hst : c.state = .window) (h : ∀ x ∈ xs, c.Counts x) (hcount : c.count + xs.length = c.window) :
    c.samples xs = ((c.tookWindow xs).finish.1, some (c.tookWindow xs).finish.2) := by
  obtain rfl | ⟨pre, x, rfl⟩ := xs.eq_nil_or_concat'
  · exact absurd rfl hne
  rw [List.length_append, List.length_singleton] at hcount
  have full : (c.tookWindow pre).window ≤ (c.tookWindow pre).count + 1 := by
    change c.window ≤ c.count + pre.length + 1
    omega
  rw [samples_of_partial_window [x] hst (fun y hy => h y (List.mem_append_left _ hy)) (by omega), samples_singleton,
    sample_of_last_of_window (c := c.tookWindow pre) hst (h x (by simp)) full, tookWindow_tookWindow]

/-! ## A re-range (R149) -/

theorem LightCal.bringGain_sub_eight (cal : LightCal) (g : Nat) :
    cal.bringGain ((g : Int) - 8) = max cal.gmin (min cal.gmax (g - 8)) := by
  unfold LightCal.bringGain clampInt
  omega

/-- The channel that a re-range leaves, before its window or its ranging begins anew. -/
def LightChannel.lowered (c : LightChannel) : LightChannel :=
  { c with gain := max c.cal.gmin (min c.cal.gmax (c.gain - 8)), reranged := true }

theorem LightChannel.windowSample_of_reranges {c : LightChannel} {x : Code} (hx : saturatedCode x = true)
    (hr : c.reranged = false) (hg : c.cal.gmin < c.gain) :
    c.windowSample x = if c.override then c.lowered.newWindow else c.lowered.startRanging := by
  have reranges : (x.toNat == 4095 && !c.reranged && decide (c.gain > c.cal.gmin)) = true := by
    rw [hr, decide_eq_true hg]
    exact (Bool.and_true _).trans ((Bool.and_true _).trans hx)
  rw [LightChannel.windowSample, if_pos reranges, LightCal.bringGain_sub_eight]
  rfl

theorem LightChannel.sample_of_reranges {c : LightChannel} {x : Code} (hst : c.state = .window)
    (hwindow : 0 < c.window) (hx : saturatedCode x = true) (hr : c.reranged = false) (hg : c.cal.gmin < c.gain) :
    c.sample x = (if c.override then c.lowered.newWindow else c.lowered.startRanging, none) := by
  simp only [LightChannel.sample, hst, windowSample_of_reranges hx hr hg]
  refine if_neg fun ⟨stays, full⟩ => ?_
  cases ho : c.override with
  | true =>
    rw [ho, if_pos rfl] at full
    exact hwindow.not_ge full
  | false =>
    rw [ho] at stays
    exact nomatch stays

/-- In WINDOW, a window begun anew changes the sums alone. -/
theorem LightChannel.newWindow_of_window {c : LightChannel} (h : c.state = .window) :
    c.newWindow = { c with sum := 0, count := 0, saturated := false } := by
  rw [LightChannel.newWindow, ← h]

theorem exec_lightWindowRerange_of_window {s : State} {n : Fin 8} {xs : List Code} {c : LightChannel}
    (hr : s.resetHeld = false) (hst : s.ltu[n].state = .window) (h : s.ltu[n].samples xs = (c, none)) :
    exec (.lightWindowRerange n xs) s = .next (channelTook n c s) := by
  change execLightWindowRerange n xs s = _
  rw [execLightWindowRerange, act, if_neg (ne_true_of_eq_false hr), channelAt_fin, if_pos hst,
    lightSamples_of_none h]

/-! ## A complete window (R150, R151) -/

/-- The re-range mark that a report brings is on the check already or comes with the report. -/
theorem CheckRecord.lightReport_reported (k : CheckRecord) (r : LightReport) :
    (k.reported r.reranged).lightReport r = k.lightReport r := by
  unfold CheckRecord.reported
  split
  · rename_i marked
    obtain ⟨reranged, -⟩ := Bool.and_eq_true_iff.mp marked
    simp [CheckRecord.lightReport, reranged]
  · rfl

theorem CheckRecord.Measures.reported {k : CheckRecord} (h : k.Measures) (b : Bool) : (k.reported b).Measures := by
  unfold CheckRecord.reported
  split
  · exact h
  · exact h

/-- A check's record with what a light report brings, not yet judged. -/
def CheckRecord.withLight (k : CheckRecord) (r : LightReport) : CheckRecord :=
  { k with
    value := some r.value
    gain := some r.gain
    flags := { k.flags with
      saturated := k.flags.saturated || r.saturated
      pinned := k.flags.pinned || r.pinned
      reranged := k.flags.reranged || r.reranged } }

theorem CheckRecord.lightReport_of_last {k : CheckRecord} {r : LightReport} {v : Verdict}
    (hv : LimitVerdict k.order.low k.order.high r.value v) (h : k.order.prompt = none ∨ v ≠ .pass) :
    k.lightReport r = (k.withLight r).withVerdict v .judging :=
  CheckRecord.measured_of_last hv h

theorem CheckRecord.lightReport_of_prompt {k : CheckRecord} {r : LightReport} {p : Prompt}
    (hv : LimitVerdict k.order.low k.order.high r.value .pass) (h : k.order.prompt = some p) :
    k.lightReport r = (k.withLight r).withVerdict .pass .prompting :=
  CheckRecord.measured_of_prompt hv h

/-- The channel once the samples xs have filled its window (R150). -/
def LightChannel.heldAfter (c : LightChannel) (xs : List Code) : LightChannel :=
  { c with
    state := .held, rangeTimer := none, sum := c.sum + darkSum c.cal.dark xs, count := c.window
    saturated := c.saturated || xs.any saturatedCode }

/-- The report of a window that the samples xs have filled, q the luminance before it is limited (R150, R151). -/
def LightChannel.reportAfter (c : LightChannel) (xs : List Code) (q : Nat) : LightReport :=
  ⟨min 16777215 q, c.gain, c.saturated || xs.any saturatedCode, c.lock == .pinned, c.reranged⟩

theorem LightChannel.samples_reports {c : LightChannel} {xs : List Code} {q : Nat} (hne : xs ≠ [])
    (hst : c.state = .window) (h : ∀ x ∈ xs, c.Counts x) (hcount : c.count + xs.length = c.window)
    (hq : roundHalfUp ((c.sum + darkSum c.cal.dark xs) * c.cal.kc)
      (c.window * 4 * gainMantissa c.gain * 2 ^ (c.gain / 8)) = q) :
    c.samples xs = (c.heldAfter xs, some (c.reportAfter xs q)) := by
  have value : luminance (c.sum + darkSum c.cal.dark xs) c.cal.kc c.window c.gain = min 16777215 q := by
    rw [luminance, amplification256, ← Nat.mul_assoc, hq]
  have finished : (c.tookWindow xs).finish = (c.heldAfter xs, c.reportAfter xs q) := by
    simp only [finish, tookWindow, heldAfter, reportAfter, hcount, value]
  rw [samples_of_whole_window hne hst h hcount, finished]

/-- The last samples of a window leave the channel with its report, and the check that measures goes on with it. -/
theorem exec_lightWindowComplete_of_whole {s : State} {n : Fin 8} {xs : List Code} {k : CheckRecord}
    {c : LightChannel} {r : LightReport} (hreset : s.resetHeld = false) (hst : s.ltu[n].state = .window)
    (h : s.ltu[n].samples xs = (c, some r)) (hr : c.reranged = r.reranged) (hk : s.ckr = some k) (hm : k.Measures) :
    exec (.lightWindowComplete n xs) s =
      .next (settle ((s.setLtu (s.ltu.setIfInBounds n c)).setCkr (some (k.lightReport r)))) := by
  change execLightWindowComplete n xs s = _
  have marked : (channelTook n c s).ckr = some (k.reported r.reranged) := by
    simp only [channelTook, State.setCkr_ckr, hk, Option.map_some, hr]
  rw [execLightWindowComplete, act, if_neg (ne_true_of_eq_false hreset), channelAt_fin, if_pos hst,
    lightSamples_of_some h, reportMeasurement_of_measures _ marked (hm.reported _), CheckRecord.lightReport_reported]
  rfl

end Sys2Proof.Machine

namespace Sys2Proof.Certificates

open Machine

/-- Settles O47: the samples complete one block; its step is the one that the four cases fix, and its lock test has
three ends in RANGING and three in LOCKED. -/
theorem lightBlockComplete : Obligations.LightBlockComplete := by
  intro s n xs d hreset hne c m error bring pin answer hcount hd
  have taken {c' : LightChannel} (hst : c.state.TakesBlocks) (h : (c.tookBlock xs).completeBlock = c')
      (hr : c'.reranged = c.reranged) : answer c' := by
    change exec (.lightBlockComplete n xs) s = _
    rw [exec_lightBlockComplete_of_whole hreset hne hst hcount, h, channelTook, hr]
  constructor
  · intro i p hst hi hp c'
    have block := LightChannel.completeBlock_of_ranging (c := c.tookBlock xs) hst hd
    obtain rfl : i = c.nextInBand m := hi.trans (c.nextInBand_eq m).symm
    obtain rfl : p = c.nextPinned c.gain m := hp.trans (c.nextPinned_eq c.gain m).symm
    exact ⟨fun inBand => taken (.inl hst) (block.trans (LightChannel.rangingBlock_of_inBand inBand)) rfl,
      fun notBand pinned => taken (.inl hst) (block.trans (LightChannel.rangingBlock_of_pinned notBand pinned)) rfl,
      fun notBand notPinned =>
        taken (.inl hst) (block.trans (LightChannel.rangingBlock_of_not_locked notBand notPinned)) rfl⟩
  · intro o g hst ho hg c'
    have block := LightChannel.completeBlock_of_locked (c := c.tookBlock xs) hst hd
    obtain rfl : o = c.nextOutOfBand c.gain m := ho.trans (c.nextOutOfBand_eq c.gain m).symm
    subst hg
    exact ⟨fun lost => taken (.inr hst) (block.trans (LightChannel.lockedBlock_of_lost lost)) rfl,
      fun near still => taken (.inr hst) (block.trans (LightChannel.lockedBlock_of_still near still)) rfl,
      fun near moved => taken (.inr hst) (block.trans (LightChannel.lockedBlock_of_moved near moved)) rfl⟩

/-- Settles O49: the samples before the saturated one are counted, and that one re-ranges or is counted like them. -/
theorem lightWindowRerange : Obligations.LightWindowRerange := by
  intro s n pre x hreset hst hpre hx c answer hcount lower
  have before : c.samples (pre ++ [x]) = (c.tookWindow pre).sample x := by
    rw [LightChannel.samples_of_partial_window [x] hst
      (fun y hy saturated => absurd saturated (ne_true_of_eq_false (hpre y hy))) hcount,
      LightChannel.samples_singleton]
  have reranged (hr : c.reranged = false) (hg : c.cal.gmin < c.gain) : c.samples (pre ++ [x]) =
      (if c.override then (c.tookWindow pre).lowered.newWindow else (c.tookWindow pre).lowered.startRanging, none) :=
    before.trans (LightChannel.sample_of_reranges (c := c.tookWindow pre) hst (Nat.zero_lt_of_lt hcount) hx hr hg)
  refine ⟨fun hr hg ho => ?_, fun hr hg ho => ?_, fun hc hgoes => ?_⟩
  · have taken := reranged hr hg
    rw [if_pos ho, LightChannel.newWindow_of_window (c := (c.tookWindow pre).lowered) hst] at taken
    exact exec_lightWindowRerange_of_window hreset hst taken
  · have taken := reranged hr hg
    rw [if_neg (ne_true_of_eq_false ho)] at taken
    exact exec_lightWindowRerange_of_window hreset hst taken
  · have counted : c.samples (pre ++ [x]) = (c.tookWindow (pre ++ [x]), none) := by
      rw [before, LightChannel.sample_of_partial_window (c := c.tookWindow pre) hst (fun _ => hc) hgoes,
        LightChannel.tookWindow_tookWindow]
    have marked : c.tookWindow (pre ++ [x]) = { c with
        sum := c.sum + darkSum c.cal.dark (pre ++ [x]), count := c.count + pre.length + 1, saturated := true } := by
      simp [LightChannel.tookWindow, hx, Nat.add_assoc]
    exact exec_lightWindowRerange_of_window hreset hst (counted.trans (congrArg (·, none) marked))

/-- Settles O50: the window's report makes the check's record, and the check, alone in JUDGING or asking its prompt, is
followed to where nothing more comes about. -/
theorem lightWindowComplete : Obligations.LightWindowComplete := by
  intro s n xs k q v hreset hst hne hcount hsat ⟨inFlight, alone, running⟩ measures c sum below saturated hq verdict ltu
    flags
  have counts : ∀ x ∈ xs, c.Counts x := fun x hx saturatedX => by
    rcases hsat with again | least | unsaturated
    · exact .inl again
    · exact .inr least
    · exact absurd saturatedX (ne_true_of_eq_false (unsaturated x hx))
  have reports : c.samples xs = (c.heldAfter xs, some (c.reportAfter xs q)) :=
    LightChannel.samples_reports hne hst counts hcount (roundHalfUp_eq hq)
  rw [exec_lightWindowComplete_of_whole hreset hst reports rfl inFlight measures]
  constructor
  · rintro ⟨-, last⟩
    rw [CheckRecord.lightReport_of_last (r := c.reportAfter xs q) verdict last]
    obtain ⟨record, ready, channels, -, operator⟩ := settle_judging_leaves
      (s := (s.setLtu ltu).setCkr _) (k := (k.withLight (c.reportAfter xs q)).withVerdict v .judging)
      ⟨rfl, alone, running⟩ rfl
    exact ⟨_, rfl, channels, ready, operator, record⟩
  · rintro p asks rfl
    rw [CheckRecord.lightReport_of_prompt (r := c.reportAfter xs q) verdict asks]
    refine ⟨_, congrArg _ (settle_of_prompting
      (k := (k.withLight (c.reportAfter xs q)).withVerdict .pass .prompting) rfl asks), ?_, prompted_of_requested rfl p⟩
    rw [promptHandover_ltu, requestClaim_ltu]
    rfl

end Sys2Proof.Certificates
end
section
/-! The bounds of the whole part (R16, R29, R120, R126, R139, R169, R171, R172, R190), operation by operation: `Keeps`
says once what an operation leaves intact, each update of a block and each operation of the model has its rule, and the
rule of a larger operation is a chain of those it is made of. Here the blocks and the bus. -/

namespace Sys2Proof.Machine

/-! ## What each block keeps -/

/-- The ring within its capacity, the summary consistent (R169, R171, R172). -/
def Vdu.Within (v : Vdu) : Prop := v.ring.length ≤ Config.ringSize ∧ v.summary.Consistent

/-- The transmit queue in order, the unacknowledged count within its limit (R120, R126). -/
def Bem.Within (m : Bem) : Prop := m.QueueOrdered ∧ m.unacked ≤ Config.unackedLimit

/-- Every gain code within its channel's range (R139). -/
def GainsWithin (v : Vector LightChannel 8) : Prop := ∀ n : Fin 8, v[n].GainInRange

/-- The station states in which orders are carried out, and no error count stands above its limit. -/
def StationState.Works (x : StationState) : Prop := x = .ready ∨ x = .running

theorem StationState.not_works_hold : ¬ StationState.hold.Works := by simp [Works]

theorem StationState.not_works_silent : ¬ StationState.silent.Works := by simp [Works]

/-- From o to x the order queue stays within its capacity, a station that does not work keeps its state or falls
SILENT, and OPERATOR_LIMIT is not cleared. -/
structure Oi.Keeps (o x : Oi) : Prop where
  room : o.queue.length ≤ Config.queueSize → x.queue.length ≤ Config.queueSize
  station : x.station = o.station ∨ x.station = .silent ∨ (o.station.Works ∧ x.station ≠ .unconfigured)
  held : o.limitHold = true → x.limitHold = true
  unqueued : x.station = .unconfigured → o.queue = [] → x.queue = []

/-- From o to x the error count is not raised, nor its limit changed. -/
structure Opu.Keeps (o x : Opu) : Prop where
  errors : x.errors ≤ o.errors
  limit : x.cfg.errorLimit = o.cfg.errorLimit

/-- No check in flight and no prompt in hand. -/
def NoCheck (s : State) : Prop := s.ckr = none ∧ s.opu.state = .idle

/-- What an operation that neither raises the error count nor touches its limit keeps from a state b to a state s of the
same step: each bound that b has, and what ErrorsHeld turns on. -/
structure Keeps (b s : State) : Prop where
  oi : b.oi.Keeps s.oi
  opu : b.opu.Keeps s.opu
  replies : b.rli.replies.length ≤ Config.replySize → s.rli.replies.length ≤ Config.replySize
  verdicts : b.vdu.Within → s.vdu.Within
  bus : b.bem.Within → s.bem.Within
  gains : GainsWithin b.ltu → GainsWithin s.ltu
  noCheck : s.oi.station = .unconfigured → NoCheck b → NoCheck s

theorem Oi.Keeps.of_unconfigured {o x : Oi} (h : o.Keeps x) (hx : x.station = .unconfigured) :
    o.station = .unconfigured := by
  rcases h.station with same | silent | ⟨-, other⟩
  · exact same.symm.trans hx
  · exact nomatch silent.symm.trans hx
  · exact absurd hx other

protected theorem Oi.Keeps.trans {o x y : Oi} (h : o.Keeps x) (h' : x.Keeps y) : o.Keeps y where
  room := h'.room ∘ h.room
  station := by
    rcases h'.station with same | silent | ⟨works, other⟩
    · exact same ▸ h.station
    · exact .inr (.inl silent)
    · rcases h.station with same | silent | ⟨worked, -⟩
      · exact .inr (.inr ⟨same ▸ works, other⟩)
      · exact absurd (silent ▸ works) StationState.not_works_silent
      · exact .inr (.inr ⟨worked, other⟩)
  held := h'.held ∘ h.held
  unqueued := fun hy ho => h'.unqueued hy (h.unqueued (h'.of_unconfigured hy) ho)

/-- The station and its queue are left, and OPERATOR_LIMIT stays if it is set. -/
theorem Oi.Keeps.of_same {o x : Oi} (hq : x.queue = o.queue) (hs : x.station = o.station)
    (hl : o.limitHold = true → x.limitHold = true) : o.Keeps x :=
  ⟨fun h => hq ▸ h, .inl hs, hl, fun _ h => hq.trans h⟩

protected theorem Oi.Keeps.emptied (o : Oi) (presence : Option Nat) :
    o.Keeps { o with queue := [], presence := presence } :=
  ⟨fun _ => Nat.zero_le _, .inl rfl, id, fun _ _ => rfl⟩

/-- A working station may take any state but UNCONFIGURED. -/
theorem Oi.Keeps.of_works {o x : Oi} (h : o.station.Works) (hx : x.station ≠ .unconfigured)
    (hq : x.queue.length ≤ o.queue.length) (hl : o.limitHold = true → x.limitHold = true) : o.Keeps x :=
  ⟨hq.trans, .inr (.inr ⟨h, hx⟩), hl, fun hu => absurd hu hx⟩

protected theorem Keeps.refl (s : State) : Keeps s s :=
  ⟨.of_same rfl rfl id, ⟨le_rfl, rfl⟩, id, id, id, id, fun _ h => h⟩

/-! ## Updates of one block -/

variable {b s : State}

protected theorem Keeps.setResetHeld (h : Keeps b s) (x : Bool) : Keeps b (s.setResetHeld x) := { h with }
protected theorem Keeps.setClu (h : Keeps b s) (x : Clu) : Keeps b (s.setClu x) := { h with }
protected theorem Keeps.setSpu (h : Keeps b s) (x : Spu) : Keeps b (s.setSpu x) := { h with }
protected theorem Keeps.setCsu (h : Keeps b s) (x : Csu) : Keeps b (s.setCsu x) := { h with }
protected theorem Keeps.setChoices (h : Keeps b s) (x : Nat) : Keeps b (s.setChoices x) := { h with }
protected theorem Keeps.setClock (h : Keeps b s) (x : Nat) : Keeps b (s.setClock x) := { h with }
protected theorem Keeps.setArrived (h : Keeps b s) (x : List Instr) : Keeps b (s.setArrived x) := { h with }
protected theorem Keeps.setTaken (h : Keeps b s) (x : Bool) : Keeps b (s.setTaken x) := { h with }
protected theorem Keeps.setPending (h : Keeps b s) (x : List Instr) : Keeps b (s.setPending x) := { h with }

protected theorem Keeps.setRli (h : Keeps b s) (x : Rli)
    (hx : s.rli.replies.length ≤ Config.replySize → x.replies.length ≤ Config.replySize) : Keeps b (s.setRli x) :=
  { h with replies := hx ∘ h.replies }

protected theorem Keeps.setVdu (h : Keeps b s) (x : Vdu) (hx : s.vdu.Within → x.Within) : Keeps b (s.setVdu x) :=
  { h with verdicts := hx ∘ h.verdicts }

protected theorem Keeps.setBem (h : Keeps b s) (x : Bem) (hx : s.bem.Within → x.Within) : Keeps b (s.setBem x) :=
  { h with bus := hx ∘ h.bus }

protected theorem Keeps.setLtu (h : Keeps b s) (x : Vector LightChannel 8) (hx : GainsWithin s.ltu → GainsWithin x) :
    Keeps b (s.setLtu x) :=
  { h with gains := hx ∘ h.gains }

protected theorem Keeps.setOi (h : Keeps b s) (x : Oi) (hx : s.oi.Keeps x) : Keeps b (s.setOi x) :=
  { h with oi := h.oi.trans hx, noCheck := fun hu => h.noCheck (hx.of_unconfigured hu) }

protected theorem Keeps.setOpu (h : Keeps b s) (x : Opu) (hx : s.opu.Keeps x)
    (idle : s.ckr = none → s.opu.state = .idle → x.state = .idle) : Keeps b (s.setOpu x) :=
  { h with
    opu := ⟨hx.errors.trans h.opu.errors, hx.limit.trans h.opu.limit⟩
    noCheck := fun hu hb => ⟨(h.noCheck hu hb).1, idle (h.noCheck hu hb).1 (h.noCheck hu hb).2⟩ }

protected theorem Keeps.setCkr (h : Keeps b s) (x : Option CheckRecord)
    (hx : s.oi.station = .unconfigured → s.ckr = none → x = none) : Keeps b (s.setCkr x) :=
  { h with noCheck := fun hu hb => ⟨hx hu (h.noCheck hu hb).1, (h.noCheck hu hb).2⟩ }

/-- The record of a check in flight may be replaced by any. -/
theorem Keeps.setRecord (h : Keeps b s) {c : CheckRecord} (hc : s.ckr = some c) (x : Option CheckRecord) :
    Keeps b (s.setCkr x) :=
  h.setCkr x fun _ hn => nomatch hc.symm.trans hn

protected theorem Keeps.updateCheck (h : Keeps b s) (f : CheckRecord → CheckRecord) : Keeps b (updateCheck f s) :=
  h.setCkr _ fun _ hn => congrArg (Option.map f) hn

/-- A choice keeps what both of its branches keep. -/
protected theorem Keeps.ite {p : Prop} [Decidable p] {t u : State} (ht : Keeps b t) (hu : Keeps b u) :
    Keeps b (if p then t else u) := by
  split
  · exact ht
  · exact hu

protected theorem Keeps.foldl (h : Keeps b s) {α : Type} {g : State → α → State}
    (hg : ∀ t a, Keeps b t → Keeps b (g t a)) {l : List α} : Keeps b (l.foldl g s) :=
  List.foldlRecOn l g h fun t ht a _ => hg t a ht

/-! ## The transmit queue and the message table (R116 to R127) -/

theorem TxInstance.before_trans {x y z : TxInstance} (h : x.before y = true) (h' : y.before z = true) :
    x.before z = true := by
  simp only [TxInstance.before, Bool.or_eq_true, Bool.and_eq_true, decide_eq_true_eq, beq_iff_eq] at *
  omega

theorem TxInstance.before_of_not {x y : TxInstance} (h : ¬ x.before y = true) (hne : y.slot ≠ x.slot) :
    y.before x = true := by
  simp only [TxInstance.before, Bool.or_eq_true, Bool.and_eq_true, decide_eq_true_eq, beq_iff_eq] at *
  omega

/-- A snapshot of a slot that has none in the queue keeps the order there (R120). -/
theorem insertInstance_ordered {x : TxInstance} : ∀ {q : List TxInstance},
    q.Pairwise (fun x y => x.before y = true ∧ x.slot ≠ y.slot) → (∀ y ∈ q, y.slot ≠ x.slot) →
    (insertInstance x q).Pairwise fun x y => x.before y = true ∧ x.slot ≠ y.slot
  | [], _, _ => List.pairwise_singleton _ _
  | y :: ys, hq, hne => by
    obtain ⟨hy, hys⟩ := List.pairwise_cons.mp hq
    obtain ⟨other, others⟩ := List.forall_mem_cons.mp hne
    rw [insertInstance]
    split
    · rename_i first
      refine List.pairwise_cons.mpr ⟨fun z hz => ⟨?_, (hne z hz).symm⟩, hq⟩
      rcases List.mem_cons.mp hz with rfl | later
      · exact first
      · exact TxInstance.before_trans first (hy z later).1
    · rename_i later
      refine List.pairwise_cons.mpr ⟨fun z hz => ?_, insertInstance_ordered hys others⟩
      rcases mem_insertInstance.mp hz with rfl | old
      · exact ⟨TxInstance.before_of_not later other, other⟩
      · exact hy z old

theorem Bem.Within.emptied {m : Bem} (h : m.Within) (slots : Vector MessageSlot 24) :
    { m with queue := [], slots := slots }.Within := ⟨.nil, h.2⟩

theorem Bem.Within.filtered {m : Bem} (h : m.Within) (p : TxInstance → Bool) :
    { m with queue := m.queue.filter p }.Within := ⟨h.1.filter p, h.2⟩

protected theorem Keeps.setSlot (h : Keeps b s) (n : Nat) (m : MessageSlot) : Keeps b (setSlot n m s) := h.setBem _ id

protected theorem Keeps.setLate (h : Keeps b s) (n : Nat) (late : Bool) : Keeps b (setLate n late s) := h.setSlot _ _

protected theorem Keeps.reportBusLate (h : Keeps b s) : Keeps b (reportBusLate s) := h.updateCheck _

/-- What the slot has in the queue is taken out before its new snapshot is put in. -/
protected theorem Keeps.enqueue (h : Keeps b s) (x : TxInstance) : Keeps b (enqueue x s) := by
  have placed : Keeps b (s.setBem { s.bem with
      queue := insertInstance x (s.bem.queue.filter (·.slot != x.slot)) }) :=
    h.setBem _ fun ⟨ordered, unacked⟩ =>
      ⟨insertInstance_ordered (ordered.filter _) fun y hy => by simpa using (List.mem_filter.mp hy).2, unacked⟩
  by_cases waits : waitsInQueue s x.slot = true
  · rw [enqueue_of_waits waits]
    exact (placed.setLate _ _).reportBusLate
  · rw [enqueue_of_not_waits waits]
    exact placed

protected theorem Keeps.snapshot (h : Keeps b s) (n : Nat) : Keeps b (snapshot n s) := (h.setSlot _ _).enqueue _

protected theorem Keeps.fallDue (h : Keeps b s) (n : Nat) : Keeps b (fallDue n s) :=
  .ite (h.snapshot n) h

protected theorem Keeps.eventDue (h : Keeps b s) (n : Nat) : Keeps b (eventDue n s) :=
  .ite (h.fallDue n) h

protected theorem Keeps.allEventDue (h : Keeps b s) : Keeps b (allEventDue s) := by
  unfold allEventDue
  exact h.foldl fun _ n ht => ht.eventDue n

protected theorem Keeps.zeroDue (h : Keeps b s) : Keeps b (zeroDue s) := by
  unfold zeroDue
  refine h.foldl fun t n ht => ?_
  exact .ite (ht.fallDue n) ht

protected theorem Keeps.emptyQueue (h : Keeps b s) : Keeps b (emptyQueue s) := h.setBem _ (·.emptied _)

protected theorem Keeps.clearMessages (h : Keeps b s) : Keeps b (clearMessages s) := h.setBem _ (·.emptied _)

protected theorem Keeps.stopTraffic (h : Keeps b s) : Keeps b (stopTraffic s) := h.emptyQueue.setBem _ id

protected theorem Keeps.startTraffic (h : Keeps b s) : Keeps b (startTraffic s) := by
  unfold startTraffic
  exact Keeps.zeroDue (h.setBem _ fun w => ⟨w.1, Nat.zero_le _⟩)

protected theorem Keeps.messageOn (h : Keeps b s) (n : Nat) : Keeps b (messageOn n s) :=
  .ite ((h.setSlot _ _).eventDue n) h

protected theorem Keeps.messageOff (h : Keeps b s) (n : Nat) : Keeps b (messageOff n s) :=
  .ite (.ite ((h.setSlot _ _).setBem _ (·.filtered _)) (h.setSlot _ _)) h

protected theorem Keeps.writeSlot (h : Keeps b s) (n start len : Nat) (p : Payload) :
    Keeps b (writeSlot n start len p s) :=
  .ite ((h.setSlot _ _).eventDue n) h

protected theorem Keeps.applyRestore (h : Keeps b s) (e : RestoreEntry) : Keeps b (applyRestore e s) :=
  h.writeSlot _ _ _ _

protected theorem Keeps.writeChallenge (h : Keeps b s) (code : Nat) : Keeps b (writeChallenge code s) :=
  h.writeSlot _ _ _ _

protected theorem Keeps.attemptStart (h : Keeps b s) : Keeps b (attemptStart s) := by
  unfold attemptStart
  split
  · rename_i queue
    refine h.setBem _ fun ⟨ordered, unacked⟩ => ⟨?_, unacked⟩
    rw [Bem.QueueOrdered, queue] at ordered
    exact ordered.of_cons
  · exact h

/-- A snapshot that lost arbitration returns where no newer one of its slot waits (R121). -/
protected theorem Keeps.returnLost (h : Keeps b s) (x : TxInstance) : Keeps b (returnLost x s) := by
  have free : Keeps b (s.setBem { s.bem with sending := none }) := h.setBem _ id
  unfold returnLost
  dsimp only
  split
  · exact (free.setLate _ _).reportBusLate
  · rename_i absent
    exact free.setBem _ fun ⟨ordered, unacked⟩ =>
      ⟨insertInstance_ordered ordered fun y hy same => absent (waitsInQueue_iff.mpr ⟨y, hy, same⟩), unacked⟩

protected theorem Keeps.enterBusSilent (h : Keeps b s) : Keeps b (enterBusSilent s) := h.emptyQueue.setBem _ id

protected theorem Keeps.attemptEnd (h : Keeps b s) (o : CanOutcome) : Keeps b (attemptEnd o s).1 := by
  unfold attemptEnd
  split
  · exact h
  · rename_i x _
    cases o with
    | acknowledged => exact (h.setLate _ _).setBem _ fun w => ⟨w.1, Nat.zero_le _⟩
    | notAcknowledged =>
      have counted : Keeps b ((setLate x.slot false s).setBem { (setLate x.slot false s).bem with
          sending := none, unacked := min (s.bem.unacked + 1) Config.unackedLimit }) :=
        (h.setLate _ _).setBem _ fun w => ⟨w.1, Nat.min_le_right _ _⟩
      dsimp only
      split
      · exact counted.enterBusSilent
      · exact counted
    | lostArbitration => exact h.returnLost x

protected theorem Keeps.leaveBusSilent (h : Keeps b s) : Keeps b (leaveBusSilent s) := by
  have active : Keeps b (s.setBem { s.bem with silent := false, unacked := 0 }) :=
    h.setBem _ fun w => ⟨w.1, Nat.zero_le _⟩
  unfold leaveBusSilent
  dsimp only
  exact .ite (.ite active.allEventDue active) h

protected theorem Keeps.setCapture (h : Keeps b s) (n : Nat) (c : CaptureSlot) : Keeps b (setCapture n c s) :=
  h.setBem _ id

protected theorem Keeps.clearFresh (h : Keeps b s) (n : Nat) : Keeps b (clearFresh n s) := h.setCapture _ _

protected theorem Keeps.validPair (h : Keeps b s) (v : Half) (n : Serial) : Keeps b (validPair v n s).1 := by
  have stored : Keeps b (s.setBem { s.bem with received := some (v, n), current := ⟨some v, some n⟩ }) :=
    h.setBem _ id
  unfold validPair
  dsimp only
  (repeat' split) <;> exact stored

protected theorem Keeps.captureInto (h : Keeps b s) (n : Nat) (f : CanFrame) : Keeps b (captureInto n f s).1 := by
  unfold captureInto
  dsimp only
  split
  · split
    · split
      · exact (h.setCapture _ _).validPair _ _
      · exact h.setCapture _ _
    · exact h.setCapture _ _
  · exact h

protected theorem Keeps.beginIdentity (h : Keeps b s) (v : Half) : Keeps b (beginIdentity v s) := h.setBem _ id

end Sys2Proof.Machine
end
section
/-! The rules of `Keeps` for the rack line, the claims, the prompt, the rail and the verdicts (R16, R169, R171,
R172). -/

namespace Sys2Proof.Machine

variable {b s : State}

/-! ## The reply queue (R13 to R17) -/

theorem Rli.handInReply_length_le (r : Rli) (x : Reply) (h : r.replies.length ≤ Config.replySize) :
    (r.handInReply x).replies.length ≤ Config.replySize := by
  unfold Rli.handInReply
  split
  · rename_i room
    simp only [Rli.hasRoom, Bool.and_eq_true, decide_eq_true_eq] at room
    simpa using room.2
  · exact h

theorem Rli.abandon_replies (r : Rli) : r.abandon.replies = r.replies := by
  unfold Rli.abandon
  split <;> rfl

theorem Rli.collide_replies (r : Rli) : r.collide.replies = r.replies := by
  unfold Rli.collide
  split
  · exact r.abandon_replies
  · rfl

theorem Rli.positionStart_replies (r : Rli) (position : Nat) : (r.positionStart position).replies = r.replies := by
  unfold Rli.positionStart
  dsimp only
  (repeat' split) <;> rfl

theorem Rli.sentInFull_replies (r : Rli) (tx : Tx) :
    (r.sentInFull tx).replies = r.replies ∨ (r.sentInFull tx).replies = r.replies.tail := by
  unfold Rli.sentInFull
  dsimp only
  split
  · exact .inl rfl
  · exact .inr rfl

/-- The line interface changed, its reply queue left. -/
theorem Keeps.setLine (h : Keeps b s) {x : Rli} (hx : x.replies = s.rli.replies) : Keeps b (s.setRli x) :=
  h.setRli x fun w => hx ▸ w

protected theorem Keeps.frameEnd (h : Keeps b s) (intact : Bool) : Keeps b (s.setRli (s.rli.frameEnd intact)) :=
  h.setLine rfl

protected theorem Keeps.sentInFull (h : Keeps b s) (tx : Tx) : Keeps b (s.setRli (s.rli.sentInFull tx)) :=
  h.setRli _ fun w => by
    rcases s.rli.sentInFull_replies tx with same | shorter
    · exact same ▸ w
    · rw [shorter, List.length_tail]
      exact (Nat.sub_le _ _).trans w

protected theorem Keeps.emptyBuffers (h : Keeps b s) : Keeps b (s.setRli s.rli.emptyBuffers) :=
  h.setRli _ fun _ => Nat.zero_le _

protected theorem Keeps.enterSilent (h : Keeps b s) : Keeps b (s.setRli s.rli.enterSilent) :=
  h.setRli _ fun _ => Nat.zero_le _

protected theorem Keeps.handIn (h : Keeps b s) : Keeps b (handIn s) := h.setLine (handInAnnouncement_replies _ _)

protected theorem Keeps.handInReply (h : Keeps b s) (x : Reply) : Keeps b (handInReply x s) :=
  h.setRli _ (s.rli.handInReply_length_le x)

/-! ## Claims (R50 to R65) -/

/-- What the panel shows and times may change with the prompt's state and the error count left. -/
theorem Keeps.setPanel (h : Keeps b s) {x : Opu} (hs : x.state = s.opu.state) (he : x.errors = s.opu.errors)
    (hl : x.cfg = s.opu.cfg) : Keeps b (s.setOpu x) :=
  h.setOpu x ⟨he.le, congrArg _ hl⟩ fun _ hi => hs.trans hi

protected theorem Keeps.takeFirst (h : Keeps b s) : Keeps b (takeFirst s).2 := h.setChoices _

protected theorem Keeps.givePlace (h : Keeps b s) : Keeps b (givePlace s) := by
  unfold givePlace
  split
  · exact .ite (h.setPanel rfl rfl rfl) h
  · exact h

protected theorem Keeps.takeClaim (h : Keeps b s) (q : ClaimRequest) : Keeps b (takeClaim q s) := by
  unfold takeClaim
  exact (h.setClu _).handIn.givePlace

protected theorem Keeps.deferRequest (h : Keeps b s) (q : ClaimRequest) : Keeps b (deferRequest q s) := by
  unfold deferRequest
  dsimp only
  split
  · exact h.setClu _
  · exact .ite (h.setClu _) (.ite h.takeFirst (h.takeFirst.setClu _))

protected theorem Keeps.requestClaim (h : Keeps b s) (q : ClaimRequest) : Keeps b (requestClaim q s) := by
  unfold requestClaim
  split
  · exact h.takeClaim q
  · exact h.deferRequest q

protected theorem Keeps.takeDeferred (h : Keeps b s) : Keeps b (takeDeferred s) := by
  unfold takeDeferred
  split
  · exact (h.setClu _).takeClaim _
  · exact h

protected theorem Keeps.removeClaim (h : Keeps b s) : Keeps b (removeClaim s) := by
  unfold removeClaim
  exact (h.setClu _).handIn

protected theorem Keeps.dropDeferred (h : Keeps b s) (w : Requester) (r : Resource) : Keeps b (dropDeferred w r s) := by
  unfold dropDeferred
  split
  · exact .ite (h.setClu _) h
  · exact h

protected theorem Keeps.releaseClaim (h : Keeps b s) (w : Requester) (r : Resource) : Keeps b (releaseClaim w r s) :=
  .ite (h.dropDeferred w r).removeClaim.takeDeferred (h.dropDeferred w r)

protected theorem Keeps.releaseAllOf (h : Keeps b s) (w : Requester) : Keeps b (releaseAllOf w s) := by
  unfold releaseAllOf
  have dropped := ((h.dropDeferred w .inrush).dropDeferred w .quiet).dropDeferred w .operator
  exact ((dropped.releaseClaim w _).releaseClaim w _).releaseClaim w _

protected theorem Keeps.releaseEverything (h : Keeps b s) : Keeps b (releaseEverything s) :=
  .ite (h.setClu _).handIn (h.setClu _)

protected theorem Keeps.setNoisy (h : Keeps b s) : Keeps b (setNoisy s) :=
  .ite h (h.setClu _).handIn

protected theorem Keeps.clearNoisy (h : Keeps b s) : Keeps b (clearNoisy s) :=
  .ite (h.setClu _).handIn h

protected theorem Keeps.audibleRequest (h : Keeps b s) : Keeps b (audibleRequest s).2 := by
  unfold audibleRequest
  split
  · exact h
  · split
    · exact h.setClu _
    · exact h.setNoisy

protected theorem Keeps.withdrawAudible (h : Keeps b s) : Keeps b (withdrawAudible s) := h.setClu _

protected theorem Keeps.settleNotice (h : Keeps b s) (sent : Option AnnClaim) : Keeps b (settleNotice sent s) := by
  unfold settleNotice
  split
  · exact .ite (h.setClu _) h
  · exact h

protected theorem Keeps.writePeer (h : Keeps b s) (slot : Nat) (p : PeerReport) : Keeps b (writePeer slot p s) :=
  h.setClu _

/-! ## The prompt (R180 to R188) -/

protected theorem Keeps.challengeSnapshot (h : Keeps b s) : Keeps b (challengeSnapshot s) := by
  unfold challengeSnapshot
  split
  · exact h
  · rename_i inFlight
    split
    · exact h
    · exact h.setRecord inFlight _

/-- A prompt in hand may go to any state. -/
theorem Keeps.setPrompt (h : Keeps b s) (hp : s.opu.state ≠ .idle) {x : Opu} (hx : s.opu.Keeps x) :
    Keeps b (s.setOpu x) :=
  h.setOpu x hx fun _ idle => absurd idle hp

protected theorem Keeps.challengeEntry (h : Keeps b s) (hp : s.opu.state ≠ .idle) : Keeps b (challengeEntry s) := by
  unfold challengeEntry
  refine Keeps.writeChallenge ?_ _
  exact Keeps.challengeSnapshot (h.setPrompt hp ⟨le_rfl, rfl⟩)

protected theorem Keeps.promptBegin (h : Keeps b s) : Keeps b (promptBegin s) := by
  unfold promptBegin
  split
  · rename_i p waiting _
    have inHand : s.opu.state ≠ .idle := by simp [waiting]
    have shown : Keeps b (s.setOpu { s.opu with
        shown := p.text, lamp := true, promptTimer := some (p.timeout * 1000) }) := h.setPanel rfl rfl rfl
    dsimp only
    split
    · exact shown.setPrompt inHand ⟨le_rfl, rfl⟩
    · exact shown.challengeEntry inHand
    · exact shown.challengeEntry inHand
  · exact h

protected theorem Keeps.promptHandover (h : Keeps b s) (hc : s.ckr ≠ none) (p : Prompt) :
    Keeps b (promptHandover p s) :=
  h.setOpu _ ⟨le_rfl, rfl⟩ fun hn => absurd hn hc

protected theorem Keeps.promptEnd (h : Keeps b s) : Keeps b (promptEnd s) :=
  .ite h (h.setOpu _ ⟨le_rfl, rfl⟩ fun _ _ => rfl)

protected theorem Keeps.toDone (h : Keeps b s) (hp : s.opu.state ≠ .idle) (v : Verdict) :
    Keeps b (s.setOpu (s.opu.toDone v)) :=
  h.setPrompt hp ⟨le_rfl, rfl⟩

/-! ## The rail (R94 to R109) -/

protected theorem Keeps.railTo (h : Keeps b s) (r : RailState) : Keeps b (railTo r s) :=
  .ite (h.setSpu _).stopTraffic (h.setSpu _)

protected theorem Keeps.powerUp (h : Keeps b s) (target rate : Nat) : Keeps b (powerUp target rate s) := by
  unfold powerUp
  exact (h.setSpu _).railTo _

protected theorem Keeps.rampGo (h : Keeps b s) : Keeps b (rampGo s) :=
  .ite (h.railTo _) h

protected theorem Keeps.arriveOn (h : Keeps b s) : Keeps b (arriveOn s) := by
  unfold arriveOn
  exact (h.setSpu _).railTo _

protected theorem Keeps.rampArrive (h : Keeps b s) : Keeps b (rampArrive s) := by
  unfold rampArrive
  exact (h.arriveOn.setSpu _).startTraffic

protected theorem Keeps.slewTo (h : Keeps b s) (target rate : Nat) : Keeps b (slewTo target rate s) :=
  .ite ((h.setSpu _).railTo _).arriveOn ((h.setSpu _).railTo _)

protected theorem Keeps.crankTo (h : Keeps b s) (dip dipTime rate : Nat) : Keeps b (crankTo dip dipTime rate s) :=
  (h.railTo _).setSpu _

protected theorem Keeps.crankRecovery (h : Keeps b s) : Keeps b (crankRecovery s) := h.setSpu _

protected theorem Keeps.arriveOff (h : Keeps b s) : Keeps b (arriveOff s) := (h.railTo _).setSpu _

protected theorem Keeps.beginDischarge (h : Keeps b s) : Keeps b (beginDischarge s) :=
  .ite ((h.railTo _).setSpu _).arriveOff ((h.railTo _).setSpu _)

protected theorem Keeps.cancelRetry (h : Keeps b s) : Keeps b (cancelRetry s) :=
  .ite ((h.releaseClaim _ _).setSpu _) h

protected theorem Keeps.offRequest (h : Keeps b s) : Keeps b (offRequest s) := by
  have discharged : Keeps b (beginDischarge (cancelRetry s)) := h.cancelRetry.beginDischarge
  unfold offRequest
  split
  · exact h
  · exact .ite discharged (h.railTo _)
  · exact discharged
  · exact discharged
  · exact discharged
  · exact discharged
  · exact h
  · exact discharged
  · exact h

protected theorem Keeps.powerUpCancel (h : Keeps b s) : Keeps b (powerUpCancel s) := by
  unfold powerUpCancel
  dsimp only
  split
  · exact h
  · split
    · exact h.railTo _
    · exact .ite (.ite h.takeFirst.rampArrive h.takeFirst.beginDischarge) h.beginDischarge
    · exact h

protected theorem Keeps.enterFaultOff (h : Keeps b s) : Keeps b (enterFaultOff s) := (h.railTo _).setSpu _

protected theorem Keeps.enterSafe (h : Keeps b s) : Keeps b (enterSafe s) := by
  unfold enterSafe
  exact (((h.railTo _).setSpu _).releaseClaim _ _).setSpu _

protected theorem Keeps.leaveSafe (h : Keeps b s) : Keeps b (leaveSafe s) :=
  .ite ((h.railTo _).setSpu _) h

/-! ## The verdicts (R168 to R173) -/

theorem joinRing_length_le (ring : List VerdictRecord) (r : VerdictRecord) :
    (joinRing ring r).length ≤ Config.ringSize := by
  have capacity : Config.ringSize = 16 := rfl
  unfold joinRing
  split
  · simp only [List.length_append, List.length_drop, List.length_singleton]
    omega
  · simp only [List.length_append, List.length_singleton]
    omega

theorem raise16_mono {m n : Nat} (h : m ≤ n) : raise16 m ≤ raise16 n := by
  unfold raise16
  omega

/-- An outcome marks a failing class exactly when it fails (R166, R171). -/
theorem Verdict.mark_failing (v : Verdict) : v.mark &&& failingMarks ≠ 0 ↔ v.failing = true := by
  cases v <;> decide

/-- The mask has a failing class when it had one or the new outcome fails. -/
theorem or_mark_failing (mask : BitVec 15) (v : Verdict) :
    (mask ||| v.mark) &&& failingMarks ≠ 0 ↔ mask &&& failingMarks ≠ 0 ∨ v.failing = true := by
  have marks : (mask ||| v.mark) &&& failingMarks = mask &&& failingMarks ||| v.mark &&& failingMarks := by
    ext i
    simp [Bool.and_or_distrib_right]
  rw [marks, ← v.mark_failing]
  exact (not_congr BitVec.or_eq_zero_iff).trans not_and_or

theorem Summary.empty_consistent : Summary.empty.Consistent := by
  unfold Summary.Consistent Summary.FailCounted
  decide

/-- A failing outcome raises both counts, and a passing one the judged count alone (R171, R172). -/
theorem Summary.Consistent.merge {m : Summary} (h : m.Consistent) (id : Half) (v : Verdict) :
    (m.merge id v).Consistent := by
  obtain ⟨counted, le, le_max, first⟩ := h
  have judged_le : raise16 m.judged ≤ 65535 := Nat.min_le_right _ _
  have failed_le : m.failed ≤ raise16 m.judged := by
    unfold raise16
    omega
  have mask := or_mark_failing m.mask v
  cases failing : v.failing with
  | true =>
    have raised : 1 ≤ raise16 m.failed := by
      unfold raise16
      omega
    refine ⟨?_, ?_, judged_le, ?_⟩
    · simpa [Summary.FailCounted, Summary.merge, failing, raised] using mask
    · simpa [Summary.merge, failing] using raise16_mono le
    · simp [Summary.merge, failing, raised]
  | false =>
    refine ⟨?_, ?_, judged_le, ?_⟩
    · simp only [failing, Bool.false_eq_true, or_false] at mask
      simpa [Summary.FailCounted, Summary.merge, failing] using mask.trans counted
    · simpa [Summary.merge, failing] using failed_le
    · simpa [Summary.merge, failing] using first

protected theorem Keeps.formVerdict (h : Keeps b s) (c : VerdictContent) : Keeps b (formVerdict c s) :=
  Keeps.handInReply (h.setVdu _ fun w => ⟨joinRing_length_le _ _, w.2.merge _ _⟩) _

theorem Vdu.Within.emptied {v : Vdu} (h : v.Within) : { v with summary := .empty }.Within :=
  ⟨h.1, Summary.empty_consistent⟩

protected theorem Keeps.takeSummary (h : Keeps b s) : Keeps b (takeSummary s) :=
  .ite ((h.handInReply _).setVdu _ (·.emptied)) (h.handInReply _)

protected theorem Keeps.emptySummary (h : Keeps b s) : Keeps b (emptySummary s) := h.setVdu _ (·.emptied)

end Sys2Proof.Machine
end
section
/-! The gain of a light channel stays within its range (R139, R140), sample by sample and over the table of channels. -/

namespace Sys2Proof.Machine

/-! ## One channel -/

theorem LightCal.bringGain_mem {cal : LightCal} (h : cal.gmin ≤ cal.gmax) (g : Int) :
    cal.gmin ≤ cal.bringGain g ∧ cal.bringGain g ≤ cal.gmax := by
  simp only [LightCal.bringGain, clampInt]
  omega

theorem LightChannel.GainInRange.limits {c : LightChannel} (h : c.GainInRange) : c.cal.gmin ≤ c.cal.gmax :=
  h.1.trans h.2.1

/-- A gain brought into the range is in it, whatever else of the channel changes with it. -/
theorem LightChannel.GainInRange.brought {c x : LightChannel} (h : c.GainInRange) (hcal : x.cal = c.cal) {g : Int}
    (hgain : x.gain = c.cal.bringGain g) : x.GainInRange := by
  obtain ⟨least, most⟩ := LightCal.bringGain_mem h.limits g
  rw [LightChannel.GainInRange, hcal, hgain]
  exact ⟨least, most, h.2.2⟩

/-- The range is about the calibration and the gain alone. -/
theorem LightChannel.GainInRange.of_eq {c x : LightChannel} (h : c.GainInRange) (hcal : x.cal = c.cal)
    (hgain : x.gain = c.gain) : x.GainInRange := by
  rw [LightChannel.GainInRange, hcal, hgain]
  exact h

theorem LightChannel.reset_gainInRange : LightChannel.reset.GainInRange := by
  unfold LightChannel.GainInRange
  decide

theorem LightChannel.GainInRange.handover {c : LightChannel} (h : c.GainInRange) (m : LightMeas) :
    (c.handover m).GainInRange := by
  unfold LightChannel.handover
  dsimp only
  split
  · exact h.of_eq rfl rfl
  · exact h.brought rfl rfl

theorem LightChannel.rangingBlock_cal_gain (c : LightChannel) (g mean : Nat) :
    (c.rangingBlock g mean).cal = c.cal ∧ (c.rangingBlock g mean).gain = c.gain := by
  unfold LightChannel.rangingBlock
  dsimp only
  (repeat' split) <;> exact ⟨rfl, rfl⟩

theorem LightChannel.lockedBlock_cal_gain (c : LightChannel) (g mean : Nat) :
    (c.lockedBlock g mean).cal = c.cal ∧ (c.lockedBlock g mean).gain = c.gain := by
  unfold LightChannel.lockedBlock
  dsimp only
  (repeat' split) <;> exact ⟨rfl, rfl⟩

theorem LightChannel.GainInRange.completeBlock {c : LightChannel} (h : c.GainInRange) :
    c.completeBlock.GainInRange := by
  unfold LightChannel.completeBlock
  dsimp only
  split
  · exact h.brought (LightChannel.lockedBlock_cal_gain _ _ _).1 (LightChannel.lockedBlock_cal_gain _ _ _).2
  · exact h.brought (LightChannel.rangingBlock_cal_gain _ _ _).1 (LightChannel.rangingBlock_cal_gain _ _ _).2

theorem LightChannel.GainInRange.blockSample {c : LightChannel} (h : c.GainInRange) (raw : Code) :
    (c.blockSample raw).GainInRange := by
  unfold LightChannel.blockSample
  dsimp only
  split
  · exact LightChannel.GainInRange.completeBlock (h.of_eq rfl rfl)
  · exact h.of_eq rfl rfl

theorem LightChannel.GainInRange.windowSample {c : LightChannel} (h : c.GainInRange) (raw : Code) :
    (c.windowSample raw).GainInRange := by
  unfold LightChannel.windowSample
  dsimp only
  split
  · split
    · exact h.brought rfl rfl
    · exact h.brought rfl rfl
  · exact h.of_eq rfl rfl

theorem LightChannel.GainInRange.sample {c : LightChannel} (h : c.GainInRange) (raw : Code) :
    (c.sample raw).1.GainInRange := by
  unfold LightChannel.sample
  split
  · exact h
  · exact h.blockSample raw
  · exact h.blockSample raw
  · dsimp only
    split
    · exact (h.windowSample raw).of_eq rfl rfl
    · exact h.windowSample raw

theorem LightChannel.GainInRange.samples {c : LightChannel} (h : c.GainInRange) (xs : List Code) :
    (c.samples xs).1.GainInRange := by
  induction xs generalizing c with
  | nil => exact h
  | cons x xs ih =>
    have next := h.sample x
    rw [LightChannel.samples]
    split
    · rename_i reported
      rwa [reported] at next
    · rename_i unreported
      rw [unreported] at next
      exact ih next

theorem LightChannel.GainInRange.rangeExpiry {c : LightChannel} (h : c.GainInRange) : c.rangeExpiry.1.GainInRange := by
  unfold LightChannel.rangeExpiry
  split
  · exact h.of_eq rfl rfl
  · exact h.of_eq rfl rfl
  · exact h

theorem LightChannel.GainInRange.stop {c : LightChannel} (h : c.GainInRange) : c.stop.GainInRange := by
  unfold LightChannel.stop
  split
  · exact h
  · exact h.of_eq rfl rfl

/-- An adjusted section has its start gain within its range (R140). -/
theorem LightChannel.calibrate_gainInRange (c : LightChannel) (cal : LightCal) :
    (c.calibrate (adjustLight cal)).GainInRange := by
  simp only [LightChannel.GainInRange, LightChannel.calibrate, adjustLight, clampTo]
  omega

theorem LightChannel.GainInRange.tickSamples {c : LightChannel} (h : c.GainInRange) (n : Fin 8) (is : List Nat) :
    (LightChannel.tickSamples n is c).1.GainInRange := by
  induction is generalizing c with
  | nil => exact h
  | cons i is ih =>
    rw [LightChannel.tickSamples]
    split
    · exact ih (h.sample _)
    · exact h

theorem LightChannel.GainInRange.tick {c : LightChannel} (h : c.GainInRange) (n : Fin 8) (ms : Nat) :
    (c.tick n ms).1.GainInRange := by
  refine LightChannel.GainInRange.tickSamples ?_ n _
  exact h.of_eq rfl rfl

/-! ## The table of channels -/

theorem GainsWithin.entryAt {v : Vector LightChannel 8} (h : GainsWithin v) (n : Nat) :
    (entryAt v n .reset).GainInRange := by
  by_cases hn : n < 8
  · rw [entryAt_fin v ⟨n, hn⟩]
    exact h ⟨n, hn⟩
  · rw [Machine.entryAt, List.getD_eq_default _ _ (by simpa using hn)]
    exact LightChannel.reset_gainInRange

theorem GainsWithin.setEntry {v : Vector LightChannel 8} (h : GainsWithin v) (n : Nat) {c : LightChannel}
    (hc : c.GainInRange) : GainsWithin (setEntry v n c) := fun j => by
  rw [getElem_setEntry]
  split
  · exact hc
  · exact h j

/-- What each step of a fold keeps of the first of a pair, the fold keeps of it. -/
theorem foldl_fst_keeps {α β γ : Type} (P : β → Prop) {g : β × γ → α → β × γ} (hg : ∀ p a, P p.1 → P (g p a).1)
    (l : List α) {p : β × γ} (hp : P p.1) : P (l.foldl g p).1 := by
  induction l generalizing p with
  | nil => exact hp
  | cons a l ih => exact ih (hg p a hp)

theorem GainsWithin.tickLtu {v : Vector LightChannel 8} (h : GainsWithin v) (ms : Nat) :
    GainsWithin (tickLtu v ms).1 := by
  unfold Machine.tickLtu
  refine foldl_fst_keeps GainsWithin (fun p n hp => ?_) _ ?_
  · exact hp.setEntry n ((hp.entryAt n).tick n ms)
  · exact h

variable {b s : State}

/-- A channel changed to one that is within its range. -/
protected theorem Keeps.updateChannel (h : Keeps b s) (n : Nat) {f : LightChannel → LightChannel}
    (hf : ∀ c, c.GainInRange → (f c).GainInRange) : Keeps b (updateChannel n f s) :=
  h.setLtu _ fun w => w.setEntry n (hf _ (w.entryAt n))

/-- A channel replaced by what has become of it. -/
theorem Keeps.replaceChannel (h : Keeps b s) (n : Nat) {x : LightChannel}
    (hx : (channelAt s n).GainInRange → x.GainInRange) : Keeps b (updateChannel n (fun _ => x) s) :=
  h.setLtu _ fun w => w.setEntry n (hx (w.entryAt n))

end Sys2Proof.Machine
end
section
/-! The rules of `Keeps` for the Check Runner and the Order Intake (chapters 2 and 4): the end of a check, flushes and
holds, the answers that reach a check, and what comes about by itself. -/

namespace Sys2Proof.Machine

variable {b s : State}

/-! ## The end of a check (R84 to R87) -/

protected theorem Keeps.dropArrived (h : Keeps b s) (p : Instr → Bool) : Keeps b (dropArrived p s) := h.setArrived _

protected theorem Keeps.stopWindow (h : Keeps b s) : Keeps b (stopWindow s) := (h.setCsu _).dropArrived _

protected theorem Keeps.stopMeasurement (h : Keeps b s) (m : Measurement) : Keeps b (stopMeasurement m s) := by
  cases m with
  | light l => exact (h.updateChannel _ fun _ hc => hc.stop).dropArrived _
  | current _ => exact h.stopWindow
  | sound _ _ _ => exact h.stopWindow
  | busfield _ => exact h

protected theorem Keeps.stopWork (h : Keeps b s) (c : CheckRecord) : Keeps b (stopWork c s) := by
  have stopped : Keeps b (match c.stage, c.order.meas with
      | .measuring, some m => stopMeasurement m (powerUpCancel s)
      | _, _ => powerUpCancel s) := by
    split
    · exact h.powerUpCancel.stopMeasurement _
    · exact h.powerUpCancel
  unfold stopWork
  dsimp only
  exact .ite stopped.promptEnd stopped

protected theorem Keeps.applyRestores (h : Keeps b s) (c : CheckRecord) : Keeps b (applyRestores c s) := by
  unfold applyRestores
  refine Keeps.foldl ?_ fun _ e ht => ht.applyRestore e
  split
  · exact h.applyRestore _
  · exact h

protected theorem Keeps.endCheck (h : Keeps b s) (v : Option VerdictContent) : Keeps b (endCheck v s) := by
  unfold endCheck
  split
  · exact h
  · rename_i c _
    have released : Keeps b (clearNoisy (releaseAllOf .ckr (withdrawAudible (applyRestores c (stopWork c s))))) :=
      (((h.stopWork c).applyRestores c).withdrawAudible.releaseAllOf _).clearNoisy
    cases v with
    | none => exact released.setCkr none fun _ _ => rfl
    | some x => exact (released.formVerdict x).setCkr none fun _ _ => rfl

protected theorem Keeps.terminate (h : Keeps b s) (v : Verdict) (mark : VerdictFlags → VerdictFlags) :
    Keeps b (terminate v mark s) := by
  unfold terminate
  split
  · exact h
  · exact h.endCheck _

protected theorem Keeps.finishJudged (h : Keeps b s) : Keeps b (finishJudged s) := by
  unfold finishJudged
  split
  · exact h
  · exact .ite (h.endCheck _) h

/-! ## The queue, the station and holds (R20 to R22, R29, R34) -/

protected theorem Keeps.formAll (h : Keeps b s) (xs : List VerdictContent) : Keeps b (formAll xs s) := by
  unfold formAll
  exact h.foldl fun _ x ht => ht.formVerdict x

protected theorem Keeps.flushQueue (h : Keeps b s) (lineLost : Bool) : Keeps b (flushQueue lineLost s) := by
  have emptied : Keeps b (s.setOi { s.oi with queue := [] }) := h.setOi _ (.emptied _ _)
  unfold flushQueue
  dsimp only
  have before := (emptied.setChoices (s.choices + 1)).formAll
  exact .ite (.ite (((before _).takeSummary.setTaken _).formAll _) (before _)) (emptied.formAll _)

protected theorem Keeps.stationIdle (h : Keeps b s) : Keeps b (stationIdle s) := by
  unfold stationIdle
  split
  · rename_i running
    exact h.setOi _ (.of_works (.inr running.1) nofun le_rfl id)
  · exact h

theorem Oi.keeps_setCause (o : Oi) (c : HoldCause) : o.Keeps (o.setCause c) := by
  cases c with
  | operatorLimit => exact .of_same rfl rfl fun _ => rfl
  | supplySafe => exact .of_same rfl rfl id

protected theorem Keeps.enterHold (h : Keeps b s) (hw : s.oi.station.Works) (c : HoldCause) :
    Keeps b (raiseHold.enter c s) := by
  have held : s.oi.Keeps { s.oi.setCause c with station := .hold } :=
    .of_works hw nofun (by cases c <;> rfl) (s.oi.keeps_setCause c).held
  unfold raiseHold.enter
  exact (((h.setOi _ held).terminate _ _).flushQueue _).offRequest.clearMessages

protected theorem Keeps.raiseHold (h : Keeps b s) (c : HoldCause) : Keeps b (raiseHold c s) := by
  unfold raiseHold
  split
  · rename_i ready
    exact h.enterHold (.inl ready) c
  · rename_i running
    exact h.enterHold (.inr running) c
  · exact h.setOi _ (s.oi.keeps_setCause c)
  · exact h
  · exact h

protected theorem Keeps.endDut (h : Keeps b s) (lineLost : Bool) : Keeps b (endDut lineLost s) := by
  unfold endDut
  exact ((h.terminate _ _).flushQueue _).stationIdle.offRequest.clearMessages

/-! ## Reports and answers (R55, R60, R63, R72 to R82, R96, R107) -/

protected theorem Keeps.reportOn (h : Keeps b s) (isPowerUp : Bool) : Keeps b (reportOn isPowerUp s) := by
  unfold reportOn
  split
  · rename_i inFlight
    exact .ite (h.setRecord inFlight _) h
  · exact h

protected theorem Keeps.reportOff (h : Keeps b s) : Keeps b (reportOff s) := by
  unfold reportOff
  split
  · rename_i inFlight
    exact .ite (h.setRecord inFlight _) h
  · exact h

protected theorem Keeps.rampDone (h : Keeps b s) : Keeps b (rampDone s) := by
  unfold rampDone
  dsimp only
  exact .ite ((h.rampArrive.releaseClaim _ _).setSpu _) (h.rampArrive.reportOn _)

protected theorem Keeps.goAhead (h : Keeps b s) : Keeps b (goAhead s) := by
  unfold goAhead
  dsimp only
  exact .ite (.ite h.rampGo.rampDone h.rampGo) h

protected theorem Keeps.tellGranted (h : Keeps b s) (r : Resource) (who : Requester) :
    Keeps b (tellGranted r who s) := by
  unfold tellGranted
  split
  · exact .ite h.goAhead h
  · split
    · exact h
    · rename_i inFlight
      split
      · split
        · exact (h.setRecord inFlight _).goAhead
        · exact h.setRecord inFlight _
        · exact (h.setRecord inFlight _).promptBegin
      · exact h

protected theorem Keeps.grantClaim (h : Keeps b s) (c : OwnClaim) : Keeps b (grantClaim c s) := by
  unfold grantClaim
  exact ((h.setClu _).tellGranted _ _).handIn

protected theorem Keeps.evaluateClaim (h : Keeps b s) : Keeps b (evaluateClaim s) := by
  unfold evaluateClaim
  split
  · exact .ite (h.grantClaim _) h
  · exact h

protected theorem Keeps.retryToSafe (h : Keeps b s) : Keeps b (retryToSafe s) := h.enterSafe.raiseHold _

protected theorem Keeps.tellBusy (h : Keeps b s) (r : Resource) (who : Requester) : Keeps b (tellBusy r who s) := by
  unfold tellBusy
  split
  · exact .ite h.retryToSafe h
  · split
    · exact h
    · rename_i inFlight
      exact .ite (.ite (h.setRecord inFlight _).promptEnd (h.terminate _ _)) h

protected theorem Keeps.withdrawClaim (h : Keeps b s) : Keeps b (withdrawClaim s) := by
  unfold withdrawClaim
  split
  · exact .ite h (h.removeClaim.tellBusy _ _).takeDeferred
  · exact h

protected theorem Keeps.applyWrite (h : Keeps b s) (w : FieldWrite) : Keeps b (applyWrite w s) := by
  unfold applyWrite
  exact (h.updateCheck _).writeSlot _ _ _ _

protected theorem Keeps.audibleCleared (h : Keeps b s) : Keeps b (audibleCleared s) := by
  unfold audibleCleared
  split
  · split
    · exact h.applyWrite _
    · exact h
  · exact h

protected theorem Keeps.reexamineAudible (h : Keeps b s) : Keeps b (reexamineAudible s) :=
  .ite (h.setClu _).setNoisy.audibleCleared h

protected theorem Keeps.reportMeasurement (h : Keeps b s) (f : CheckRecord → CheckRecord) :
    Keeps b (reportMeasurement f s) := h.updateCheck _

protected theorem Keeps.soundReport (h : Keeps b s) (tones peak : Nat) : Keeps b (soundReport tones peak s) := by
  unfold soundReport
  exact (h.releaseClaim _ _).reportMeasurement _

protected theorem Keeps.noisyNotice (h : Keeps b s) : Keeps b (noisyNotice s) := by
  unfold noisyNotice
  dsimp only
  split
  · split
    · exact h.setCsu _
    · exact (h.setCsu _).updateCheck _
    · exact (((h.setCsu _).dropArrived _).releaseClaim _ _).reportMeasurement _
  · exact h

protected theorem Keeps.promptResult (h : Keeps b s) (r : Verdict × Option Nat) : Keeps b (promptResult r s) := by
  unfold promptResult
  split
  · rename_i inFlight
    exact .ite ((h.releaseClaim _ _).setRecord ((releaseClaim_ckr _ _ _).trans inFlight) _) h
  · exact h

/-! ## Actions and stages (R70 to R82) -/

protected theorem Keeps.startPowerUp (h : Keeps b s) {c : CheckRecord} (hc : s.ckr = some c) (target rate : Nat) :
    Keeps b (startPowerUp target rate c s) := by
  unfold startPowerUp
  dsimp only
  split
  · exact (((h.releaseClaim _ _).setRecord ((releaseClaim_ckr _ _ _).trans hc) _).powerUp _ _).requestClaim _
  · exact ((h.setRecord hc _).powerUp _ _).requestClaim _

protected theorem Keeps.performAction (h : Keeps b s) {c : CheckRecord} (hc : s.ckr = some c) {a : Action} {t : State}
    (ht : performAction a c s = some t) : Keeps b t := by
  have finished : Keeps b (s.setCkr (some c.finishAction)) := h.setRecord hc _
  have waiting (w : OpenRequest) : Keeps b (s.setCkr (some { c with waitsOn := w })) := h.setRecord hc _
  unfold performAction at ht
  cases a with
  | supplySet target rate =>
    dsimp only at ht
    split at ht
    · cases ht
      exact h.startPowerUp hc target rate
    · split at ht
      · cases ht
        exact .ite (((waiting _).slewTo _ _).reportOn _) ((waiting _).slewTo _ _)
      · cases ht
  | supplyOff =>
    dsimp only at ht
    split at ht
    · cases ht
      exact finished
    · cases ht
      exact .ite (waiting _).offRequest.reportOff (waiting _).offRequest
  | crank dip dipTime rate =>
    dsimp only at ht
    split at ht
    · cases ht
      exact finished
    · split at ht
      · cases ht
        exact (waiting _).crankTo _ _ _
      · cases ht
  | fieldWrite w =>
    dsimp only at ht
    split at ht
    · cases ht
      exact h.applyWrite w
    · split at ht
      · cases ht
        exact (waiting _).requestClaim _
      · cases ht
        exact .ite (h.audibleRequest.applyWrite w) (h.audibleRequest.setRecord ((audibleRequest_ckr s).trans hc) _)
  | messageOn n =>
    cases ht
    exact finished.messageOn n
  | messageOff n =>
    cases ht
    exact finished.messageOff n

protected theorem Keeps.enterSettling (h : Keeps b s) {c : CheckRecord} (hc : s.ckr = some c) :
    Keeps b (enterSettling c s) := by
  unfold enterSettling
  dsimp only
  split
  · split
    · exact ((h.clearFresh _).setRecord ((clearFresh_ckr _ s).trans hc) _).requestClaim _
    · exact (h.setRecord hc _).requestClaim _
  · split
    · exact (h.clearFresh _).setRecord ((clearFresh_ckr _ s).trans hc) _
    · exact h.setRecord hc _

protected theorem Keeps.enterMeasuring (h : Keeps b s) {c : CheckRecord} (hc : s.ckr = some c) (m : Measurement) :
    Keeps b (enterMeasuring m c s) := by
  unfold enterMeasuring
  cases m with
  | light l => exact (h.setRecord hc _).updateChannel _ fun _ w => w.handover l
  | current n => exact (h.setRecord hc _).setCsu _
  | sound n t hy => exact (h.setRecord hc _).setCsu _
  | busfield f =>
    dsimp only
    split
    · exact h.setRecord hc _
    · exact h.setRecord hc _

protected theorem Keeps.leaveSettling (h : Keeps b s) {c : CheckRecord} (hc : s.ckr = some c) :
    Keeps b (leaveSettling c s) := by
  unfold leaveSettling
  split
  · exact h.enterMeasuring hc _
  · split
    · exact h.setRecord hc _
    · exact h.setRecord hc _

protected theorem Keeps.enterPrompting (h : Keeps b s) {c : CheckRecord} (hc : s.ckr = some c) (p : Prompt) :
    Keeps b (enterPrompting p c s) := by
  unfold enterPrompting
  exact ((h.setRecord hc _).requestClaim _).promptHandover (by simp) p

/-- A check is started in a working station, which is then not UNCONFIGURED. -/
protected theorem Keeps.startCheck (h : Keeps b s) {o : OrderRec} {rest : List OrderRec} (hq : s.oi.queue = o :: rest)
    (hm : mayStart s = true) : Keeps b (startCheck o rest s) := by
  simp only [mayStart, Bool.and_eq_true, Bool.or_eq_true, beq_iff_eq] at hm
  obtain ⟨⟨works, -⟩, -⟩ := hm
  have started : s.oi.Keeps { s.oi with queue := rest, station := .running } :=
    .of_works works nofun (by simp [hq]) id
  exact (h.setOi _ started).setCkr _ nofun

/-- The next thing that comes about by itself keeps the bounds. -/
protected theorem Keeps.micro (h : Keeps b s) {t : State} (ht : micro s = some t) : Keeps b t := by
  unfold Machine.micro at ht
  split at ht
  · rename_i c inFlight
    split at ht
    · split at ht
      · split at ht
        · cases ht
          exact h.enterSettling inFlight
        · exact h.performAction inFlight ht
      · cases ht
    · split at ht
      · cases ht
        exact h.leaveSettling inFlight
      · cases ht
    · cases ht
    · split at ht
      · cases ht
        exact h.enterPrompting inFlight _
      · cases ht
    · cases ht
      exact h.finishJudged
  · split at ht
    · rename_i queued
      split at ht
      · rename_i may
        cases ht
        exact h.startCheck queued may
      · split at ht
        · cases ht
          exact h.stationIdle
        · cases ht
    · split at ht
      · cases ht
        exact h.stationIdle
      · cases ht

protected theorem Keeps.runOn (n : Nat) (h : Keeps b s) : Keeps b (runOn n s) := by
  induction n generalizing s with
  | zero => exact h
  | succ n ih =>
    rw [Machine.runOn]
    split
    · exact h
    · rename_i next
      exact ih (h.micro next)

protected theorem Keeps.settle (h : Keeps b s) : Keeps b (settle s) := h.runOn 100

/-! ## SILENT and RESTART (R17, R19, R23, R32) -/

protected theorem Keeps.goSilent (h : Keeps b s) : Keeps b (goSilent s) := by
  unfold goSilent
  dsimp only
  split
  · exact h
  · have silent : Keeps b ((s.setRli s.rli.enterSilent).setOi { s.oi with station := .silent }) :=
      h.enterSilent.setOi _ ⟨id, .inr (.inl rfl), id, nofun⟩
    have unqueued := (silent.endCheck none).setOi _ (.emptied _ none)
    exact (unqueued.offRequest.clearMessages.releaseEverything.promptEnd.setClu _).setPanel rfl rfl rfl

protected theorem Keeps.restart (h : Keeps b s) : Keeps b (restart s) := by
  unfold restart
  exact ((h.terminate _ _).flushQueue _).stationIdle.offRequest.clearMessages.releaseEverything.promptEnd

end Sys2Proof.Machine
end
section
/-! What `Keeps` carries of the bounds, and its rules for the commands of each block (chapters 1 to 9). -/

namespace Sys2Proof.Machine

variable {b s t : State}

/-! ## From `Keeps` to the bounds -/

/-- The bounds but those on the error count. -/
structure InBounds (s : State) : Prop where
  room : s.oi.queue.length ≤ Config.queueSize
  replies : s.rli.replies.length ≤ Config.replySize
  verdicts : s.vdu.Within
  bus : s.bem.Within
  gains : GainsWithin s.ltu

theorem bounded_iff : Bounded s ↔ InBounds s ∧ s.opu.CountBounded ∧ ErrorsHeld s := by
  constructor
  · rintro ⟨⟨room, replies, ring⟩, summary, count, order, unacked, gains, held⟩
    exact ⟨⟨room, replies, ⟨ring, summary⟩, ⟨order, unacked⟩, gains⟩, count, held⟩
  · rintro ⟨⟨room, replies, ⟨ring, summary⟩, ⟨order, unacked⟩, gains⟩, count, held⟩
    exact ⟨⟨room, replies, ring⟩, summary, count, order, unacked, gains, held⟩

theorem InBounds.keep (h : InBounds b) (k : Keeps b s) : InBounds s :=
  ⟨k.oi.room h.room, k.replies h.replies, k.verdicts h.verdicts, k.bus h.bus, k.gains h.gains⟩

/-- A working station's error count is within its limit, so that the station may leave its state; every other keeps it
or is SILENT. -/
theorem ErrorsHeld.keep (h : ErrorsHeld b) (k : Keeps b s) : ErrorsHeld s := by
  obtain ⟨held, unconfigured⟩ := h
  constructor
  · intro exceeds
    have exceeded : b.opu.cfg.errorLimit < b.opu.errors := k.opu.limit ▸ exceeds.trans_le k.opu.errors
    rcases k.oi.station with same | silent | ⟨works, -⟩
    · rw [same]
      exact (held exceeded).imp_left fun ⟨hold, limit⟩ => ⟨hold, k.oi.held limit⟩
    · exact .inr silent
    · rcases held exceeded with ⟨hold, -⟩ | silent
      · exact absurd (hold ▸ works) StationState.not_works_hold
      · exact absurd (silent ▸ works) StationState.not_works_silent
  · intro now
    obtain ⟨unchecked, unqueued, idle, noErrors⟩ := unconfigured (k.oi.of_unconfigured now)
    obtain ⟨unchecked', idle'⟩ := k.noCheck now ⟨unchecked, idle⟩
    exact ⟨unchecked', k.oi.unqueued now unqueued, idle', Nat.le_zero.mp (noErrors ▸ k.opu.errors)⟩

theorem Bounded.keep (h : Bounded b) (k : Keeps b s) : Bounded s := by
  obtain ⟨inBounds, count, held⟩ := bounded_iff.mp h
  exact bounded_iff.mpr ⟨inBounds.keep k, k.opu.errors.trans count, held.keep k⟩

theorem keeps_of_act {f : State → State} (ht : act s f = .next t) (hf : Keeps s (f s)) : Keeps s t := by
  unfold act at ht
  cases ht
  exact .ite (.refl s) hf

theorem bounded_of_act {f : State → State} (ht : act s f = .next t) (h : Bounded s) (hf : Bounded (f s)) :
    Bounded t := by
  unfold act at ht
  cases ht
  split
  · exact h
  · exact hf

/-! ## The rack line's own commands (chapter 1) -/

theorem execLineDominant_keeps (ht : execLineDominant s = .next t) : Keeps s t := by
  refine keeps_of_act ht ?_
  split
  · exact .refl s
  · exact .refl s
  · exact (Keeps.refl s).setLine rfl

theorem Keeps.setContention (h : Keeps b s) (c : Contention) : Keeps b (setContention c s) := h.setLine rfl

theorem execSyncIdleEnd_keeps (ht : execSyncIdleEnd s = .next t) : Keeps s t :=
  keeps_of_act ht (.ite ((Keeps.refl s).setContention _) (.refl s))

theorem execIdleGapEnd_keeps (ht : execIdleGapEnd s = .next t) : Keeps s t :=
  keeps_of_act ht (.ite ((Keeps.refl s).setContention _) (.refl s))

theorem execPositionStart_keeps {position : Fin 34} (ht : execPositionStart position s = .next t) : Keeps s t :=
  keeps_of_act ht ((Keeps.refl s).setLine (s.rli.positionStart_replies position))

theorem execWindowEnd_keeps (ht : execWindowEnd s = .next t) : Keeps s t := by
  refine keeps_of_act ht ?_
  split
  · exact (Keeps.refl s).setLine rfl
  · exact .refl s

theorem execReadbackDifference_keeps (ht : execReadbackDifference s = .next t) : Keeps s t := by
  have collided : Keeps s (s.setRli s.rli.collide) := (Keeps.refl s).setLine s.rli.collide_replies
  refine keeps_of_act ht ?_
  dsimp only
  exact .ite (.ite collided.goSilent collided) (.refl s)

theorem execFrameSentInFull_keeps (ht : execFrameSentInFull s = .next t) : Keeps s t := by
  refine keeps_of_act ht ?_
  split
  · rename_i tx _
    dsimp only
    split
    · exact ((Keeps.refl s).sentInFull tx).settleNotice _
    · exact (Keeps.refl s).sentInFull tx
  · exact .refl s

theorem execFrameDiscarded_keeps {frame : RxFrame} (ht : execFrameDiscarded frame s = .next t) : Keeps s t :=
  keeps_of_act ht (.ite (.refl s) (.ite ((Keeps.refl s).frameEnd _) (.refl s)))

theorem execOwnSlotFrame_keeps {frame : RxFrame} (ht : execOwnSlotFrame frame s = .next t) : Keeps s t := by
  refine keeps_of_act ht ?_
  split
  · exact .refl s
  · split
    · exact ((Keeps.refl s).frameEnd _).goSilent
    · exact (Keeps.refl s).frameEnd _
    · exact .refl s

theorem execAbandonedRemainderEnd_keeps {frame : RxFrame} (ht : execAbandonedRemainderEnd frame s = .next t) :
    Keeps s t := by
  refine keeps_of_act ht ?_
  split
  · exact .refl s
  · split
    · exact (Keeps.refl s).frameEnd _
    · exact (Keeps.refl s).frameEnd _

/-! ## A received frame -/

/-- A frame's end leaves the state, ends the frame alone, or delivers it: what each of these gives, the end gives. -/
theorem frameEvent_induction {α : Type} {P : State → Prop} {f : RxFrame} {pick : Received → Option α}
    {deliver : α → State → State} (left : P s) (ended : ∀ intact, P (s.setRli (s.rli.frameEnd intact)))
    (delivered : ∀ a u, P u → P (deliver a u)) : P (frameEvent f pick deliver s) := by
  unfold frameEvent
  split
  · exact left
  · split
    · exact ended _
    · split
      · exact left
      · exact delivered _ _ (ended true)

protected theorem Keeps.frameEvent (h : Keeps b s) {α : Type} {f : RxFrame} {pick : Received → Option α}
    {deliver : α → State → State} (delivered : ∀ a u, Keeps b u → Keeps b (deliver a u)) :
    Keeps b (frameEvent f pick deliver s) :=
  frameEvent_induction h (fun _ => h.frameEnd _) delivered

protected theorem Bounded.frameEvent (h : Bounded s) {α : Type} {f : RxFrame} {pick : Received → Option α}
    {deliver : α → State → State} (delivered : ∀ a u, Bounded u → Bounded (deliver a u)) :
    Bounded (frameEvent f pick deliver s) :=
  frameEvent_induction h (fun _ => h.keep ((Keeps.refl s).frameEnd _)) delivered

protected theorem Keeps.frameTaken (h : Keeps b s) {α : Type} {f : RxFrame} {pick : Received → Option α}
    {deliver : α → State → State} (delivered : ∀ a u, Keeps b u → Keeps b (deliver a u)) :
    Keeps b (frameTaken f pick deliver s) := by
  unfold Machine.frameTaken
  split
  · exact h
  · exact delivered _ _ h

theorem execPeerReplyFrame_keeps {frame : RxFrame} (ht : execPeerReplyFrame frame s = .next t) : Keeps s t :=
  keeps_of_act ht ((Keeps.refl s).frameEvent fun _ _ hu => hu)

/-! ## Claims (chapter 3) -/

protected theorem Keeps.viewChanged (h : Keeps b s) : Keeps b (viewChanged s) := by
  unfold Machine.viewChanged
  exact h.evaluateClaim.reexamineAudible.givePlace

protected theorem Keeps.takeAnnounce (h : Keeps b s) (slot : Nat) (p : List Byte) :
    Keeps b (takeAnnounce slot p s) := by
  unfold Machine.takeAnnounce
  split
  · exact h
  · dsimp only
    split
    · exact (h.writePeer slot _).viewChanged.noisyNotice.settle
    · exact (h.writePeer slot _).viewChanged.settle

theorem execAnnounceReceived_keeps {frame : RxFrame} (ht : execAnnounceReceived frame s = .next t) : Keeps s t :=
  keeps_of_act ht ((Keeps.refl s).frameEvent fun _ _ hu => hu.takeAnnounce _ _)

theorem execAnnounceTimerExpiry_keeps (ht : execAnnounceTimerExpiry s = .next t) : Keeps s t :=
  keeps_of_act ht (.ite ((Keeps.refl s).handIn.setClu _) (.refl s))

theorem execPeerStale_keeps {slot : Fin 16} (ht : execPeerStale slot s = .next t) : Keeps s t :=
  keeps_of_act ht (.ite ((Keeps.refl s).setClu _).viewChanged.settle (.refl s))

theorem execClaimSettleExpiry_keeps (ht : execClaimSettleExpiry s = .next t) : Keeps s t := by
  refine keeps_of_act ht ?_
  split
  · split
    · exact ((Keeps.refl s).setClu _).evaluateClaim.settle
    · exact .refl s
  · exact .refl s

theorem execClaimWaitExpiry_keeps (ht : execClaimWaitExpiry s = .next t) : Keeps s t := by
  refine keeps_of_act ht ?_
  split
  · exact .ite (Keeps.refl s).withdrawClaim.settle (.refl s)
  · exact .refl s

theorem execAudibleWaitExpiry_keeps (ht : execAudibleWaitExpiry s = .next t) : Keeps s t :=
  keeps_of_act ht (.ite (.ite (((Keeps.refl s).setClu _).terminate _ _).settle ((Keeps.refl s).setClu _)) (.refl s))

/-! ## The Check Runner's timers (chapter 4) -/

theorem execInrushHoldExpiry_keeps (ht : execInrushHoldExpiry s = .next t) : Keeps s t := by
  refine keeps_of_act ht ?_
  split
  · rename_i inFlight
    exact .ite (((Keeps.refl s).setRecord inFlight _).releaseClaim _ _).settle (.refl s)
  · exact .refl s

theorem execCheckSettleExpiry_keeps (ht : execCheckSettleExpiry s = .next t) : Keeps s t := by
  refine keeps_of_act ht ?_
  split
  · rename_i inFlight
    exact .ite ((Keeps.refl s).setRecord inFlight _).settle (.refl s)
  · exact .refl s

/-! ## The rail (chapter 5) -/

theorem execRampComplete_keeps (ht : execRampComplete s = .next t) : Keeps s t :=
  keeps_of_act ht (.ite (Keeps.refl s).rampDone.settle (.refl s))

theorem execSlewComplete_keeps (ht : execSlewComplete s = .next t) : Keeps s t :=
  keeps_of_act ht (.ite ((Keeps.refl s).arriveOn.reportOn _).settle (.refl s))

theorem execCrankDipEnd_keeps (ht : execCrankDipEnd s = .next t) : Keeps s t := by
  have recovers := (Keeps.refl s).crankRecovery
  exact keeps_of_act ht (.ite (.ite (recovers.arriveOn.reportOn _).settle recovers) (.refl s))

theorem execCrankRecoveryComplete_keeps (ht : execCrankRecoveryComplete s = .next t) : Keeps s t :=
  keeps_of_act ht (.ite ((Keeps.refl s).arriveOn.reportOn _).settle (.refl s))

theorem execDischargeBelowThreshold_keeps {mv : Nat} (ht : execDischargeBelowThreshold mv s = .next t) :
    Keeps s t := by
  have read := (Keeps.refl s).setSpu { s.spu with outputMv := mv }
  exact keeps_of_act ht (.ite (.ite read.arriveOff.reportOff.settle read) (.refl s))

theorem execDischargeTimerExpiry_keeps (ht : execDischargeTimerExpiry s = .next t) : Keeps s t :=
  keeps_of_act ht (.ite (Keeps.refl s).arriveOff.reportOff.settle (.refl s))

protected theorem Keeps.supplyFault (h : Keeps b s) : Keeps b (supplyFault s) := by
  unfold Machine.supplyFault
  exact ((h.enterFaultOff.terminate _ _).releaseClaim _ _).settle

theorem execShort_keeps (ht : execShort s = .next t) : Keeps s t :=
  keeps_of_act ht (.ite (Keeps.refl s).supplyFault (.refl s))

theorem execOvercurrent_keeps (ht : execOvercurrent s = .next t) : Keeps s t :=
  keeps_of_act ht (.ite (Keeps.refl s).supplyFault (.refl s))

theorem execOvervoltage_keeps (ht : execOvervoltage s = .next t) : Keeps s t := by
  have safe := (Keeps.refl s).enterSafe
  refine keeps_of_act ht ?_
  dsimp only
  split
  · split
    · refine (Keeps.raiseHold ?_ _).settle
      exact .ite (safe.takeFirst.terminate _ _) safe.takeFirst
    · exact (safe.raiseHold _).settle
  · exact .refl s

theorem execOffTimerExpiry_keeps (ht : execOffTimerExpiry s = .next t) : Keeps s t := by
  have waited := (Keeps.refl s).setSpu { s.spu with offTimer := none }
  exact keeps_of_act ht
    (.ite (.ite (((waited.setSpu _).railTo _).requestClaim _).settle waited.retryToSafe.settle) (.refl s))

theorem execRecoveryTimerExpiry_keeps (ht : execRecoveryTimerExpiry s = .next t) : Keeps s t :=
  keeps_of_act ht (.ite ((Keeps.refl s).setSpu _) (.refl s))

/-! ## The bus (chapter 6) -/

theorem execSlotDue_keeps {slot : Fin 24} (ht : execSlotDue slot s = .next t) : Keeps s t :=
  keeps_of_act ht (.ite ((Keeps.refl s).fallDue _) (.refl s))

theorem execCanAttemptStart_keeps (ht : execCanAttemptStart s = .next t) : Keeps s t :=
  keeps_of_act ht (Keeps.refl s).attemptStart

theorem execCanAttemptEnd_keeps {o : CanOutcome} (ht : execCanAttemptEnd o s = .next t) : Keeps s t :=
  keeps_of_act ht (.ite (((Keeps.refl s).attemptEnd o).terminate _ _).settle ((Keeps.refl s).attemptEnd o))

protected theorem Keeps.identityNews (h : Keeps b s) (e : Option IdentityEvent) : Keeps b (identityNews e s) := by
  unfold Machine.identityNews
  split
  · exact h
  · exact (h.terminate _ _).flushQueue _
  · exact (h.terminate _ _).flushQueue _

protected theorem Keeps.captureAll (h : Keeps b s) (f : CanFrame) : Keeps b (captureAll f s).1 := by
  unfold Machine.captureAll
  refine foldl_fst_keeps (Keeps b) (fun p n hp => ?_) _ ?_
  · exact (hp.captureInto n f).identityNews _
  · exact h

theorem execClusterFrameReceived_keeps {f : CanFrame} (ht : execClusterFrameReceived f s = .next t) : Keeps s t := by
  have active := (Keeps.refl s).leaveBusSilent
  refine keeps_of_act ht ?_
  dsimp only
  exact .ite active (.ite (active.captureAll f).settle (active.captureAll f))

/-! ## The measurements (chapters 7 and 8) -/

protected theorem Keeps.lightSamples (h : Keeps b s) (n : Nat) (xs : List Code) : Keeps b (lightSamples n xs s) := by
  have taken : Keeps b (updateChannel n (fun _ => ((channelAt s n).samples xs).1) s) :=
    h.replaceChannel n fun hc => hc.samples xs
  have noted : Keeps b (if ((channelAt s n).samples xs).1.reranged
      then noteReranged (updateChannel n (fun _ => ((channelAt s n).samples xs).1) s)
      else updateChannel n (fun _ => ((channelAt s n).samples xs).1) s) :=
    .ite (taken.reportMeasurement _) taken
  unfold Machine.lightSamples
  dsimp only
  split
  · exact (noted.reportMeasurement _).settle
  · exact noted

theorem execLightBlockComplete_keeps {n : Fin 8} {xs : List Code} (ht : execLightBlockComplete n xs s = .next t) :
    Keeps s t :=
  keeps_of_act ht (.ite ((Keeps.refl s).lightSamples _ _) (.refl s))

theorem execLightWindowRerange_keeps {n : Fin 8} {xs : List Code} (ht : execLightWindowRerange n xs s = .next t) :
    Keeps s t :=
  keeps_of_act ht (.ite ((Keeps.refl s).lightSamples _ _) (.refl s))

theorem execLightWindowComplete_keeps {n : Fin 8} {xs : List Code} (ht : execLightWindowComplete n xs s = .next t) :
    Keeps s t :=
  keeps_of_act ht (.ite ((Keeps.refl s).lightSamples _ _) (.refl s))

protected theorem Keeps.discardBlock (h : Keeps b s) (n : Nat) : Keeps b (discardBlock s n) :=
  .ite (h.dropArrived _) h

theorem discardBlock_ltu (s : State) (n : Nat) : (discardBlock s n).ltu = s.ltu := by
  unfold discardBlock
  split <;> rfl

theorem execRangeTimerExpiry_keeps {n : Fin 8} (ht : execRangeTimerExpiry n s = .next t) : Keeps s t := by
  have expired : Keeps s (updateChannel n (fun _ => (channelAt s n).rangeExpiry.1) (discardBlock s n)) :=
    ((Keeps.refl s).discardBlock n).replaceChannel n fun hc => by
      rw [channelAt, discardBlock_ltu] at hc
      exact LightChannel.GainInRange.rangeExpiry hc
  refine keeps_of_act ht ?_
  dsimp only
  exact .ite (.ite (expired.reportMeasurement _).settle expired) (.refl s)

theorem execCurrentWindowComplete_keeps {xs : List Nat} (ht : execCurrentWindowComplete xs s = .next t) :
    Keeps s t := by
  refine keeps_of_act ht ?_
  dsimp only
  split
  · exact (((Keeps.refl s).setCsu _).reportMeasurement _).settle
  · exact (Keeps.refl s).setCsu _

theorem execSoundWindowComplete_keeps {xs : List Code} (ht : execSoundWindowComplete xs s = .next t) : Keeps s t := by
  refine keeps_of_act ht ?_
  dsimp only
  split
  · exact (((Keeps.refl s).setCsu _).soundReport _ _).settle
  · exact (Keeps.refl s).setCsu _

/-! ## The line station's frames (chapter 2) -/

protected theorem Keeps.heard (h : Keeps b s) : Keeps b (heard s) := h.setOi _ (.of_same rfl rfl id)

protected theorem Keeps.receipt (h : Keeps b s) (kind : FrameKind) (reference : Half) (code : ReceiptCode)
    (free : Nat) : Keeps b (receipt kind reference code free s) := h.handInReply _

protected theorem Keeps.answerControl (h : Keeps b s) (isBroadcast : Bool) (reference : Half) (code : ReceiptCode)
    (free : Nat) : Keeps b (answerControl isBroadcast reference code free s) :=
  .ite h (h.receipt _ _ _ _)

/-- An order is accepted where there is room and the station is configured (R24). -/
theorem orderTests_accepted {p : List Byte} {o : OrderRec} (h : (orderTests s p).2 = some o) :
    s.oi.queue.length < Config.queueSize ∧ s.oi.station ≠ .unconfigured := by
  unfold orderTests at h
  split at h
  · cases h
  · rename_i room
    split at h
    · cases h
    · split at h
      · cases h
      · split at h
        · cases h
        · split at h
          · cases h
          · split at h
            · cases h
            · rename_i configured
              exact ⟨Nat.lt_of_not_le room, configured⟩

protected theorem Keeps.takeOrder (h : Keeps b s) (p : List Byte) : Keeps b (takeOrder p s) := by
  unfold Machine.takeOrder
  dsimp only
  split
  · rename_i o accepted
    obtain ⟨room, configured⟩ := orderTests_accepted accepted
    have queued : s.oi.Keeps { s.oi with queue := s.oi.queue ++ [o] } :=
      ⟨fun _ => by simpa using room, .inl rfl, id, fun unconfigured => absurd unconfigured configured⟩
    exact ((h.setOi _ queued).receipt _ _ _ _).settle
  · exact h.receipt _ _ _ _

theorem execOrder_keeps {f : RxFrame} (ht : execOrder f s = .next t) : Keeps s t :=
  keeps_of_act ht ((Keeps.refl s).frameEvent fun _ _ hu => hu.heard.takeOrder _)

protected theorem Keeps.controlAbort (h : Keeps b s) (isBroadcast : Bool) (reference : Half) (flush : Bool)
    (target : Option Half) : Keeps b (controlAbort isBroadcast reference flush target s) := by
  have ended (free : Nat) (ends : Bool) : Keeps b (if ends then
      terminate .aborted id (answerControl isBroadcast reference .accepted free s)
      else answerControl isBroadcast reference .accepted free s) :=
    .ite ((h.answerControl _ _ _ _).terminate _ _) (h.answerControl _ _ _ _)
  unfold Machine.controlAbort
  cases flush with
  | false => exact (ended _ _).settle
  | true => exact ((ended _ _).flushQueue _).settle

theorem execControlAbort_keeps {f : RxFrame} (ht : execControlAbort f s = .next t) : Keeps s t :=
  keeps_of_act ht ((Keeps.refl s).frameEvent fun _ _ hu => hu.heard.controlAbort _ _ _ _)

protected theorem Keeps.controlRestart (h : Keeps b s) (isBroadcast : Bool) (reference : Half) :
    Keeps b (controlRestart isBroadcast reference s) := by
  unfold Machine.controlRestart
  exact (h.emptyBuffers.answerControl _ _ _ _).restart.settle

theorem execControlRestart_keeps {f : RxFrame} (ht : execControlRestart f s = .next t) : Keeps s t := by
  refine keeps_of_act ht ?_
  split
  · exact (Keeps.refl s).frameTaken fun _ _ hu => hu.heard.controlRestart _ _
  · exact (Keeps.refl s).frameEvent fun _ _ hu => hu.heard.controlRestart _ _

protected theorem Keeps.controlBeginDut (h : Keeps b s) (isBroadcast : Bool) (reference variant : Half) :
    Keeps b (controlBeginDut isBroadcast reference variant s) := by
  unfold Machine.controlBeginDut
  split
  · exact h.answerControl _ _ _ _
  · exact ((h.answerControl _ _ _ _).beginIdentity _).emptySummary

theorem execControlBeginDut_keeps {f : RxFrame} (ht : execControlBeginDut f s = .next t) : Keeps s t :=
  keeps_of_act ht ((Keeps.refl s).frameEvent fun _ _ hu => hu.heard.controlBeginDut _ _ _)

protected theorem Keeps.controlEndDut (h : Keeps b s) (isBroadcast : Bool) (reference : Half) :
    Keeps b (controlEndDut isBroadcast reference s) := by
  unfold Machine.controlEndDut
  exact ((h.answerControl _ _ _ _).endDut _).settle

theorem execControlEndDut_keeps {f : RxFrame} (ht : execControlEndDut f s = .next t) : Keeps s t :=
  keeps_of_act ht ((Keeps.refl s).frameEvent fun _ _ hu => hu.heard.controlEndDut _ _)

theorem execControlTakeSummary_keeps {f : RxFrame} (ht : execControlTakeSummary f s = .next t) : Keeps s t := by
  refine keeps_of_act ht ?_
  refine Keeps.setTaken ?_ _
  refine (Keeps.refl s).frameEvent fun _ u hu => ?_
  exact .ite hu.heard hu.heard.takeSummary

theorem execControlMalformed_keeps {f : RxFrame} (ht : execControlMalformed f s = .next t) : Keeps s t :=
  keeps_of_act ht ((Keeps.refl s).frameEvent fun _ _ hu => hu.heard.answerControl _ _ _ _)

protected theorem Keeps.answerQuery (h : Keeps b s) (p : List Byte) : Keeps b (answerQuery p s) := by
  unfold Machine.answerQuery
  split
  · exact h.receipt _ _ _ _
  · split
    · exact h.receipt _ _ _ _
    · split
      · exact h.handInReply _
      · exact h.receipt _ _ _ _

theorem execQuery_keeps {f : RxFrame} (ht : execQuery f s = .next t) : Keeps s t :=
  keeps_of_act ht ((Keeps.refl s).frameEvent fun _ _ hu => hu.heard.answerQuery _)

theorem execConfigureInvalid_keeps {f : RxFrame} (ht : execConfigureInvalid f s = .next t) : Keeps s t :=
  keeps_of_act ht ((Keeps.refl s).frameEvent fun _ _ hu => hu.heard.receipt _ _ _ _)

theorem execLinePresenceExpiry_keeps (ht : execLinePresenceExpiry s = .next t) : Keeps s t := by
  have stopped : Keeps s (s.setOi { s.oi with presence := none }) :=
    (Keeps.refl s).setOi _ (.of_same rfl rfl id)
  have lost : Keeps s (s.setOi { s.oi with presence := none, lineLost := true }) :=
    (Keeps.refl s).setOi _ (.of_same rfl rfl id)
  refine keeps_of_act ht ?_
  dsimp only
  exact .ite (.ite (lost.endDut _).settle stopped) (.refl s)

theorem execCheckStart_keeps (ht : execCheckStart s = .next t) : Keeps s t := by
  refine keeps_of_act ht ?_
  split
  · rename_i queued
    split
    · rename_i may
      exact ((Keeps.refl s).startCheck queued may).settle
    · exact .refl s
  · exact .refl s

end Sys2Proof.Machine
end
section
/-! The commands that `Keeps` does not cover, each with the whole of the bounds: the sections of a CONFIGURE,
CLEAR_HOLD, the keys and the timer that count errors, and the resets (R18, R35, R38, R39, R179, R185 to R192, R195); a
step with no command waiting; and the obligation on every step. -/

namespace Sys2Proof.Machine

variable {b s t : State}

/-! ## Configuration (R38, R39, R111, R115, R128, R140) -/

theorem canConfigure_receipt (kind : FrameKind) (reference : Half) (code : ReceiptCode) (free : Nat) (s : State) :
    canConfigure (receipt kind reference code free s) = canConfigure s := by
  simp [canConfigure, receipt]

/-- A section is taken, where it is taken, from a state in which a CONFIGURE can be accepted. -/
protected theorem Bounded.configure (h : Bounded s) (reference : Half) {takeSection : State → State}
    (taken : ∀ u, Bounded u → canConfigure u = true → Bounded (takeSection u)) :
    Bounded (configure reference takeSection s) := by
  unfold Machine.configure
  split
  · rename_i can
    exact taken _ (h.keep ((Keeps.refl s).receipt _ _ _ _)) (by rwa [canConfigure_receipt])
  · exact h.keep ((Keeps.refl s).receipt _ _ _ _)

protected theorem Bounded.heard (h : Bounded s) : Bounded (heard s) := h.keep (Keeps.refl s).heard

protected theorem Keeps.configureLight (h : Keeps b s) (channel : Nat) (c : LightCal) :
    Keeps b (configureLight channel c s) :=
  h.updateChannel channel fun x _ => x.calibrate_gainInRange c

theorem execConfigureSupply_bounded {f : RxFrame} (h : Bounded s) (ht : execConfigureSupply f s = .next t) :
    Bounded t := by
  refine bounded_of_act ht h (h.frameEvent fun _ _ hu => hu.heard.configure _ fun v hv _ => ?_)
  exact hv.keep ((Keeps.refl v).setSpu _)

theorem execConfigureLight_bounded {f : RxFrame} (h : Bounded s) (ht : execConfigureLight f s = .next t) :
    Bounded t := by
  refine bounded_of_act ht h (h.frameEvent fun _ _ hu => hu.heard.configure _ fun v hv _ => ?_)
  exact hv.keep ((Keeps.refl v).configureLight _ _)

theorem execConfigureMessage_bounded {f : RxFrame} (h : Bounded s) (ht : execConfigureMessage f s = .next t) :
    Bounded t := by
  refine bounded_of_act ht h (h.frameEvent fun _ _ hu => hu.heard.configure _ fun v hv _ => ?_)
  exact hv.keep ((Keeps.refl v).setSlot _ _)

theorem execConfigureCapture_bounded {f : RxFrame} (h : Bounded s) (ht : execConfigureCapture f s = .next t) :
    Bounded t := by
  refine bounded_of_act ht h (h.frameEvent fun _ _ hu => hu.heard.configure _ fun v hv _ => ?_)
  exact hv.keep ((Keeps.refl v).setCapture _ _)

/-- In a state that accepts a CONFIGURE the error count is within its limit. -/
theorem ErrorsHeld.le_of_canConfigure (h : ErrorsHeld s) (can : canConfigure s = true) :
    s.opu.errors ≤ s.opu.cfg.errorLimit := by
  simp only [canConfigure, Bool.and_eq_true, Bool.or_eq_true, beq_iff_eq] at can
  obtain ⟨⟨⟨station, -⟩, -⟩, -⟩ := can
  by_contra exceeds
  rcases h.1 (Nat.lt_of_not_le exceeds) with ⟨hold, -⟩ | silent
  · simp [hold] at station
  · simp [silent] at station

/-- A RACK section makes the station READY, with a count that was within its limit before (R39). -/
protected theorem Bounded.configureRack (h : Bounded s) (can : canConfigure s = true) (c : RackCfg) :
    Bounded (configureRack c s) := by
  obtain ⟨inBounds, count, held⟩ := bounded_iff.mp h
  exact bounded_iff.mpr ⟨{ inBounds with }, count,
    fun exceeds => absurd (held.le_of_canConfigure can) (Nat.not_le_of_lt exceeds), nofun⟩

theorem execConfigureRack_bounded {f : RxFrame} (h : Bounded s) (ht : execConfigureRack f s = .next t) : Bounded t :=
  bounded_of_act ht h (h.frameEvent fun _ _ hu => hu.heard.configure _ fun _ hv can => hv.configureRack can _)

/-! ## The error count above its limit (R190) -/

/-- The bounds of a configured station whose error count may have passed its limit: a hold is about to be raised. -/
structure MayExceed (s : State) : Prop where
  inBounds : InBounds s
  count : s.opu.CountBounded
  configured : s.oi.station ≠ .unconfigured

theorem MayExceed.keep (h : MayExceed b) (k : Keeps b s) : MayExceed s :=
  ⟨h.inBounds.keep k, k.opu.errors.trans h.count, fun hu => h.configured (k.oi.of_unconfigured hu)⟩

/-- OPERATOR_LIMIT raised puts a configured station that is not SILENT in HOLD, with the cause set. -/
theorem raiseHold_operatorLimit_holds (h : s.oi.station ≠ .unconfigured) :
    ((raiseHold .operatorLimit s).oi.station = .hold ∧ (raiseHold .operatorLimit s).oi.limitHold = true) ∨
      (raiseHold .operatorLimit s).oi.station = .silent := by
  unfold raiseHold
  split
  · exact .inl (by simp [raiseHold.enter, Oi.setCause])
  · exact .inl (by simp [raiseHold.enter, Oi.setCause])
  · rename_i hold
    exact .inl ⟨hold, rfl⟩
  · rename_i unconfigured
    exact absurd unconfigured h
  · rename_i silent
    exact .inr silent

theorem MayExceed.bounded_raiseHold (h : MayExceed s) : Bounded (raiseHold .operatorLimit s) := by
  obtain ⟨inBounds, count, configured⟩ := h.keep ((Keeps.refl s).raiseHold .operatorLimit)
  exact bounded_iff.mpr ⟨inBounds, count, fun _ => raiseHold_operatorLimit_holds h.configured,
    fun unconfigured => absurd unconfigured configured⟩

/-- A limit below the error count raises the hold; an UNCONFIGURED station has no error to count (R190, R192). -/
protected theorem Bounded.configureOperator (h : Bounded s) (c : OperatorCfg) : Bounded (configureOperator c s) := by
  obtain ⟨inBounds, count, -, unconfigured⟩ := bounded_iff.mp h
  unfold Machine.configureOperator
  dsimp only
  split
  · rename_i above
    have exceeds := of_decide_eq_true above
    refine MayExceed.bounded_raiseHold ⟨{ inBounds with }, count, fun hu => ?_⟩
    obtain ⟨-, -, -, none⟩ := unconfigured hu
    exact absurd exceeds (by simp [none])
  · rename_i within
    exact bounded_iff.mpr
      ⟨{ inBounds with }, count, fun exceeds => absurd (decide_eq_true exceeds) within, unconfigured⟩

theorem execConfigureOperator_bounded {f : RxFrame} (h : Bounded s) (ht : execConfigureOperator f s = .next t) :
    Bounded t :=
  bounded_of_act ht h (h.frameEvent fun _ _ hu => hu.heard.configure _ fun _ hv _ => hv.configureOperator _)

/-! ## CLEAR_HOLD (R35) -/

/-- With the error count cleared the station may leave HOLD. -/
protected theorem Bounded.clearHold (h : Bounded s) : Bounded (clearHold s) := by
  obtain ⟨inBounds, -, -, unconfigured⟩ := bounded_iff.mp h
  have cleared : Bounded ((s.setOi { s.oi with
      limitHold := false
      safeHold := false
      station := if s.oi.station = .hold then .ready else s.oi.station }).setOpu { s.opu with errors := 0 }) := by
    refine bounded_iff.mpr ⟨{ inBounds with }, Nat.zero_le _, fun exceeds => absurd exceeds (Nat.not_lt_zero _), ?_⟩
    intro now
    have before : s.oi.station = .unconfigured := by
      by_cases hold : s.oi.station = .hold
      · simp [hold] at now
      · simpa [hold] using now
    obtain ⟨unchecked, unqueued, idle, -⟩ := unconfigured before
    exact ⟨unchecked, unqueued, idle, rfl⟩
  exact cleared.keep (Keeps.refl _).leaveSafe

protected theorem Bounded.controlClearHold (h : Bounded s) (isBroadcast : Bool) (reference : Half) (keyActive : Bool) :
    Bounded (controlClearHold isBroadcast reference keyActive s) := by
  have answered (code : ReceiptCode) : Bounded (answerControl isBroadcast reference code (freePlaces s) s) :=
    h.keep ((Keeps.refl s).answerControl _ _ _ _)
  unfold Machine.controlClearHold
  split
  · exact (answered _).clearHold.keep (Keeps.refl _).settle
  · exact answered _

theorem execControlClearHold_bounded {f : RxFrame} {keyActive : Bool} (h : Bounded s)
    (ht : execControlClearHold f keyActive s = .next t) : Bounded t :=
  bounded_of_act ht h (h.frameEvent fun _ _ hu => hu.heard.controlClearHold _ _ _)

/-! ## Keys and the prompt timer (R179, R185 to R190) -/

/-- What a key or the timer leaves: the bounds where it raises no hold, and all but the error count's where it does. -/
structure Counted (r : State × OpuNews) : Prop where
  within : r.2.limit = false → Bounded r.1
  exceeds : r.2.limit = true → MayExceed r.1

theorem Counted.of_keeps (h : Bounded s) {r : State × OpuNews} (k : Keeps s r.1) (hl : r.2.limit = false) :
    Counted r :=
  ⟨fun _ => h.keep k, fun limit => nomatch hl.symm.trans limit⟩

/-- The hold, where one is raised, comes before or after the result: the bounds stand after both. -/
theorem Counted.takeNews {r : State × OpuNews} (h : Counted r) : Bounded (takeNews r) := by
  obtain ⟨u, result, limit⟩ := r
  unfold Machine.takeNews
  cases limit with
  | false =>
    have within : Bounded u := h.within rfl
    cases result with
    | none => exact within
    | some x => exact within.keep ((Keeps.refl u).promptResult x).settle
  | true =>
    have exceeds : MayExceed u := h.exceeds rfl
    cases result with
    | none => exact exceeds.bounded_raiseHold.keep (Keeps.refl _).settle
    | some x =>
      refine Bounded.keep ?_ (Keeps.refl _).settle
      unfold deliverNews
      dsimp only
      split
      · have chosen : MayExceed (takeFirst u).2 := exceeds.keep (Keeps.refl u).takeFirst
        split
        · exact (chosen.keep ((Keeps.refl _).promptResult x).finishJudged).bounded_raiseHold
        · exact chosen.bounded_raiseHold.keep ((Keeps.refl _).promptResult x)
      · exact exceeds.bounded_raiseHold

/-- A prompt is in hand in a configured station alone. -/
theorem Bounded.configured_of_prompt (h : Bounded s) (hp : s.opu.state ≠ .idle) : s.oi.station ≠ .unconfigured :=
  fun unconfigured => by
    obtain ⟨-, -, -, held⟩ := bounded_iff.mp h
    obtain ⟨-, -, idle, -⟩ := held unconfigured
    exact hp idle

/-- The panel after an error, with the hold raised exactly when the count exceeds its limit (R190). -/
protected theorem Bounded.counted (h : Bounded s) (hp : s.opu.state ≠ .idle) {o : Opu} (ho : o.CountBounded)
    {news : OpuNews} (hl : news.limit = o.overLimit) : Counted (s.setOpu o, news) := by
  obtain ⟨inBounds, -, -⟩ := bounded_iff.mp h
  have configured := h.configured_of_prompt hp
  constructor
  · intro within
    have le := of_decide_eq_false (hl.symm.trans within)
    exact bounded_iff.mpr ⟨{ inBounds with }, ho, fun exceeds => absurd exceeds le,
      fun unconfigured => absurd unconfigured configured⟩
  · intro _
    exact ⟨{ inBounds with }, ho, configured⟩

theorem Opu.raiseErrors_countBounded (o : Opu) : o.raiseErrors.CountBounded := Nat.min_le_right _ _

protected theorem Bounded.failedAttempt (h : Bounded s) (hp : s.opu.state ≠ .idle) : Counted (failedAttempt s) := by
  have count := Opu.raiseErrors_countBounded { s.opu with attempts := s.opu.attempts + 1 }
  unfold Machine.failedAttempt
  dsimp only
  split
  · refine h.counted hp ?_ rfl
    exact count
  · refine h.counted hp ?_ rfl
    exact count

/-- A correct answer lowers the error count. -/
protected theorem Keeps.correctAnswer (h : Keeps b s) (hp : s.opu.state ≠ .idle) : Keeps b (correctAnswer s).1 := by
  have answered : Keeps b (s.setOpu { s.opu with
      attempts := s.opu.attempts + 1, errors := s.opu.errors - 1, entry := [], lookTimer := none }) :=
    h.setPrompt hp ⟨Nat.sub_le _ _, rfl⟩
  have finished (u : State) (k : Keeps b u) (inHand : u.opu.state ≠ .idle) :
      Keeps b (if u.opu.asksAfterwards then ((u.setOpu { u.opu with state := .yesNo }, {}) : State × OpuNews)
        else (u.setOpu (u.opu.toDone .pass), { result := some (.pass, some u.opu.attempts) })).1 := by
    split
    · exact k.setPrompt inHand ⟨le_rfl, rfl⟩
    · exact k.toDone inHand .pass
  unfold Machine.correctAnswer
  dsimp only
  split
  · exact finished _ answered hp
  · rename_i inFlight
    split
    · exact finished _ answered hp
    · exact finished _ ((answered.setRecord inFlight _).applyRestore _) (by simpa using hp)

theorem correctAnswer_limit (s : State) : (correctAnswer s).2.limit = false := by
  unfold correctAnswer
  dsimp only
  (repeat' split) <;> rfl

protected theorem Bounded.digitKey (h : Bounded s) (d : Nat) : Counted (digitKey d s) := by
  unfold Machine.digitKey
  split
  · rename_i challenge
    have inHand : s.opu.state ≠ .idle := by simp [challenge]
    have keyed : Keeps s (s.setOpu { s.opu with entry := s.opu.entry ++ [d] }) := (Keeps.refl s).setPanel rfl rfl rfl
    dsimp only
    split
    · exact h.failedAttempt inHand
    · split
      · exact .of_keeps h keyed rfl
      · split
        · exact .of_keeps h (keyed.correctAnswer inHand) (correctAnswer_limit _)
        · exact (h.keep keyed).failedAttempt inHand
  · exact .of_keeps h (.refl s) rfl

protected theorem Bounded.promptTimeout (h : Bounded s) : Counted (promptTimeout s) := by
  unfold Machine.promptTimeout
  split
  · rename_i challenge
    refine h.counted (by simp [challenge]) ?_ rfl
    exact s.opu.raiseErrors_countBounded
  · rename_i asks
    exact .of_keeps h ((Keeps.refl s).toDone (by simp [asks]) _) rfl
  · exact .of_keeps h (.refl s) rfl

protected theorem Bounded.passKey (h : Bounded s) : Counted (passKey s) := by
  unfold Machine.passKey
  split
  · rename_i asks
    exact .of_keeps h ((Keeps.refl s).toDone (by simp [asks]) _) rfl
  · exact .of_keeps h (.refl s) rfl

protected theorem Bounded.failKey (h : Bounded s) : Counted (failKey s) := by
  unfold Machine.failKey
  split
  · rename_i challenge
    exact .of_keeps h ((Keeps.refl s).toDone (by simp [challenge]) _) rfl
  · rename_i asks
    exact .of_keeps h ((Keeps.refl s).toDone (by simp [asks]) _) rfl
  · exact .of_keeps h (.refl s) rfl

theorem execKeyClear_keeps (ht : execKeyClear s = .next t) : Keeps s t := by
  refine keeps_of_act ht ?_
  unfold clearKey
  split
  · exact (Keeps.refl s).setPanel rfl rfl rfl
  · exact .refl s

theorem execLookTimerExpiry_keeps (ht : execLookTimerExpiry s = .next t) : Keeps s t := by
  refine keeps_of_act ht ?_
  exact (Keeps.refl s).setPanel rfl rfl rfl

theorem execKeyDigit_bounded {digit : Fin 10} (h : Bounded s) (ht : execKeyDigit digit s = .next t) : Bounded t :=
  bounded_of_act ht h (h.digitKey digit).takeNews

theorem execKeyPass_bounded (h : Bounded s) (ht : execKeyPass s = .next t) : Bounded t :=
  bounded_of_act ht h h.passKey.takeNews

theorem execKeyFail_bounded (h : Bounded s) (ht : execKeyFail s = .next t) : Bounded t :=
  bounded_of_act ht h h.failKey.takeNews

theorem execPromptTimerExpiry_bounded (h : Bounded s) (ht : execPromptTimerExpiry s = .next t) : Bounded t := by
  refine bounded_of_act ht h ?_
  split
  · exact h.promptTimeout.takeNews
  · exact h

/-! ## Resets (R18, R195) -/

theorem bounded_resetTo (slot : BitVec 4) (group : BitVec 2) (s : State) : Bounded (resetTo slot group s) := by
  refine bounded_iff.mpr ⟨⟨Nat.zero_le _, Nat.zero_le _, ⟨Nat.zero_le _, Summary.empty_consistent⟩,
    ⟨.nil, Nat.zero_le _⟩, fun n => ?_⟩, Nat.zero_le _, fun exceeds => absurd exceeds (Nat.not_lt_zero _),
    fun _ => ⟨rfl, rfl, rfl, rfl⟩⟩
  rw [resetTo_ltu]
  exact LightChannel.reset_gainInRange

theorem execPowerOnReset_bounded {slot : BitVec 4} {group : BitVec 2} (ht : execPowerOnReset slot group s = .next t) :
    Bounded t := by
  cases ht
  exact (bounded_resetTo slot group s).keep ((Keeps.refl _).setResetHeld _)

theorem execResetPinLow_bounded {lowUs : Nat} (h : Bounded s) (ht : execResetPinLow lowUs s = .next t) : Bounded t := by
  cases ht
  split
  · exact h
  · exact (bounded_resetTo _ _ s).keep ((Keeps.refl _).setResetHeld _)

theorem execResetPinRelease_bounded {slot : BitVec 4} {group : BitVec 2} (h : Bounded s)
    (ht : execResetPinRelease slot group s = .next t) : Bounded t := by
  cases ht
  split
  · exact bounded_resetTo slot group s
  · exact h

/-! ## With no command waiting (log 3) -/

theorem passMs_keeps (s : State) : Keeps s (passMs s) where
  oi := .of_same rfl rfl id
  opu := ⟨le_rfl, rfl⟩
  replies := id
  verdicts := id
  bus := id
  gains := fun w => w.tickLtu _
  noCheck := fun _ ⟨unchecked, idle⟩ => ⟨congrArg (Option.map CheckRecord.tick) unchecked, idle⟩

theorem tick_keeps (s : State) : Keeps s (tick s) := by
  unfold tick
  split
  · exact (Keeps.refl s).setClock _
  · split
    · exact passMs_keeps s
    · unfold takeEvent
      dsimp only
      split
      · exact .refl s
      · exact { Keeps.refl s with }

/-! ## Every command -/

/-- Every command keeps the bounds, most of them by `Keeps`. -/
theorem exec_bounded {i : Instr} (h : Bounded s) (ht : exec i s = .next t) : Bounded t := by
  cases i with
  | powerOnReset => exact execPowerOnReset_bounded ht
  | resetPinLow => exact execResetPinLow_bounded h ht
  | resetPinRelease => exact execResetPinRelease_bounded h ht
  | lineDominant => exact h.keep (execLineDominant_keeps ht)
  | syncIdleEnd => exact h.keep (execSyncIdleEnd_keeps ht)
  | idleGapEnd => exact h.keep (execIdleGapEnd_keeps ht)
  | positionStart => exact h.keep (execPositionStart_keeps ht)
  | windowEnd => exact h.keep (execWindowEnd_keeps ht)
  | readbackDifference => exact h.keep (execReadbackDifference_keeps ht)
  | frameSentInFull => exact h.keep (execFrameSentInFull_keeps ht)
  | frameDiscarded => exact h.keep (execFrameDiscarded_keeps ht)
  | ownSlotFrame => exact h.keep (execOwnSlotFrame_keeps ht)
  | peerReplyFrame => exact h.keep (execPeerReplyFrame_keeps ht)
  | announceReceived => exact h.keep (execAnnounceReceived_keeps ht)
  | order => exact h.keep (execOrder_keeps ht)
  | controlAbort => exact h.keep (execControlAbort_keeps ht)
  | controlRestart => exact h.keep (execControlRestart_keeps ht)
  | controlBeginDut => exact h.keep (execControlBeginDut_keeps ht)
  | controlEndDut => exact h.keep (execControlEndDut_keeps ht)
  | controlClearHold => exact execControlClearHold_bounded h ht
  | controlTakeSummary => exact h.keep (execControlTakeSummary_keeps ht)
  | controlMalformed => exact h.keep (execControlMalformed_keeps ht)
  | query => exact h.keep (execQuery_keeps ht)
  | configureRack => exact execConfigureRack_bounded h ht
  | configureSupply => exact execConfigureSupply_bounded h ht
  | configureLight => exact execConfigureLight_bounded h ht
  | configureOperator => exact execConfigureOperator_bounded h ht
  | configureMessage => exact execConfigureMessage_bounded h ht
  | configureCapture => exact execConfigureCapture_bounded h ht
  | configureInvalid => exact h.keep (execConfigureInvalid_keeps ht)
  | linePresenceExpiry => exact h.keep (execLinePresenceExpiry_keeps ht)
  | checkStart => exact h.keep (execCheckStart_keeps ht)
  | announceTimerExpiry => exact h.keep (execAnnounceTimerExpiry_keeps ht)
  | peerStale => exact h.keep (execPeerStale_keeps ht)
  | claimSettleExpiry => exact h.keep (execClaimSettleExpiry_keeps ht)
  | claimWaitExpiry => exact h.keep (execClaimWaitExpiry_keeps ht)
  | audibleWaitExpiry => exact h.keep (execAudibleWaitExpiry_keeps ht)
  | inrushHoldExpiry => exact h.keep (execInrushHoldExpiry_keeps ht)
  | checkSettleExpiry => exact h.keep (execCheckSettleExpiry_keeps ht)
  | rampComplete => exact h.keep (execRampComplete_keeps ht)
  | slewComplete => exact h.keep (execSlewComplete_keeps ht)
  | crankDipEnd => exact h.keep (execCrankDipEnd_keeps ht)
  | crankRecoveryComplete => exact h.keep (execCrankRecoveryComplete_keeps ht)
  | dischargeBelowThreshold => exact h.keep (execDischargeBelowThreshold_keeps ht)
  | dischargeTimerExpiry => exact h.keep (execDischargeTimerExpiry_keeps ht)
  | short => exact h.keep (execShort_keeps ht)
  | overcurrent => exact h.keep (execOvercurrent_keeps ht)
  | overvoltage => exact h.keep (execOvervoltage_keeps ht)
  | offTimerExpiry => exact h.keep (execOffTimerExpiry_keeps ht)
  | recoveryTimerExpiry => exact h.keep (execRecoveryTimerExpiry_keeps ht)
  | slotDue => exact h.keep (execSlotDue_keeps ht)
  | canAttemptStart => exact h.keep (execCanAttemptStart_keeps ht)
  | canAttemptEnd => exact h.keep (execCanAttemptEnd_keeps ht)
  | clusterFrameReceived => exact h.keep (execClusterFrameReceived_keeps ht)
  | lightBlockComplete => exact h.keep (execLightBlockComplete_keeps ht)
  | rangeTimerExpiry => exact h.keep (execRangeTimerExpiry_keeps ht)
  | lightWindowRerange => exact h.keep (execLightWindowRerange_keeps ht)
  | lightWindowComplete => exact h.keep (execLightWindowComplete_keeps ht)
  | currentWindowComplete => exact h.keep (execCurrentWindowComplete_keeps ht)
  | soundWindowComplete => exact h.keep (execSoundWindowComplete_keeps ht)
  | keyDigit => exact execKeyDigit_bounded h ht
  | keyClear => exact h.keep (execKeyClear_keeps ht)
  | keyPass => exact execKeyPass_bounded h ht
  | keyFail => exact execKeyFail_bounded h ht
  | lookTimerExpiry => exact h.keep (execLookTimerExpiry_keeps ht)
  | promptTimerExpiry => exact execPromptTimerExpiry_bounded h ht
  | abandonedRemainderEnd => exact h.keep (execAbandonedRemainderEnd_keeps ht)

end Sys2Proof.Machine

namespace Sys2Proof.Certificates

open Machine

/-- Settles O58: the command at the front keeps the bounds, taken with the queue's rest; with none waiting, so does what
a step does then. -/
theorem stepKeepsBounds : Obligations.StepKeepsBounds := by
  intro s t bounded next
  unfold step at next
  split at next
  · exact exec_bounded (bounded.keep ((Keeps.refl s).setPending _)) next
  · cases next
    exact bounded.keep (tick_keeps s)

end Sys2Proof.Certificates
end
section
/-! What every command leaves alone (chapters 1 to 10), what of the verdicts it may add to (chapter 9), and what is off
(R17, R94, R137, R155): `Kept` says it once for all of them, each update of a block and each operation of the model has
its rule, and the rule of a larger operation is a chain of those it is made of. Here the blocks and the bus. -/

namespace Sys2Proof.Machine

/-! ## What a command may change -/

/-- The registers that a command may change beyond those that every command may: the sections of the configuration, the
identity with its pair trackers, the peer view, and the summary otherwise than by a merge. -/
structure Licence where
  rack : Bool := false
  supply : Bool := false
  light : Bool := false
  operator : Bool := false
  message : Bool := false
  capture : Bool := false
  given : Bool := false
  identity : Bool := false
  peers : Bool := false
  summary : Bool := false

/-- What each command may change (R38, R45 to R47, R115, R128, R131, R133, R173, R176). -/
def licenceOf : Instr → Licence
  | .configureRack _ => { rack := true }
  | .configureSupply _ => { supply := true }
  | .configureLight _ => { light := true }
  | .configureOperator _ => { operator := true }
  | .configureMessage _ => { message := true }
  | .configureCapture _ => { capture := true }
  | .controlBeginDut _ => { given := true, identity := true, summary := true }
  | .controlTakeSummary _ => { summary := true }
  | .clusterFrameReceived _ => { identity := true }
  | .announceReceived _ => { peers := true }
  | .peerStale _ => { peers := true }
  | _ => {}

/-- What a MESSAGE section defines of a slot (R115). -/
def MessageSlot.definition (m : MessageSlot) : Bool × Nat × Nat × Nat × Nat × Option (Nat × Nat) × Option Nat :=
  (m.defined, m.id, m.len, m.period, m.phase, m.counter, m.checksum)

/-- What a CAPTURE section defines of a slot (R128). -/
def CaptureSlot.definition (c : CaptureSlot) : Bool × Nat × Bool := (c.defined, c.id, c.ident)

/-- From o to x the bus keeps what is not licensed: the definitions of its slots, GIVEN, RECEIVED, CURRENT and the pair
trackers. -/
structure Bem.Kept (a : Licence) (o x : Bem) : Prop where
  slots : a.message = false → ∀ n : Fin 24, x.slots[n].definition = o.slots[n].definition
  captures : a.capture = false → ∀ n : Fin 8, x.captures[n].definition = o.captures[n].definition
  given : a.given = false → x.given = o.given
  identity : a.identity = false → x.received = o.received ∧ x.current = o.current
  trackers : a.identity = false → a.capture = false → ∀ n : Fin 8, x.captures[n].tracker = o.captures[n].tracker

/-- A summary with records merged into it, one after another (R171). -/
def merged (l : List VerdictRecord) (m : Summary) : Summary :=
  l.foldl (fun m r => m.merge r.content.checkId r.content.outcome) m

/-- From b to s the verdict unit has formed the records l: merged into the summary, unless this is licensed to be taken
or emptied, or a TAKE_SUMMARY that was next in the queue has fallen among them (R168 to R171, R174). -/
def FormedRecords (a : Licence) (b s : State) (l : List VerdictRecord) : Prop :=
  s.vdu.ring = l.foldl joinRing b.vdu.ring ∧ s.vdu.seq = b.vdu.seq + BitVec.ofNat 16 l.length ∧
    (∀ i r, l[i]? = some r → r.seq = b.vdu.seq + BitVec.ofNat 16 (i + 1)) ∧
    s.vdu.lastJudged = (l.getLast?.map (·.content.checkId)).getD b.vdu.lastJudged ∧
    (a.summary = false → s.vdu.summary = merged l b.vdu.summary ∨
      (¬ NoTakeNext b ∧ s.taken = true ∧ ∃ l1 l2 i, l = l1 ++ l2 ∧ s.vdu.summary = merged l2 ⟨0, 0, none, 0⟩ ∧
        .summary ⟨merged l1 b.vdu.summary, i, b.vdu.seq + BitVec.ofNat 16 l1.length⟩ ∈ s.rli.replies))

/-- What an operation with this licence keeps from a state b to a state s of the same step. -/
structure Kept (a : Licence) (b s : State) : Prop where
  pending : s.pending = b.pending
  slot : s.rli.slot = b.rli.slot
  group : s.rli.group = b.rli.group
  rack : a.rack = false → s.oi.rack = b.oi.rack
  supply : a.supply = false → s.spu.cfg = b.spu.cfg
  light : a.light = false → ∀ n : Fin 8, s.ltu[n].cal = b.ltu[n].cal
  operator : a.operator = false → s.opu.cfg = b.opu.cfg
  bus : b.bem.Kept a s.bem
  peers : a.peers = false → s.clu.peers = b.clu.peers
  off : OffMeansOff b → OffMeansOff s
  formed : ∃ l, FormedRecords a b s l

variable {a : Licence} {b s : State}

protected theorem Bem.Kept.refl (o : Bem) : o.Kept a o :=
  ⟨fun _ _ => rfl, fun _ _ => rfl, fun _ => rfl, fun _ => ⟨rfl, rfl⟩, fun _ _ _ => rfl⟩

protected theorem Bem.Kept.trans {o x y : Bem} (h : o.Kept a x) (h' : x.Kept a y) : o.Kept a y where
  slots := fun u n => (h'.slots u n).trans (h.slots u n)
  captures := fun u n => (h'.captures u n).trans (h.captures u n)
  given := fun u => (h'.given u).trans (h.given u)
  identity := fun u => ⟨(h'.identity u).1.trans (h.identity u).1, (h'.identity u).2.trans (h.identity u).2⟩
  trackers := fun u v n => (h'.trackers u v n).trans (h.trackers u v n)

theorem FormedRecords.nil_of_eq (h : s.vdu = b.vdu) : FormedRecords a b s [] := by
  simp [FormedRecords, h, merged]

protected theorem Kept.refl (a : Licence) (s : State) : Kept a s s :=
  ⟨rfl, rfl, rfl, fun _ => rfl, fun _ => rfl, fun _ _ => rfl, fun _ => rfl, .refl _, fun _ => rfl, id,
    [], FormedRecords.nil_of_eq rfl⟩

/-! ## Updates of one block -/

protected theorem Kept.setResetHeld (h : Kept a b s) (x : Bool) : Kept a b (s.setResetHeld x) := { h with }
protected theorem Kept.setChoices (h : Kept a b s) (x : Nat) : Kept a b (s.setChoices x) := { h with }
protected theorem Kept.setArrived (h : Kept a b s) (x : List Instr) : Kept a b (s.setArrived x) := { h with }

protected theorem Kept.setClu (h : Kept a b s) (x : Clu) (hx : x.peers = s.clu.peers) : Kept a b (s.setClu x) :=
  { h with peers := fun u => hx.trans (h.peers u) }

/-- The peer view may change by a command that is licensed to it. -/
theorem Kept.setPeers (h : Kept a b s) (ha : a.peers = true) (x : Clu) : Kept a b (s.setClu x) :=
  { h with peers := fun u => (nomatch ha.symm.trans u) }

protected theorem Kept.setBem (h : Kept a b s) (x : Bem) (hx : s.bem.Kept a x) : Kept a b (s.setBem x) :=
  { h with bus := h.bus.trans hx }

protected theorem Kept.setOpu (h : Kept a b s) (x : Opu) (hx : x.cfg = s.opu.cfg) : Kept a b (s.setOpu x) :=
  { h with operator := fun u => hx.trans (h.operator u) }

/-- The rail keeps its configuration, is at 0 mV where its output is off, and within 18000 mV. -/
protected theorem Kept.setSpu (h : Kept a b s) (x : Spu)
    (hx : x.cfg = s.spu.cfg) (off : OffMeansOff s → x.OffIsZero ∧ x.setpoint ≤ 18000 ∧ x.effective ≤ 18000) :
    Kept a b (s.setSpu x) :=
  { h with
    supply := fun u => hx.trans (h.supply u)
    off := fun hb => by
      obtain ⟨zero, setpoint, effective⟩ := off (h.off hb)
      obtain ⟨silent, -, ⟨-, -, orders⟩, one⟩ := h.off hb
      exact ⟨silent, zero, ⟨setpoint, effective, orders⟩, one⟩ }

/-- A change of the rail's timers and marks. -/
theorem Kept.setSpuMarks (h : Kept a b s) (x : Spu) (hx :
    (x.cfg, x.rail, x.setpoint, x.effective) = (s.spu.cfg, s.spu.rail, s.spu.setpoint, s.spu.effective)) :
    Kept a b (s.setSpu x) := by
  simp only [Prod.mk.injEq] at hx
  obtain ⟨cfg, rail, setpoint, effective⟩ := hx
  exact h.setSpu x cfg fun ⟨_, zero, ⟨hs, he, _⟩, _⟩ =>
    ⟨fun off => effective.trans (zero (rail ▸ off)), setpoint.trans_le hs, effective.trans_le he⟩

/-- What is kept from s to a state with the same verdicts and the reply queue grown is kept from b to it. -/
theorem FormedRecords.grow {t : State} {l : List VerdictRecord} (h : FormedRecords a b s l) (hv : t.vdu = s.vdu)
    (ht : s.taken = true → t.taken = true) (hr : ∀ r ∈ s.rli.replies, r ∈ t.rli.replies) :
    FormedRecords a b t l := by
  obtain ⟨ring, seq, seqs, last, summary⟩ := h
  refine ⟨hv ▸ ring, hv ▸ seq, seqs, hv ▸ last, fun u => ?_⟩
  rw [hv]
  rcases summary u with all | ⟨next, taken, l1, l2, i, split, rest, mem⟩
  · exact .inl all
  · exact .inr ⟨next, ht taken, l1, l2, i, split, rest, hr _ mem⟩

protected theorem Kept.setTaken (h : Kept a b s) : Kept a b (s.setTaken true) :=
  { h with
    formed := by
      obtain ⟨l, hl⟩ := h.formed
      exact ⟨l, hl.grow rfl (fun _ => rfl) fun _ => id⟩ }

/-- The line interface keeps its straps, is empty while SILENT, and loses no reply. -/
protected theorem Kept.setRli (h : Kept a b s) (x : Rli) (slot : x.slot = s.rli.slot) (group : x.group = s.rli.group)
    (silent : s.rli.SilentEmpty → x.SilentEmpty) (replies : ∀ r ∈ s.rli.replies, r ∈ x.replies) :
    Kept a b (s.setRli x) :=
  { h with
    slot := slot.trans h.slot
    group := group.trans h.group
    off := fun hb => ⟨silent (h.off hb).1, (h.off hb).2⟩
    formed := by
      obtain ⟨l, hl⟩ := h.formed
      exact ⟨l, hl.grow rfl id replies⟩ }

/-- The line interface before any verdict of the step: it may lose replies. -/
theorem Kept.setLine {x : Rli} (h : Kept a b s) (hv : s.vdu = b.vdu) (slot : x.slot = s.rli.slot)
    (group : x.group = s.rli.group) (silent : s.rli.SilentEmpty → x.SilentEmpty) : Kept a b (s.setRli x) :=
  { h with
    slot := slot.trans h.slot
    group := group.trans h.group
    off := fun hb => ⟨silent (h.off hb).1, (h.off hb).2⟩
    formed := ⟨[], .nil_of_eq hv⟩ }

/-- The OI keeps its configuration, and queues no order with a level above 18000 mV. -/
protected theorem Kept.setOi (h : Kept a b s) (x : Oi) (rack : a.rack = false → x.rack = s.oi.rack)
    (orders : (∀ o ∈ s.oi.queue, o.LevelsBounded) → ∀ o ∈ x.queue, o.LevelsBounded) : Kept a b (s.setOi x) :=
  { h with
    rack := fun u => (rack u).trans (h.rack u)
    off := fun hb => by
      obtain ⟨silent, zero, ⟨setpoint, effective, queued, inFlight⟩, one⟩ := h.off hb
      exact ⟨silent, zero, ⟨setpoint, effective, orders queued, inFlight⟩, one⟩ }

/-- The station, its holds and its presence timer may change; its queue stays or is emptied. -/
theorem Kept.setStation (h : Kept a b s) {x : Oi} (rack : x.rack = s.oi.rack)
    (queue : x.queue = s.oi.queue ∨ x.queue = []) : Kept a b (s.setOi x) := by
  refine h.setOi x (fun _ => rack) fun bounded o ho => ?_
  rcases queue with same | empty
  · exact bounded o (same ▸ ho)
  · exact absurd (empty ▸ ho) List.not_mem_nil

protected theorem Kept.setCsu (h : Kept a b s) (x : Csu)
    (one : OneMeasurement s → x.window ≠ .idle → s.csu.window ≠ .idle) : Kept a b (s.setCsu x) :=
  { h with
    off := fun hb => by
      obtain ⟨silent, zero, levels, light, window⟩ := h.off hb
      exact ⟨silent, zero, levels, light, fun opened => window (one ⟨light, window⟩ opened)⟩ }

/-- The check in flight is replaced: no order above 18000 mV, and the units that measure are the new record's. -/
protected theorem Kept.setCkr (h : Kept a b s) (x : Option CheckRecord)
    (orders : LevelsBounded s → ∀ k, x = some k → k.order.LevelsBounded)
    (one : OneMeasurement s → OneMeasurement (s.setCkr x)) : Kept a b (s.setCkr x) :=
  { h with
    off := fun hb => by
      obtain ⟨silent, zero, levels, hone⟩ := h.off hb
      obtain ⟨setpoint, effective, queued, -⟩ := id levels
      exact ⟨silent, zero, ⟨setpoint, effective, queued, orders levels⟩, one hone⟩ }

/-- The record of a check in flight may change in what is not its order, its stage and what it waits for. -/
theorem Kept.setRecord (h : Kept a b s) {c : CheckRecord} (hc : s.ckr = some c) (x : CheckRecord)
    (hx : (x.order, x.stage, x.waitsOn) = (c.order, c.stage, c.waitsOn)) : Kept a b (s.setCkr (some x)) := by
  simp only [Prod.mk.injEq] at hx
  obtain ⟨order, stage, waits⟩ := hx
  refine h.setCkr _ (fun ⟨_, _, _, bounded⟩ k hk => ?_) fun ⟨light, window⟩ => ⟨fun n out => ?_, fun opened => ?_⟩
  · cases hk
    exact order ▸ bounded c hc
  · obtain ⟨k, l, hk, measuring, waiting, meas, channel⟩ := light n out
    cases hc.symm.trans hk
    exact ⟨x, l, rfl, stage.trans measuring, waits.trans waiting, order ▸ meas, channel⟩
  · obtain ⟨k, hk, measuring, waiting, meas⟩ := window opened
    cases hc.symm.trans hk
    exact ⟨x, rfl, stage.trans measuring, waits.trans waiting, order ▸ meas⟩

/-- No unit measures. -/
def AllIdle (s : State) : Prop := (∀ n : Fin 8, s.ltu[n].state = .held) ∧ s.csu.window = .idle

theorem AllIdle.oneMeasurement (h : AllIdle s) : OneMeasurement s :=
  ⟨fun n out => absurd (h.1 n) out, fun opened => absurd h.2 opened⟩

/-- While no unit measures any record may stand. -/
theorem AllIdle.setCkr (h : AllIdle s) (x : Option CheckRecord) : OneMeasurement (s.setCkr x) :=
  oneMeasurement (s := s.setCkr x) h

/-- Where the check in flight does not measure, no unit does. -/
theorem OneMeasurement.allIdle (h : OneMeasurement s) (hc : ∀ c, s.ckr = some c → ¬ c.Measures) : AllIdle s := by
  constructor
  · intro n
    by_contra out
    obtain ⟨k, -, hk, measuring, waiting, -⟩ := h.1 n out
    exact hc k hk ⟨measuring, waiting⟩
  · by_contra opened
    obtain ⟨k, hk, measuring, waiting, -⟩ := h.2 opened
    exact hc k hk ⟨measuring, waiting⟩

/-- The record of a check that does not measure may change in what is not its order. -/
theorem Kept.setIdleRecord (h : Kept a b s) {c : CheckRecord} (hc : s.ckr = some c) (hm : ¬ c.Measures)
    (x : CheckRecord) (order : x.order = c.order) : Kept a b (s.setCkr (some x)) := by
  refine h.setCkr _ (fun ⟨_, _, _, bounded⟩ k hk => ?_) fun one => ?_
  · cases hk
    exact order ▸ bounded c hc
  · exact (one.allIdle fun k hk => by cases hc.symm.trans hk; exact hm).setCkr _

/-- A change of every record that leaves its order, its stage and what it waits for. -/
protected theorem Kept.updateCheck (h : Kept a b s) {f : CheckRecord → CheckRecord} (order : ∀ c, (f c).order = c.order)
    (stage : ∀ c, (f c).stage = c.stage) (waits : ∀ c, (f c).waitsOn = c.waitsOn) : Kept a b (updateCheck f s) := by
  cases hc : s.ckr with
  | none =>
    rw [Machine.updateCheck, hc, Option.map_none]
    exact h.setCkr none (fun _ _ hk => (nomatch hk)) fun one =>
      (one.allIdle fun k hk => nomatch hc.symm.trans hk).setCkr none
  | some c =>
    rw [Machine.updateCheck, hc, Option.map_some]
    exact h.setRecord hc _ (by rw [order, stage, waits])

/-- A choice keeps what both of its branches keep. -/
protected theorem Kept.ite {p : Prop} [Decidable p] {t u : State} (ht : Kept a b t) (hu : Kept a b u) :
    Kept a b (if p then t else u) := by
  split
  · exact ht
  · exact hu

protected theorem Kept.foldl (h : Kept a b s) {α : Type} {g : State → α → State}
    (hg : ∀ t x, Kept a b t → Kept a b (g t x)) {l : List α} : Kept a b (l.foldl g s) :=
  List.foldlRecOn l g h fun t ht x _ => hg t x ht

/-! ## The message table and the transmit queue (R116 to R127) -/

/-- An entry replaced by one of the same definition keeps every definition. -/
theorem setEntry_definition {α β : Type} {n : Nat} {v : Vector α n} {i : Nat} {x d : α} (f : α → β)
    (hx : f x = f (entryAt v i d)) (j : Fin n) : f (setEntry v i x)[j] = f v[j] := by
  rw [getElem_setEntry]
  split
  · rename_i same
    subst same
    rw [hx, entryAt_fin]
  · rfl

theorem mapEntries_definition {α β : Type} {n : Nat} {v : Vector α n} {g : α → α} (f : α → β)
    (hg : ∀ x, f (g x) = f x) (j : Fin n) : f (mapEntries g v)[j] = f v[j] := by
  simp [hg]

/-- The queue, the schedule, the silence and the count may change, and the table where its definitions stay. -/
theorem Bem.Kept.of_slots {o x : Bem} (slots : ∀ n : Fin 24, x.slots[n].definition = o.slots[n].definition)
    (captures : x.captures = o.captures) (given : x.given = o.given) (received : x.received = o.received)
    (current : x.current = o.current) : o.Kept a x :=
  ⟨fun _ => slots, fun _ n => by rw [captures], fun _ => given, fun _ => ⟨received, current⟩,
    fun _ _ n => by rw [captures]⟩

/-- The bus may change in its queue, its schedule, its silence and its count. -/
theorem Kept.setBus (h : Kept a b s) (x : Bem)
    (hx : (x.slots, x.captures, x.given, x.received, x.current) =
      (s.bem.slots, s.bem.captures, s.bem.given, s.bem.received, s.bem.current)) : Kept a b (s.setBem x) := by
  simp only [Prod.mk.injEq] at hx
  obtain ⟨slots, captures, given, received, current⟩ := hx
  exact h.setBem x (.of_slots (fun n => by rw [slots]) captures given received current)

protected theorem Kept.setSlot (h : Kept a b s) (n : Nat) (m : MessageSlot)
    (hm : m.definition = (slotAt s n).definition) : Kept a b (setSlot n m s) :=
  h.setBem _ (.of_slots (setEntry_definition _ hm) rfl rfl rfl rfl)

protected theorem Kept.setLate (h : Kept a b s) (n : Nat) (late : Bool) : Kept a b (setLate n late s) :=
  h.setSlot _ _ (by rfl)

protected theorem Kept.reportBusLate (h : Kept a b s) : Kept a b (reportBusLate s) :=
  h.updateCheck (fun _ => rfl) (fun _ => rfl) fun _ => rfl

protected theorem Kept.enqueue (h : Kept a b s) (x : TxInstance) : Kept a b (enqueue x s) := by
  have placed : Kept a b (s.setBem { s.bem with
      queue := insertInstance x (s.bem.queue.filter (·.slot != x.slot)) }) := h.setBus _ (by rfl)
  exact .ite (placed.setLate _ _).reportBusLate placed

protected theorem Kept.snapshot (h : Kept a b s) (n : Nat) : Kept a b (snapshot n s) := by
  unfold Machine.snapshot
  exact (h.setSlot _ _ (by rfl)).enqueue _

protected theorem Kept.fallDue (h : Kept a b s) (n : Nat) : Kept a b (fallDue n s) := .ite (h.snapshot n) h

protected theorem Kept.eventDue (h : Kept a b s) (n : Nat) : Kept a b (eventDue n s) := .ite (h.fallDue n) h

protected theorem Kept.allEventDue (h : Kept a b s) : Kept a b (allEventDue s) := by
  unfold Machine.allEventDue
  exact h.foldl fun _ n ht => ht.eventDue n

protected theorem Kept.zeroDue (h : Kept a b s) : Kept a b (zeroDue s) := by
  unfold Machine.zeroDue
  exact h.foldl fun t n ht => .ite (ht.fallDue n) ht

protected theorem Kept.emptyQueue (h : Kept a b s) : Kept a b (emptyQueue s) :=
  h.setBem _ (.of_slots (mapEntries_definition _ fun _ => rfl) rfl rfl rfl rfl)

protected theorem Kept.clearMessages (h : Kept a b s) : Kept a b (clearMessages s) :=
  h.setBem _ (.of_slots (mapEntries_definition _ fun _ => rfl) rfl rfl rfl rfl)

protected theorem Kept.stopTraffic (h : Kept a b s) : Kept a b (stopTraffic s) :=
  h.emptyQueue.setBus _ (by rfl)

protected theorem Kept.startTraffic (h : Kept a b s) : Kept a b (startTraffic s) :=
  Kept.zeroDue (h.setBus _ (by rfl))

protected theorem Kept.messageOn (h : Kept a b s) (n : Nat) : Kept a b (messageOn n s) := by
  unfold Machine.messageOn
  exact .ite ((h.setSlot _ _ (by rfl)).eventDue n) h

protected theorem Kept.messageOff (h : Kept a b s) (n : Nat) : Kept a b (messageOff n s) := by
  unfold Machine.messageOff
  exact .ite (.ite ((h.setSlot _ _ (by rfl)).setBus _ (by rfl)) (h.setSlot _ _ (by rfl))) h

protected theorem Kept.writeSlot (h : Kept a b s) (n start len : Nat) (p : Payload) :
    Kept a b (writeSlot n start len p s) := by
  unfold Machine.writeSlot
  exact .ite ((h.setSlot _ _ (by rfl)).eventDue n) h

protected theorem Kept.applyRestore (h : Kept a b s) (e : RestoreEntry) : Kept a b (applyRestore e s) :=
  h.writeSlot _ _ _ _

protected theorem Kept.writeChallenge (h : Kept a b s) (code : Nat) : Kept a b (writeChallenge code s) :=
  h.writeSlot _ _ _ _

protected theorem Kept.attemptStart (h : Kept a b s) : Kept a b (attemptStart s) := by
  unfold Machine.attemptStart
  split
  · exact h.setBus _ (by rfl)
  · exact h

protected theorem Kept.returnLost (h : Kept a b s) (x : TxInstance) : Kept a b (returnLost x s) := by
  have taken : Kept a b (s.setBem { s.bem with sending := none }) := h.setBus _ (by rfl)
  exact .ite (taken.setLate _ _).reportBusLate (taken.setBus _ (by rfl))

protected theorem Kept.enterBusSilent (h : Kept a b s) : Kept a b (enterBusSilent s) :=
  h.emptyQueue.setBus _ (by rfl)

protected theorem Kept.attemptEnd (h : Kept a b s) (o : CanOutcome) : Kept a b (attemptEnd o s).1 := by
  unfold Machine.attemptEnd
  split
  · exact h
  · rename_i x _
    cases o with
    | acknowledged => exact (h.setLate _ _).setBus _ (by rfl)
    | notAcknowledged =>
      have counted : Kept a b ((setLate x.slot false s).setBem { (setLate x.slot false s).bem with
          sending := none, unacked := min (s.bem.unacked + 1) Config.unackedLimit }) :=
        (h.setLate _ _).setBus _ (by rfl)
      dsimp only
      split
      · exact counted.enterBusSilent
      · exact counted
    | lostArbitration => exact h.returnLost x

protected theorem Kept.leaveBusSilent (h : Kept a b s) : Kept a b (leaveBusSilent s) := by
  have active : Kept a b (s.setBem { s.bem with silent := false, unacked := 0 }) := h.setBus _ (by rfl)
  exact .ite (.ite active.allEventDue active) h

/-! ## Capture and identity (R128 to R134) -/

/-- A capture slot may take an arrival; its definition stays, and its pair tracker unless an identity is licensed. -/
protected theorem Kept.setCapture (h : Kept a b s) (n : Nat) (c : CaptureSlot)
    (hc : c.definition = (captureAt s n).definition)
    (ht : a.identity = false → c.tracker = (captureAt s n).tracker) : Kept a b (setCapture n c s) :=
  h.setBem _ ⟨fun _ _ => rfl, fun _ => setEntry_definition _ hc, fun _ => rfl, fun _ => ⟨rfl, rfl⟩,
    fun u _ => setEntry_definition CaptureSlot.tracker (ht u)⟩

protected theorem Kept.clearFresh (h : Kept a b s) (n : Nat) : Kept a b (clearFresh n s) :=
  h.setCapture _ _ (by rfl) fun _ => by rfl

protected theorem Kept.validPair (h : Kept a b s) (ha : a.identity = true) (v : Half) (n : Serial) :
    Kept a b (validPair v n s).1 := by
  have paired : Kept a b (s.setBem { s.bem with received := some (v, n), current := ⟨some v, some n⟩ }) :=
    h.setBem _ ⟨fun _ _ => rfl, fun _ _ => rfl, fun _ => rfl, fun u => (nomatch ha.symm.trans u),
      fun u => (nomatch ha.symm.trans u)⟩
  unfold Machine.validPair
  dsimp only
  split
  · split
    · exact paired
    · exact paired
  · split
    · exact paired
    · exact paired

protected theorem Kept.captureInto (h : Kept a b s) (ha : a.identity = true) (n : Nat) (f : CanFrame) :
    Kept a b (captureInto n f s).1 := by
  unfold Machine.captureInto
  dsimp only
  split
  · split
    · split
      · exact (h.setCapture _ _ (by rfl) fun u => (nomatch ha.symm.trans u)).validPair ha _ _
      · exact h.setCapture _ _ (by rfl) fun u => (nomatch ha.symm.trans u)
    · exact h.setCapture _ _ (by rfl) fun _ => by rfl
  · exact h

protected theorem Kept.beginIdentity (h : Kept a b s) (hg : a.given = true) (hi : a.identity = true) (v : Half) :
    Kept a b (beginIdentity v s) :=
  h.setBem _ ⟨fun _ _ => rfl, fun _ => mapEntries_definition _ fun _ => rfl, fun u => (nomatch hg.symm.trans u),
    fun u => (nomatch hi.symm.trans u), fun u => (nomatch hi.symm.trans u)⟩

end Sys2Proof.Machine
end
section
/-! The rules of `Kept` for the rack line, the claims, the prompt, the rail and the verdicts (chapters 1, 3, 5, 9 and
10). -/

namespace Sys2Proof.Machine

variable {a : Licence} {b s : State}

/-! ## The rack line (R9 to R17) -/

theorem Contention.noteRewrite_sending (c : Contention) : c.noteRewrite.sending = c.sending := by
  unfold Contention.noteRewrite
  split
  · split <;> rfl
  · rfl

theorem Rli.SilentEmpty.handInAnnouncement {r : Rli} (h : r.SilentEmpty) (x : Announcement) :
    (r.handInAnnouncement x).SilentEmpty := by
  unfold Rli.handInAnnouncement
  split
  · exact h
  · rename_i loud
    exact fun silent => absurd silent loud

theorem Rli.SilentEmpty.handInReply {r : Rli} (h : r.SilentEmpty) (x : Reply) : (r.handInReply x).SilentEmpty := by
  unfold Rli.handInReply Rli.hasRoom
  split
  · rename_i room
    exact fun silent => by simp_all
  · exact h

/-- A transmission abandoned leaves nothing being sent, and the straps, the flags and both buffers. -/
theorem Rli.abandon_leaves (r : Rli) : r.abandon.contention.sending = false ∧ r.abandon.slot = r.slot ∧
    r.abandon.group = r.group ∧ r.abandon.silent = r.silent ∧ r.abandon.buffer = r.buffer := by
  unfold Rli.abandon
  split
  · exact ⟨rfl, rfl, rfl, rfl, rfl⟩
  · rename_i idle
    exact ⟨Bool.eq_false_of_not_eq_true idle, rfl, rfl, rfl, rfl⟩

/-- Both buffers empty and nothing on the line is what a SILENT station shows (R17, R19). -/
theorem Rli.emptyBuffers_silentEmpty (r : Rli) : r.emptyBuffers.SilentEmpty :=
  fun _ => ⟨rfl, rfl, r.abandon_leaves.1⟩

protected theorem Kept.handIn (h : Kept a b s) : Kept a b (handIn s) :=
  h.setRli _ (handInAnnouncement_slot _ _) (handInAnnouncement_group _ _) (·.handInAnnouncement _)
    fun _ hr => (handInAnnouncement_replies s.rli (buildAnnouncement s)).symm ▸ hr

theorem Rli.handInReply_leaves (r : Rli) (x : Reply) : (r.handInReply x).slot = r.slot ∧
    (r.handInReply x).group = r.group ∧ ∀ y ∈ r.replies, y ∈ (r.handInReply x).replies := by
  unfold Rli.handInReply
  split
  · exact ⟨rfl, rfl, fun y hy => List.mem_append_left _ hy⟩
  · exact ⟨rfl, rfl, fun y hy => hy⟩

protected theorem Kept.handInReply (h : Kept a b s) (x : Reply) : Kept a b (handInReply x s) := by
  obtain ⟨slot, group, replies⟩ := s.rli.handInReply_leaves x
  exact h.setRli _ slot group (·.handInReply x) replies

protected theorem Kept.frameEnd (h : Kept a b s) (intact : Bool) : Kept a b (s.setRli (s.rli.frameEnd intact)) := by
  refine h.setRli _ rfl rfl (fun empty silent => ?_) fun _ hr => hr
  obtain ⟨buffer, replies, -⟩ := empty silent
  exact ⟨buffer, replies, rfl⟩

protected theorem Kept.emptyBuffers (h : Kept a b s) (hv : s.vdu = b.vdu) : Kept a b (s.setRli s.rli.emptyBuffers) := by
  obtain ⟨-, slot, group, -⟩ := s.rli.abandon_leaves
  exact h.setLine hv slot group fun _ => s.rli.emptyBuffers_silentEmpty

protected theorem Kept.enterSilent (h : Kept a b s) (hv : s.vdu = b.vdu) : Kept a b (s.setRli s.rli.enterSilent) := by
  obtain ⟨idle, slot, group, -⟩ := s.rli.abandon_leaves
  exact h.setLine hv slot group fun _ _ => ⟨rfl, rfl, idle⟩

/-- In a condition that is not TRANSMITTING nothing is sent. -/
theorem Kept.setIdleLine (h : Kept a b s) {x : Rli} (slot : x.slot = s.rli.slot) (group : x.group = s.rli.group)
    (silent : x.silent = s.rli.silent) (buffer : x.buffer = s.rli.buffer) (replies : x.replies = s.rli.replies)
    (idle : x.contention.sending = false) : Kept a b (s.setRli x) := by
  refine h.setRli _ slot group (fun empty hs => ?_) fun _ hr => replies ▸ hr
  obtain ⟨noBuffer, noReplies, -⟩ := empty (silent ▸ hs)
  exact ⟨buffer.trans noBuffer, replies.trans noReplies, idle⟩

protected theorem Kept.collide (h : Kept a b s) : Kept a b (s.setRli s.rli.collide) := by
  obtain ⟨idle, slot, group, silent, buffer⟩ := s.rli.abandon_leaves
  unfold Rli.collide
  split
  · exact h.setIdleLine slot group silent buffer s.rli.abandon_replies idle
  · exact h

/-- A station starts to send at a position only where it is not SILENT (R17). -/
theorem Rli.positionStart_leaves (r : Rli) (p : Nat) : (r.positionStart p).slot = r.slot ∧
    (r.positionStart p).group = r.group ∧ (r.SilentEmpty → (r.positionStart p).SilentEmpty) := by
  have here : r.SilentEmpty → { r with contention := .window p }.SilentEmpty := fun empty silent =>
    ⟨(empty silent).1, (empty silent).2.1, rfl⟩
  unfold Rli.positionStart
  dsimp only
  split
  · split
    · exact ⟨rfl, rfl, here⟩
    · split
      · exact ⟨rfl, rfl, here⟩
      · rename_i loud
        split
        · exact ⟨rfl, rfl, here⟩
        · exact ⟨rfl, rfl, fun _ silent => by simp_all⟩
  · exact ⟨rfl, rfl, id⟩

protected theorem Kept.positionStart (h : Kept a b s) (p : Nat) : Kept a b (s.setRli (s.rli.positionStart p)) := by
  obtain ⟨slot, group, silent⟩ := s.rli.positionStart_leaves p
  exact h.setRli _ slot group silent fun _ hr => (s.rli.positionStart_replies p).symm ▸ hr

theorem Rli.sentInFull_leaves (r : Rli) (tx : Tx) : (r.sentInFull tx).slot = r.slot ∧
    (r.sentInFull tx).group = r.group ∧ (r.SilentEmpty → (r.sentInFull tx).SilentEmpty) := by
  unfold Rli.sentInFull
  dsimp only
  split
  · refine ⟨rfl, rfl, fun empty silent => ?_⟩
    obtain ⟨buffer, replies, -⟩ := empty silent
    exact ⟨by simp [buffer], replies, rfl⟩
  · refine ⟨rfl, rfl, fun empty silent => ?_⟩
    obtain ⟨buffer, replies, -⟩ := empty silent
    exact ⟨buffer, by simp [replies], rfl⟩

protected theorem Kept.sentInFull (h : Kept a b s) (hv : s.vdu = b.vdu) (tx : Tx) :
    Kept a b (s.setRli (s.rli.sentInFull tx)) := by
  obtain ⟨slot, group, silent⟩ := s.rli.sentInFull_leaves tx
  exact h.setLine hv slot group silent

/-! ## Claims (R50 to R65) -/

protected theorem Kept.takeFirst (h : Kept a b s) : Kept a b (takeFirst s).2 := h.setChoices _

protected theorem Kept.givePlace (h : Kept a b s) : Kept a b (givePlace s) := by
  unfold Machine.givePlace
  split
  · exact .ite (h.setOpu _ (by rfl)) h
  · exact h

protected theorem Kept.takeClaim (h : Kept a b s) (q : ClaimRequest) : Kept a b (takeClaim q s) := by
  unfold Machine.takeClaim
  exact Kept.givePlace (Kept.handIn (h.setClu _ (by simp)))

protected theorem Kept.deferRequest (h : Kept a b s) (q : ClaimRequest) : Kept a b (deferRequest q s) := by
  unfold Machine.deferRequest
  dsimp only
  split
  · exact h.setClu _ (by rfl)
  · exact .ite (h.setClu _ (by rfl)) (.ite h.takeFirst (h.takeFirst.setClu _ (by rfl)))

protected theorem Kept.requestClaim (h : Kept a b s) (q : ClaimRequest) : Kept a b (requestClaim q s) := by
  unfold Machine.requestClaim
  split
  · exact h.takeClaim q
  · exact h.deferRequest q

protected theorem Kept.takeDeferred (h : Kept a b s) : Kept a b (takeDeferred s) := by
  unfold Machine.takeDeferred
  split
  · exact (h.setClu _ (by rfl)).takeClaim _
  · exact h

protected theorem Kept.removeClaim (h : Kept a b s) : Kept a b (removeClaim s) := (h.setClu _ (by rfl)).handIn

protected theorem Kept.dropDeferred (h : Kept a b s) (w : Requester) (r : Resource) :
    Kept a b (dropDeferred w r s) := by
  unfold Machine.dropDeferred
  split
  · exact .ite (h.setClu _ (by rfl)) h
  · exact h

protected theorem Kept.releaseClaim (h : Kept a b s) (w : Requester) (r : Resource) : Kept a b (releaseClaim w r s) :=
  .ite (h.dropDeferred w r).removeClaim.takeDeferred (h.dropDeferred w r)

protected theorem Kept.releaseAllOf (h : Kept a b s) (w : Requester) : Kept a b (releaseAllOf w s) := by
  unfold Machine.releaseAllOf
  exact (((((h.dropDeferred _ _).dropDeferred _ _).dropDeferred _ _).releaseClaim _ _).releaseClaim _ _).releaseClaim
    _ _

protected theorem Kept.releaseEverything (h : Kept a b s) : Kept a b (releaseEverything s) :=
  .ite (h.setClu _ (by rfl)).handIn (h.setClu _ (by rfl))

protected theorem Kept.setNoisy (h : Kept a b s) : Kept a b (setNoisy s) := .ite h (h.setClu _ (by rfl)).handIn

protected theorem Kept.clearNoisy (h : Kept a b s) : Kept a b (clearNoisy s) := .ite (h.setClu _ (by rfl)).handIn h

protected theorem Kept.audibleRequest (h : Kept a b s) : Kept a b (audibleRequest s).2 := by
  unfold Machine.audibleRequest
  split
  · exact h
  · split
    · exact h.setClu _ (by rfl)
    · exact h.setNoisy

protected theorem Kept.withdrawAudible (h : Kept a b s) : Kept a b (withdrawAudible s) := h.setClu _ (by rfl)

protected theorem Kept.settleNotice (h : Kept a b s) (sent : Option AnnClaim) : Kept a b (settleNotice sent s) := by
  unfold Machine.settleNotice
  split
  · exact .ite (h.setClu _ (by rfl)) h
  · exact h

/-! ## The prompt (R180 to R190) -/

protected theorem Kept.challengeSnapshot (h : Kept a b s) : Kept a b (challengeSnapshot s) := by
  unfold Machine.challengeSnapshot
  split
  · exact h
  · rename_i inFlight
    split
    · exact h
    · exact h.setRecord inFlight _ (by rfl)

protected theorem Kept.challengeEntry (h : Kept a b s) : Kept a b (challengeEntry s) := by
  unfold Machine.challengeEntry
  exact (h.setOpu _ (by rfl)).challengeSnapshot.writeChallenge _

protected theorem Kept.promptBegin (h : Kept a b s) : Kept a b (promptBegin s) := by
  unfold Machine.promptBegin
  split
  · dsimp only
    split
    · exact (h.setOpu _ (by rfl)).setOpu _ (by rfl)
    · exact (h.setOpu _ (by rfl)).challengeEntry
    · exact (h.setOpu _ (by rfl)).challengeEntry
  · exact h

protected theorem Kept.promptHandover (h : Kept a b s) (p : Prompt) : Kept a b (promptHandover p s) :=
  h.setOpu _ (by rfl)

protected theorem Kept.promptEnd (h : Kept a b s) : Kept a b (promptEnd s) := .ite h (h.setOpu _ (by rfl))

/-- The challenge field put back from the fifth restore place, if anything is there (R186). -/
def fifthRestored (s : State) : State :=
  match s.ckr with
  | none => s
  | some c =>
    match c.fifth with
    | none => s
    | some e => applyRestore e (s.setCkr (some { c with fifth := none }))

/-- The OPU after a right answer has been counted (R186). -/
def Opu.answered (o : Opu) : Opu :=
  { o with attempts := o.attempts + 1, errors := o.errors - 1, entry := [], lookTimer := none }

theorem correctAnswer_eq (s : State) : correctAnswer s =
    let u := fifthRestored (s.setOpu s.opu.answered)
    if u.opu.asksAfterwards then (u.setOpu { u.opu with state := .yesNo }, {})
    else (u.setOpu (u.opu.toDone .pass), { result := some (.pass, some u.opu.attempts) }) :=
  rfl

protected theorem Kept.fifthRestored (h : Kept a b s) : Kept a b (fifthRestored s) := by
  unfold Machine.fifthRestored
  split
  · exact h
  · rename_i inFlight
    split
    · exact h
    · exact (h.setRecord inFlight _ (by rfl)).applyRestore _

protected theorem Kept.correctAnswer (h : Kept a b s) : Kept a b (correctAnswer s).1 := by
  have restored : Kept a b (fifthRestored (s.setOpu s.opu.answered)) := Kept.fifthRestored (h.setOpu _ (by rfl))
  rw [correctAnswer_eq]
  dsimp only
  split
  · exact restored.setOpu _ (by rfl)
  · exact restored.setOpu _ (by rfl)

protected theorem Kept.failedAttempt (h : Kept a b s) : Kept a b (failedAttempt s).1 := by
  unfold Machine.failedAttempt
  dsimp only
  split
  · exact h.setOpu _ (by rfl)
  · exact h.setOpu _ (by rfl)

protected theorem Kept.digitKey (h : Kept a b s) (d : Nat) : Kept a b (digitKey d s).1 := by
  unfold Machine.digitKey
  dsimp only
  split
  · split
    · exact h.failedAttempt
    · split
      · exact h.setOpu _ (by rfl)
      · split
        · exact (h.setOpu _ (by rfl)).correctAnswer
        · exact (h.setOpu _ (by rfl)).failedAttempt
  · exact h

protected theorem Kept.clearKey (h : Kept a b s) : Kept a b (clearKey s) := by
  unfold Machine.clearKey
  split
  · exact h.setOpu _ (by rfl)
  · exact h

protected theorem Kept.passKey (h : Kept a b s) : Kept a b (passKey s).1 := by
  unfold Machine.passKey
  split
  · exact h.setOpu _ (by rfl)
  · exact h

protected theorem Kept.failKey (h : Kept a b s) : Kept a b (failKey s).1 := by
  unfold Machine.failKey
  split
  · exact h.setOpu _ (by rfl)
  · exact h.setOpu _ (by rfl)
  · exact h

protected theorem Kept.promptTimeout (h : Kept a b s) : Kept a b (promptTimeout s).1 := by
  unfold Machine.promptTimeout
  split
  · exact h.setOpu _ (by rfl)
  · exact h.setOpu _ (by rfl)
  · exact h

/-! ## The rail (R94 to R109) -/

/-- What a change of the rail's state makes of the rail (R95, R102). -/
def Spu.moved (r : RailState) (u : Spu) : Spu :=
  let keep := r.outputOn && u.rail.outputOn
  { u with
    rail := r
    effective := if r.outputOn then u.effective else 0
    crank := if r = .cranking then u.crank else none
    shortCount := if keep then u.shortCount else 0
    overCurrentCount := if keep then u.overCurrentCount else 0
    overVoltageCount := if keep then u.overVoltageCount else 0 }

theorem railTo_eq (r : RailState) (s : State) : railTo r s =
    if s.spu.rail.transmits && !r.transmits then stopTraffic (s.setSpu (s.spu.moved r)) else s.setSpu (s.spu.moved r) :=
  rfl

theorem railTo_spu (r : RailState) (s : State) : (railTo r s).spu = s.spu.moved r := by
  rw [railTo_eq]
  split
  · exact stopTraffic_spu _
  · rfl

/-- To a transmitting state the traffic is not stopped. -/
theorem railTo_of_transmits {r : RailState} (h : r.transmits = true) (s : State) :
    railTo r s = s.setSpu (s.spu.moved r) := by
  simp [railTo_eq, h]

/-- Nor is it from a state that does not transmit. -/
theorem railTo_of_not_transmits {s : State} (h : s.spu.rail.transmits = false) (r : RailState) :
    railTo r s = s.setSpu (s.spu.moved r) := by
  simp [railTo_eq, h]

protected theorem Kept.railTo (h : Kept a b s) (r : RailState) : Kept a b (railTo r s) := by
  have moved : Kept a b (s.setSpu (s.spu.moved r)) := by
    refine h.setSpu _ (by rfl) fun ⟨_, _, ⟨setpoint, effective, _⟩, _⟩ => ⟨fun off => if_neg (ne_true_of_eq_false off),
      setpoint, ?_⟩
    unfold Spu.moved
    dsimp only
    split
    · exact effective
    · exact Nat.zero_le _
  rw [railTo_eq]
  exact .ite moved.stopTraffic moved

theorem roundTo10_le (mv : Nat) : roundTo10 mv ≤ mv := Nat.div_mul_le_self mv 10

protected theorem Kept.powerUp (h : Kept a b s) {target : Nat} (ht : OffMeansOff s → target ≤ 18000) (rate : Nat) :
    Kept a b (powerUp target rate s) := by
  unfold Machine.powerUp
  refine Kept.railTo (h.setSpu _ (by rfl) fun off => ?_) _
  obtain ⟨-, zero, ⟨-, effective, -⟩, -⟩ := id off
  exact ⟨zero, (roundTo10_le target).trans (ht off), effective⟩

protected theorem Kept.rampGo (h : Kept a b s) : Kept a b (rampGo s) := .ite (h.railTo _) h

/-- The arrival at ON is one update of the rail: a rail that is ON transmits. -/
theorem arriveOn_eq (s : State) : arriveOn s = s.setSpu (Spu.moved .on { s.spu with
    effective := s.spu.setpoint
    outputMv := if s.spu.effective = s.spu.setpoint then s.spu.outputMv else s.spu.setpoint }) :=
  railTo_of_transmits rfl _

protected theorem Kept.arriveOn (h : Kept a b s) : Kept a b (arriveOn s) := by
  rw [arriveOn_eq]
  exact h.setSpu _ (by rfl) fun ⟨_, _, ⟨setpoint, _⟩, _⟩ => ⟨fun off => (nomatch off), setpoint, setpoint⟩

protected theorem Kept.rampArrive (h : Kept a b s) : Kept a b (rampArrive s) := by
  unfold Machine.rampArrive
  exact (h.arriveOn.setSpuMarks _ (by rfl)).startTraffic

protected theorem Kept.slewTo (h : Kept a b s) {target : Nat} (ht : OffMeansOff s → target ≤ 18000) (rate : Nat) :
    Kept a b (slewTo target rate s) := by
  have slews : Kept a b (railTo .slewing (s.setSpu { s.spu with setpoint := roundTo10 target, rate := rate })) :=
    Kept.railTo (h.setSpu _ (by rfl) fun off => by
      obtain ⟨-, zero, ⟨-, effective, -⟩, -⟩ := id off
      exact ⟨zero, (roundTo10_le target).trans (ht off), effective⟩) _
  exact .ite slews.arriveOn slews

protected theorem Kept.crankTo (h : Kept a b s) (dip dipTime rate : Nat) : Kept a b (crankTo dip dipTime rate s) := by
  refine (h.railTo .cranking).setSpu _ (by rfl) fun ⟨_, _, ⟨setpoint, _⟩, _⟩ => ?_
  rw [railTo_spu] at setpoint ⊢
  exact ⟨fun off => (nomatch off), setpoint, (min_le_right _ _).trans setpoint⟩

protected theorem Kept.crankRecovery (h : Kept a b s) : Kept a b (crankRecovery s) := h.setSpuMarks _ (by rfl)

protected theorem Kept.arriveOff (h : Kept a b s) : Kept a b (arriveOff s) :=
  (h.railTo _).setSpuMarks _ (by rfl)

protected theorem Kept.beginDischarge (h : Kept a b s) : Kept a b (beginDischarge s) := by
  have begun : Kept a b ((railTo .discharging s).setSpu { (railTo .discharging s).spu with
      dischargeTimer := some Config.dischargeMs, offTimer := none, recovery := none }) :=
    (h.railTo _).setSpuMarks _ (by rfl)
  exact .ite begun.arriveOff begun

protected theorem Kept.cancelRetry (h : Kept a b s) : Kept a b (cancelRetry s) :=
  .ite ((h.releaseClaim _ _).setSpuMarks _ (by rfl)) h

protected theorem Kept.offRequest (h : Kept a b s) : Kept a b (offRequest s) := by
  have discharged : Kept a b (beginDischarge (cancelRetry s)) := h.cancelRetry.beginDischarge
  unfold Machine.offRequest
  split
  · exact h
  · exact .ite discharged (h.railTo _)
  · exact discharged
  · exact discharged
  · exact discharged
  · exact discharged
  · exact h
  · exact discharged
  · exact h

protected theorem Kept.powerUpCancel (h : Kept a b s) : Kept a b (powerUpCancel s) := by
  unfold Machine.powerUpCancel
  dsimp only
  split
  · exact h
  · split
    · exact h.railTo _
    · exact .ite (.ite h.takeFirst.rampArrive h.takeFirst.beginDischarge) h.beginDischarge
    · exact h

protected theorem Kept.enterFaultOff (h : Kept a b s) : Kept a b (enterFaultOff s) :=
  (h.railTo _).setSpuMarks _ (by rfl)

protected theorem Kept.enterSafe (h : Kept a b s) : Kept a b (enterSafe s) := by
  unfold Machine.enterSafe
  exact (((h.railTo _).setSpuMarks _ (by rfl)).releaseClaim _ _).setSpuMarks _ (by rfl)

protected theorem Kept.leaveSafe (h : Kept a b s) : Kept a b (leaveSafe s) :=
  .ite ((h.railTo _).setSpuMarks _ (by rfl)) h

/-! ## The verdicts (R168 to R174) -/

theorem merged_append (l l' : List VerdictRecord) (m : Summary) : merged (l ++ l') m = merged l' (merged l m) := by
  simp [merged]

/-- A sequence number counted on. -/
theorem seq_add_one (n : Half) (k : Nat) : n + BitVec.ofNat 16 k + 1 = n + BitVec.ofNat 16 (k + 1) := by
  rw [BitVec.add_assoc, show (1 : Half) = BitVec.ofNat 16 1 from rfl, ← BitVec.ofNat_add]

/-- One more record joins those formed. -/
theorem FormedRecords.formVerdict {l : List VerdictRecord} (h : FormedRecords a b s l) (c : VerdictContent) :
    FormedRecords a b (formVerdict c s) (l ++ [recordOf c s]) := by
  obtain ⟨ring, seq, seqs, -, summary⟩ := h
  unfold FormedRecords
  rw [formVerdict_vdu]
  refine ⟨?_, ?_, fun i r hr => ?_, ?_, fun u => ?_⟩
  · simp [vduWith, recordOf, ring]
  · simpa [vduWith, seq] using seq_add_one b.vdu.seq l.length
  · rcases Nat.lt_trichotomy i l.length with lt | eq | gt
    · exact seqs i r (by rwa [List.getElem?_append_left lt] at hr)
    · subst eq
      have new : recordOf c s = r := by simpa using hr
      rw [← new, recordOf, seq, seq_add_one]
    · simp [List.getElem?_eq_none_iff.mpr (show (l ++ [recordOf c s]).length ≤ i by simp; omega)] at hr
  · simp [vduWith, recordOf]
  · rcases summary u with all | ⟨next, taken, l1, l2, i, split, rest, mem⟩
    · exact .inl (by simp [vduWith, all, merged, recordOf])
    · refine .inr ⟨next, by simpa using taken, l1, l2 ++ [recordOf c s], i, by simp [split],
        by simp [vduWith, rest, merged, recordOf], ?_⟩
      exact (Rli.handInReply_leaves _ _).2.2 _ mem

protected theorem Kept.formVerdict (h : Kept a b s) (c : VerdictContent) : Kept a b (formVerdict c s) := by
  obtain ⟨l, hl⟩ := h.formed
  have handed := h.handInReply (.verdict (recordOf c s))
  exact { handed with formed := ⟨_, hl.formVerdict c⟩ }

protected theorem Kept.formAll (h : Kept a b s) (xs : List VerdictContent) : Kept a b (formAll xs s) := by
  unfold Machine.formAll
  exact h.foldl fun _ x ht => ht.formVerdict x

theorem noTakeNext_congr {s t : State} (h : t.pending = s.pending) : NoTakeNext t ↔ NoTakeNext s := by
  simp [NoTakeNext, h]

/-- A TAKE_SUMMARY that waits, falling among the records of a flush, takes those before it with it when its frame is
QUEUED, and else leaves the summary as it is (R173, R174). -/
theorem FormedRecords.takeAmong {l : List VerdictRecord} (h : FormedRecords a b s l) (hn : ¬ NoTakeNext b)
    (ht : s.taken = false) : FormedRecords a b ((takeSummary s).setTaken true) l := by
  obtain ⟨ringSame, seqSame, lastSame⟩ := takeSummary_records s
  obtain ⟨ring, seq, seqs, last, summary⟩ := h
  refine ⟨ringSame.trans ring, seqSame.trans seq, seqs, lastSame.trans last, fun u => ?_⟩
  have all := (summary u).resolve_right fun ⟨_, taken, _⟩ => nomatch ht.symm.trans taken
  by_cases room : s.rli.hasRoom = true
  · refine .inr ⟨hn, rfl, l, [], s.bem.current, by simp, ?_, ?_⟩
    · simp [takeSummary, room, merged, Summary.empty]
    · simp [takeSummary, room, Rli.handInReply, summaryFrame, all, seq]
  · refine .inl ?_
    simp [takeSummary, room, all]

theorem Kept.takeAmong (h : Kept a b s) (hn : ¬ NoTakeNext s) (ht : s.taken = false) :
    Kept a b ((takeSummary s).setTaken true) := by
  obtain ⟨l, hl⟩ := h.formed
  have formed := hl.takeAmong (fun next => hn ((noTakeNext_congr h.pending).mpr next)) ht
  have handed := h.handInReply (.summary (summaryFrame s))
  unfold takeSummary at formed ⊢
  dsimp only at formed ⊢
  split
  · rename_i room
    rw [if_pos room] at formed
    exact { handed with formed := ⟨l, formed⟩ }
  · rename_i room
    rw [if_neg room] at formed
    exact { handed with formed := ⟨l, formed⟩ }

/-- The summary may be taken or emptied by a command that is licensed to it. -/
theorem Kept.setSummary (h : Kept a b s) (ha : a.summary = true) (m : Summary) :
    Kept a b (s.setVdu { s.vdu with summary := m }) :=
  { h with
    formed := by
      obtain ⟨l, ring, seq, seqs, last, -⟩ := h.formed
      exact ⟨l, ring, seq, seqs, last, fun u => (nomatch ha.symm.trans u)⟩ }

protected theorem Kept.takeSummary (h : Kept a b s) (ha : a.summary = true) : Kept a b (takeSummary s) :=
  .ite ((h.handInReply _).setSummary ha _) (h.handInReply _)

end Sys2Proof.Machine
end
section
/-! The rules of `Kept` for the channels and windows (chapters 7 and 8), where what measures is what the check in flight
measures with. -/

namespace Sys2Proof.Machine

/-! ## What a light channel keeps of its calibration (R140), and that it does not leave HELD by itself (R137, R138) -/

theorem LightChannel.completeBlock_cal (c : LightChannel) : c.completeBlock.cal = c.cal := by
  unfold LightChannel.completeBlock
  dsimp only
  split
  · exact (LightChannel.lockedBlock_cal_gain _ _ _).1
  · exact (LightChannel.rangingBlock_cal_gain _ _ _).1

theorem LightChannel.blockSample_cal (c : LightChannel) (raw : Code) : (c.blockSample raw).cal = c.cal := by
  unfold LightChannel.blockSample
  dsimp only
  split
  · exact LightChannel.completeBlock_cal _
  · rfl

theorem LightChannel.windowSample_cal (c : LightChannel) (raw : Code) : (c.windowSample raw).cal = c.cal := by
  unfold LightChannel.windowSample
  dsimp only
  split
  · split <;> rfl
  · rfl

theorem LightChannel.sample_cal (c : LightChannel) (raw : Code) : (c.sample raw).1.cal = c.cal := by
  unfold LightChannel.sample
  split
  · rfl
  · exact c.blockSample_cal raw
  · exact c.blockSample_cal raw
  · dsimp only
    split
    · exact c.windowSample_cal raw
    · exact c.windowSample_cal raw

theorem LightChannel.samples_cal (c : LightChannel) (xs : List Code) : (c.samples xs).1.cal = c.cal := by
  induction xs generalizing c with
  | nil => rfl
  | cons x xs ih =>
    have next := c.sample_cal x
    rw [LightChannel.samples]
    split
    · rename_i reported
      rwa [reported] at next
    · rename_i c1 unreported
      rw [unreported] at next
      exact (ih c1).trans next

theorem LightChannel.rangeExpiry_cal (c : LightChannel) : c.rangeExpiry.1.cal = c.cal := by
  unfold LightChannel.rangeExpiry
  split <;> rfl

theorem LightChannel.stop_cal (c : LightChannel) : c.stop.cal = c.cal := by
  unfold LightChannel.stop
  split <;> rfl

theorem LightChannel.stop_state (c : LightChannel) : c.stop.state = .held := by
  unfold LightChannel.stop
  split
  · assumption
  · rfl

theorem LightChannel.handover_cal (c : LightChannel) (m : LightMeas) : (c.handover m).cal = c.cal := by
  unfold LightChannel.handover
  dsimp only
  split <;> rfl

theorem LightChannel.sample_of_held {c : LightChannel} (h : c.state = .held) (raw : Code) :
    c.sample raw = (c, none) := by
  simp [LightChannel.sample, h]

theorem LightChannel.samples_of_held {c : LightChannel} (h : c.state = .held) (xs : List Code) :
    c.samples xs = (c, none) := by
  induction xs with
  | nil => rfl
  | cons x xs ih =>
    rw [LightChannel.samples, sample_of_held h]
    exact ih

/-- After its report a channel is HELD (R151). -/
theorem LightChannel.sample_held_of_report {c : LightChannel} {raw : Code} {r : LightReport}
    (h : (c.sample raw).2 = some r) : (c.sample raw).1.state = .held := by
  unfold LightChannel.sample at h ⊢
  split at h
  · cases h
  · cases h
  · cases h
  · dsimp only at h ⊢
    split at h
    · rename_i complete
      rw [if_pos complete]
      rfl
    · cases h

theorem LightChannel.samples_held_of_report {c : LightChannel} {xs : List Code} {r : LightReport}
    (h : (c.samples xs).2 = some r) : (c.samples xs).1.state = .held := by
  induction xs generalizing c with
  | nil => cases h
  | cons x xs ih =>
    rw [LightChannel.samples] at h ⊢
    split at h
    · rename_i c1 r1 reported
      have held := sample_held_of_report (c := c) (raw := x) (r := r1) (by rw [reported])
      rwa [reported] at held
    · exact ih h

theorem LightChannel.rangeExpiry_of_held {c : LightChannel} (h : c.state = .held) : c.rangeExpiry = (c, false) := by
  simp [LightChannel.rangeExpiry, h]

theorem LightChannel.rangeExpiry_held_of_report {c : LightChannel} (h : c.rangeExpiry.2 = true) :
    c.state ≠ .held ∧ c.rangeExpiry.1.state = .held := by
  unfold LightChannel.rangeExpiry at h ⊢
  split at h
  · rename_i ranging
    exact ⟨fun held => (nomatch ranging.symm.trans held), rfl⟩
  · cases h
  · cases h

/-! ## The CSU is IDLE after a report (R156, R159, R161) -/

theorem Csu.currentSample_window (c : Csu) (ma : Nat) :
    ((c.currentSample ma).2 = none → (c.currentSample ma).1.window = c.window) ∧
    ∀ v, (c.currentSample ma).2 = some v → c.window = .current ∧ (c.currentSample ma).1.window = .idle := by
  unfold Csu.currentSample
  split
  · rename_i current
    dsimp only
    split
    · exact ⟨fun h => (nomatch h), fun _ _ => ⟨current, rfl⟩⟩
    · exact ⟨fun _ => rfl, fun _ h => (nomatch h)⟩
  · exact ⟨fun _ => rfl, fun _ h => (nomatch h)⟩

theorem Csu.currentSamples_window (c : Csu) (xs : List Nat) :
    ((c.currentSamples xs).2 = none → (c.currentSamples xs).1.window = c.window) ∧
    ∀ v, (c.currentSamples xs).2 = some v → c.window = .current ∧ (c.currentSamples xs).1.window = .idle := by
  induction xs generalizing c with
  | nil => exact ⟨fun _ => rfl, fun _ h => (nomatch h)⟩
  | cons x xs ih =>
    have next := c.currentSample_window x
    rw [Csu.currentSamples]
    split
    · rename_i reported
      rw [reported] at next
      exact ⟨fun h => (nomatch h), fun _ _ => next.2 _ rfl⟩
    · rename_i c1 unreported
      rw [unreported] at next
      obtain ⟨same, reports⟩ := ih c1
      exact ⟨fun h => (same h).trans (next.1 rfl),
        fun v h => ⟨(next.1 rfl).symm.trans (reports v h).1, (reports v h).2⟩⟩

theorem Csu.detect_window (c : Csu) (code : Nat) : (c.detect code).window = c.window := by
  unfold Csu.detect
  dsimp only
  (repeat' split) <;> rfl

theorem Csu.soundSample_window (c : Csu) (raw : Code) :
    ((c.soundSample raw).2 = none → (c.soundSample raw).1.window = c.window) ∧
    ∀ v, (c.soundSample raw).2 = some v → c.window = .sound ∧ (c.soundSample raw).1.window = .idle := by
  unfold Csu.soundSample
  split
  · rename_i sound
    dsimp only
    split
    · exact ⟨fun h => (nomatch h), fun _ _ => ⟨sound, rfl⟩⟩
    · exact ⟨fun _ => c.detect_window _, fun _ h => (nomatch h)⟩
  · exact ⟨fun _ => rfl, fun _ h => (nomatch h)⟩

theorem Csu.soundSamples_window (c : Csu) (xs : List Code) :
    ((c.soundSamples xs).2 = none → (c.soundSamples xs).1.window = c.window) ∧
    ∀ v, (c.soundSamples xs).2 = some v → c.window = .sound ∧ (c.soundSamples xs).1.window = .idle := by
  induction xs generalizing c with
  | nil => exact ⟨fun _ => rfl, fun _ h => (nomatch h)⟩
  | cons x xs ih =>
    have next := c.soundSample_window x
    rw [Csu.soundSamples]
    split
    · rename_i reported
      rw [reported] at next
      exact ⟨fun h => (nomatch h), fun _ _ => next.2 _ rfl⟩
    · rename_i c1 unreported
      rw [unreported] at next
      obtain ⟨same, reports⟩ := ih c1
      exact ⟨fun h => (same h).trans (next.1 rfl),
        fun v h => ⟨(next.1 rfl).symm.trans (reports v h).1, (reports v h).2⟩⟩

variable {a : Licence} {b s : State}

/-! ## Where one unit measures, no other does (R137, R155) -/

theorem OneMeasurement.channels_held (h : OneMeasurement s) (hw : s.csu.window ≠ .idle) (n : Fin 8) :
    s.ltu[n].state = .held := by
  by_contra out
  obtain ⟨k, l, hk, -, -, light, -⟩ := h.1 n out
  obtain ⟨k', hk', -, -, meas⟩ := h.2 hw
  cases hk.symm.trans hk'
  rcases meas with ⟨n, current⟩ | ⟨n, t, hy, sound⟩
  · cases light.symm.trans current
  · cases light.symm.trans sound

theorem OneMeasurement.others_held (h : OneMeasurement s) {n : Fin 8} (hn : s.ltu[n].state ≠ .held) :
    (∀ i : Fin 8, i ≠ n → s.ltu[i].state = .held) ∧ s.csu.window = .idle := by
  constructor
  · intro i other
    by_contra out
    obtain ⟨k, l, hk, -, -, light, channel⟩ := h.1 n hn
    obtain ⟨k', l', hk', -, -, light', channel'⟩ := h.1 i out
    cases hk.symm.trans hk'
    cases light.symm.trans light'
    exact other (Fin.ext (channel'.symm.trans channel))
  · by_contra opened
    exact hn (h.channels_held opened n)

/-! ## The units changed -/

theorem updateChannel_ltu (n : Nat) (f : LightChannel → LightChannel) (s : State) (i : Fin 8) :
    (updateChannel n f s).ltu[i] = if n = i then f (channelAt s n) else s.ltu[i] :=
  getElem_setEntry _ _ _ i

protected theorem Kept.setLtu (h : Kept a b s) (x : Vector LightChannel 8)
    (cal : a.light = false → ∀ n : Fin 8, x[n].cal = s.ltu[n].cal)
    (one : OneMeasurement s → OneMeasurement (s.setLtu x)) : Kept a b (s.setLtu x) :=
  { h with
    light := fun u n => (cal u n).trans (h.light u n)
    off := fun hb => by
      obtain ⟨silent, zero, levels, hone⟩ := h.off hb
      exact ⟨silent, zero, levels, one hone⟩ }

/-- A channel changed, its calibration kept unless a LIGHT section is licensed; it does not leave HELD. -/
protected theorem Kept.updateChannel (h : Kept a b s) (n : Nat) {f : LightChannel → LightChannel}
    (cal : a.light = false → (f (channelAt s n)).cal = (channelAt s n).cal)
    (held : (channelAt s n).state = .held → (f (channelAt s n)).state = .held) : Kept a b (updateChannel n f s) := by
  refine h.setLtu _ (fun u => setEntry_definition LightChannel.cal (cal u))
    fun ⟨light, window⟩ => ⟨fun i out => ?_, window⟩
  refine light i fun still => out ?_
  refine (congrArg LightChannel.state (updateChannel_ltu n f s i)).trans ?_
  split
  · rename_i same
    subst same
    exact held (by rw [channelAt_fin]; exact still)
  · exact still

/-- A measurement stopped leaves its own unit off, and every other as it is. -/
theorem stopMeasurement_units (m : Measurement) (s : State) :
    (∀ n : Fin 8, s.ltu[n].state = .held → (stopMeasurement m s).ltu[n].state = .held) ∧
    (s.csu.window = .idle → (stopMeasurement m s).csu.window = .idle) ∧
    ∀ l, ∀ n : Fin 8, m = .light l → l.channel = n.val → (stopMeasurement m s).ltu[n].state = .held := by
  cases m with
  | light l =>
    have channel (n : Fin 8) : (stopMeasurement (.light l) s).ltu[n] =
        if l.channel = n then (channelAt s l.channel).stop else s.ltu[n] :=
      updateChannel_ltu _ _ _ n
    refine ⟨fun n still => ?_, id, fun k n light at' => ?_⟩
    · rw [channel]
      split
      · exact LightChannel.stop_state _
      · exact still
    · cases light
      rw [channel, if_pos at']
      exact LightChannel.stop_state _
  | current k => exact ⟨fun _ => id, fun _ => rfl, fun _ _ h => (nomatch h)⟩
  | sound k t hy => exact ⟨fun _ => id, fun _ => rfl, fun _ _ h => (nomatch h)⟩
  | busfield f => exact ⟨fun _ => id, id, fun _ _ h => (nomatch h)⟩

theorem stopWork_of_measuring {c : CheckRecord} {m : Measurement} (measuring : c.stage = .measuring)
    (meas : c.order.meas = some m) (s : State) : stopWork c s = stopMeasurement m (powerUpCancel s) := by
  simp [stopWork, measuring, meas]

/-- A unit that does not measure is left so (R87). -/
theorem stopWork_units (c : CheckRecord) (s : State) :
    (∀ n : Fin 8, s.ltu[n].state = .held → (stopWork c s).ltu[n].state = .held) ∧
    (s.csu.window = .idle → (stopWork c s).csu.window = .idle) := by
  have stopped : ∀ t : State, t.ltu = s.ltu → t.csu = s.csu → ∀ m,
      (∀ n : Fin 8, s.ltu[n].state = .held → (stopMeasurement m t).ltu[n].state = .held) ∧
      (s.csu.window = .idle → (stopMeasurement m t).csu.window = .idle) := fun t ltu csu m => by
    obtain ⟨held, idle, -⟩ := stopMeasurement_units m t
    rw [ltu] at held
    rw [csu] at idle
    exact ⟨held, idle⟩
  unfold stopWork
  dsimp only
  split
  · split <;> simp_all
  · split
    · exact stopped _ (by simp) (by simp) _
    · simp

/-- The end of a check leaves no unit measuring (R87). -/
theorem OneMeasurement.stopWork (h : OneMeasurement s) {c : CheckRecord} (hc : s.ckr = some c) :
    AllIdle (stopWork c s) := by
  obtain ⟨held, idle⟩ := stopWork_units c s
  constructor
  · intro n
    by_cases still : s.ltu[n].state = .held
    · exact held n still
    · obtain ⟨k, l, hk, measuring, -, meas, channel⟩ := h.1 n still
      cases hc.symm.trans hk
      obtain ⟨-, -, light⟩ := stopMeasurement_units (.light l) (powerUpCancel s)
      rw [stopWork_of_measuring measuring meas]
      exact light l n rfl channel
  · by_cases closed : s.csu.window = .idle
    · exact idle closed
    · obtain ⟨k, hk, measuring, -, ⟨n, meas⟩ | ⟨n, t, hy, meas⟩⟩ := h.2 closed
      · cases hc.symm.trans hk
        rw [stopWork_of_measuring measuring meas]
        rfl
      · cases hc.symm.trans hk
        rw [stopWork_of_measuring measuring meas]
        rfl

end Sys2Proof.Machine
end
section
/-! The rules of `Kept` for the Check Runner and the Order Intake (chapters 2 and 4): the end of a check, flushes and
holds, the answers that reach a check, and what comes about by itself. -/

namespace Sys2Proof.Machine

variable {a : Licence} {b s : State}

/-! ## The end of a check (R84 to R87) -/

protected theorem Kept.dropArrived (h : Kept a b s) (p : Instr → Bool) : Kept a b (dropArrived p s) := h.setArrived _

protected theorem Kept.stopWindow (h : Kept a b s) : Kept a b (stopWindow s) :=
  (h.setCsu s.csu.toIdle fun _ opened => absurd rfl opened).dropArrived _

protected theorem Kept.stopMeasurement (h : Kept a b s) (m : Measurement) : Kept a b (stopMeasurement m s) := by
  cases m with
  | light l =>
    exact (h.updateChannel _ (fun _ => LightChannel.stop_cal _) fun _ => LightChannel.stop_state _).dropArrived _
  | current _ => exact h.stopWindow
  | sound _ _ _ => exact h.stopWindow
  | busfield _ => exact h

protected theorem Kept.stopWork (h : Kept a b s) (c : CheckRecord) : Kept a b (stopWork c s) := by
  have stopped : Kept a b (match c.stage, c.order.meas with
      | .measuring, some m => stopMeasurement m (powerUpCancel s)
      | _, _ => powerUpCancel s) := by
    split
    · exact h.powerUpCancel.stopMeasurement _
    · exact h.powerUpCancel
  unfold Machine.stopWork
  dsimp only
  exact .ite stopped.promptEnd stopped

protected theorem Kept.applyRestores (h : Kept a b s) (c : CheckRecord) : Kept a b (applyRestores c s) := by
  unfold Machine.applyRestores
  refine Kept.foldl ?_ fun _ e ht => ht.applyRestore e
  split
  · exact h.applyRestore _
  · exact h

/-- The record is replaced or leaves while no unit measures. -/
theorem Kept.setCkrIdle (h : Kept a b s) (x : Option CheckRecord) (idle : OffMeansOff b → AllIdle s)
    (orders : LevelsBounded s → ∀ k, x = some k → k.order.LevelsBounded) : Kept a b (s.setCkr x) :=
  { h with
    off := fun hb => by
      obtain ⟨silent, zero, levels, -⟩ := h.off hb
      obtain ⟨setpoint, effective, queued, -⟩ := id levels
      exact ⟨silent, zero, ⟨setpoint, effective, queued, orders levels⟩, (idle hb).setCkr x⟩ }

theorem AllIdle.congr {t : State} (h : AllIdle s) (ltu : t.ltu = s.ltu) (csu : t.csu = s.csu) : AllIdle t := by
  obtain ⟨held, idle⟩ := h
  exact ⟨fun n => by rw [ltu]; exact held n, by rw [csu]; exact idle⟩

protected theorem Kept.endCheck (h : Kept a b s) (v : Option VerdictContent) : Kept a b (endCheck v s) := by
  unfold Machine.endCheck
  split
  · exact h
  · rename_i c inFlight
    have released : Kept a b (clearNoisy (releaseAllOf .ckr (withdrawAudible (applyRestores c (stopWork c s))))) :=
      ((((h.stopWork c).applyRestores c).withdrawAudible).releaseAllOf _).clearNoisy
    have idle (hb : OffMeansOff b) : AllIdle (stopWork c s) := (h.off hb).2.2.2.stopWork inFlight
    cases v with
    | none =>
      exact released.setCkrIdle none (fun hb => (idle hb).congr (by simp) (by simp)) fun _ _ hk => (nomatch hk)
    | some x =>
      exact (released.formVerdict x).setCkrIdle none (fun hb => (idle hb).congr (by simp) (by simp))
        fun _ _ hk => (nomatch hk)

protected theorem Kept.terminate (h : Kept a b s) (v : Verdict) (mark : VerdictFlags → VerdictFlags) :
    Kept a b (terminate v mark s) := by
  unfold Machine.terminate
  split
  · exact h
  · exact h.endCheck _

protected theorem Kept.finishJudged (h : Kept a b s) : Kept a b (finishJudged s) := by
  unfold Machine.finishJudged
  split
  · exact h
  · exact .ite (h.endCheck _) h

/-! ## The queue, the station and holds (R20 to R22, R29, R34) -/

theorem takeWaits_next {s : State} (h : takeWaits s = true) : ¬ NoTakeNext s ∧ s.taken = false := by
  unfold takeWaits at h
  split at h
  · rename_i f rest next
    simp only [Bool.and_eq_true, Bool.not_eq_true'] at h
    obtain ⟨⟨untaken, -⟩, -⟩ := h
    exact ⟨fun none => none f rest next, untaken⟩
  · cases h

protected theorem Kept.flushQueue (h : Kept a b s) (lineLost : Bool) : Kept a b (flushQueue lineLost s) := by
  have emptied : Kept a b (s.setOi { s.oi with queue := [] }) := h.setStation rfl (.inr rfl)
  unfold Machine.flushQueue
  dsimp only
  split
  · rename_i waits
    obtain ⟨next, untaken⟩ := takeWaits_next waits
    have before := (emptied.setChoices (s.choices + 1)).formAll
      ((s.oi.queue.map (notRunContent · lineLost)).take (Config.takenAfter s.choices))
    refine .ite (Kept.formAll ?_ _) before
    refine before.takeAmong (fun none => next ((noTakeNext_congr ?_).mp none)) ?_
    · exact formAll_pending _ _
    · exact (formAll_taken _ _).trans untaken
  · exact emptied.formAll _

protected theorem Kept.stationIdle (h : Kept a b s) : Kept a b (stationIdle s) :=
  .ite (h.setStation rfl (.inl rfl)) h

protected theorem Kept.enterHold (h : Kept a b s) (c : HoldCause) : Kept a b (raiseHold.enter c s) := by
  have held : Kept a b (s.setOi { s.oi.setCause c with station := .hold }) :=
    h.setStation (by cases c <;> rfl) (.inl (by cases c <;> rfl))
  unfold raiseHold.enter
  exact ((held.terminate _ _).flushQueue _).offRequest.clearMessages

protected theorem Kept.raiseHold (h : Kept a b s) (c : HoldCause) : Kept a b (raiseHold c s) := by
  unfold Machine.raiseHold
  split
  · exact h.enterHold c
  · exact h.enterHold c
  · exact h.setStation (by cases c <;> rfl) (.inl (by cases c <;> rfl))
  · exact h
  · exact h

protected theorem Kept.endDut (h : Kept a b s) (lineLost : Bool) : Kept a b (endDut lineLost s) := by
  unfold Machine.endDut
  exact ((h.terminate _ _).flushQueue _).stationIdle.offRequest.clearMessages

/-! ## Reports and answers (R55, R60, R63, R72 to R82, R96, R107) -/

/-- A check that waits for something else than a measurement does not measure. -/
theorem CheckRecord.not_measures_of_waits {c : CheckRecord} {w : OpenRequest} (h : c.waitsOn = w)
    (hw : w ≠ .measurement) : ¬ c.Measures := fun ⟨_, waits⟩ => hw (h.symm.trans waits)

theorem CheckRecord.not_measures_of_stage {c : CheckRecord} {x : Stage} (h : c.stage = x)
    (hx : x ≠ .measuring) : ¬ c.Measures := fun ⟨stage, _⟩ => hx (h.symm.trans stage)

protected theorem Kept.reportOn (h : Kept a b s) (isPowerUp : Bool) : Kept a b (reportOn isPowerUp s) := by
  unfold Machine.reportOn
  split
  · rename_i inFlight
    split
    · rename_i waits
      exact h.setIdleRecord inFlight (CheckRecord.not_measures_of_waits waits (nomatch ·)) _ (by rfl)
    · exact h
  · exact h

protected theorem Kept.reportOff (h : Kept a b s) : Kept a b (reportOff s) := by
  unfold Machine.reportOff
  split
  · rename_i inFlight
    split
    · rename_i waits
      exact h.setIdleRecord inFlight (CheckRecord.not_measures_of_waits waits.1 (nomatch ·)) _ (by rfl)
    · exact h
  · exact h

theorem Kept.endRetry (h : Kept a b s) : Kept a b (s.setSpu { s.spu with retry := false }) := h.setSpuMarks _ (by rfl)

protected theorem Kept.rampDone (h : Kept a b s) : Kept a b (rampDone s) := by
  unfold Machine.rampDone
  dsimp only
  exact .ite (h.rampArrive.releaseClaim _ _).endRetry (h.rampArrive.reportOn _)

protected theorem Kept.goAhead (h : Kept a b s) : Kept a b (goAhead s) := by
  unfold Machine.goAhead
  dsimp only
  exact .ite (.ite h.rampGo.rampDone h.rampGo) h

protected theorem Kept.tellGranted (h : Kept a b s) (r : Resource) (who : Requester) :
    Kept a b (tellGranted r who s) := by
  unfold Machine.tellGranted
  split
  · exact .ite h.goAhead h
  · split
    · exact h
    · rename_i c inFlight
      split
      · rename_i waits
        have answered (w : OpenRequest) : Kept a b (s.setCkr (some { c with waitsOn := w })) :=
          h.setIdleRecord inFlight (CheckRecord.not_measures_of_waits waits (nomatch ·)) _ (by rfl)
        split
        · exact (answered _).goAhead
        · exact answered _
        · exact (answered _).promptBegin
      · exact h

protected theorem Kept.grantClaim (h : Kept a b s) (c : OwnClaim) : Kept a b (grantClaim c s) := by
  unfold Machine.grantClaim
  exact ((h.setClu _ (by rfl)).tellGranted _ _).handIn

protected theorem Kept.evaluateClaim (h : Kept a b s) : Kept a b (evaluateClaim s) := by
  unfold Machine.evaluateClaim
  split
  · exact .ite (h.grantClaim _) h
  · exact h

protected theorem Kept.retryToSafe (h : Kept a b s) : Kept a b (retryToSafe s) := h.enterSafe.raiseHold _

protected theorem Kept.tellBusy (h : Kept a b s) (r : Resource) (who : Requester) : Kept a b (tellBusy r who s) := by
  unfold Machine.tellBusy
  split
  · exact .ite h.retryToSafe h
  · split
    · exact h
    · rename_i inFlight
      split
      · rename_i waits
        exact .ite (h.setIdleRecord inFlight (CheckRecord.not_measures_of_waits waits (nomatch ·)) _ (by rfl)).promptEnd
          (h.terminate _ _)
      · exact h

protected theorem Kept.withdrawClaim (h : Kept a b s) : Kept a b (withdrawClaim s) := by
  unfold Machine.withdrawClaim
  split
  · exact .ite h (h.removeClaim.tellBusy _ _).takeDeferred
  · exact h

/-- A FIELD_WRITE is carried out by a check that does not measure. -/
protected theorem Kept.applyWrite (h : Kept a b s) {c : CheckRecord} (hc : s.ckr = some c) (hm : ¬ c.Measures)
    (w : FieldWrite) : Kept a b (applyWrite w s) := by
  have written : Kept a b (updateCheck (·.afterWrite w (readSlot s w.slot w.start w.len)) s) := by
    rw [Machine.updateCheck, hc, Option.map_some]
    exact h.setIdleRecord hc hm _ (by rfl)
  exact written.writeSlot _ _ _ _

protected theorem Kept.audibleCleared (h : Kept a b s) : Kept a b (audibleCleared s) := by
  unfold Machine.audibleCleared
  split
  · rename_i inFlight
    split
    · rename_i waits _
      exact h.applyWrite inFlight (CheckRecord.not_measures_of_waits waits (nomatch ·)) _
    · exact h
  · exact h

protected theorem Kept.reexamineAudible (h : Kept a b s) : Kept a b (reexamineAudible s) :=
  .ite (h.setClu _ (by rfl)).setNoisy.audibleCleared h

/-- A report is taken by a check whose unit has already stopped. -/
protected theorem Kept.reportMeasurement (h : Kept a b s) {f : CheckRecord → CheckRecord}
    (order : ∀ c, (f c).order = c.order) (idle : OffMeansOff b → AllIdle s) :
    Kept a b (reportMeasurement f s) := by
  unfold Machine.reportMeasurement Machine.updateCheck
  refine h.setCkrIdle _ idle fun ⟨_, _, _, bounded⟩ k hk => ?_
  obtain ⟨c, inFlight, rfl⟩ := Option.map_eq_some_iff.mp hk
  split
  · exact order c ▸ bounded c inFlight
  · exact bounded c inFlight

protected theorem Kept.soundReport (h : Kept a b s) (idle : OffMeansOff b → AllIdle s) (tones peak : Nat) :
    Kept a b (soundReport tones peak s) :=
  (h.releaseClaim _ _).reportMeasurement (fun _ => by rfl) fun hb => (idle hb).congr (by simp) (by simp)

/-- A notice that disturbs the window ends it, and it was open (R160, R161). -/
theorem Csu.notice_window (c : Csu) :
    (c.notice.1.window ≠ .idle → c.window ≠ .idle) ∧
    (c.notice.2 = .disturbed → c.window ≠ .idle ∧ c.notice.1.window = .idle) := by
  unfold Csu.notice
  split
  · rename_i sound
    have opened : c.window ≠ .idle := fun idle => (nomatch sound.symm.trans idle)
    split
    · exact ⟨fun _ => opened, fun h => (nomatch h)⟩
    · exact ⟨fun _ => opened, fun _ => ⟨opened, rfl⟩⟩
  · exact ⟨id, fun h => (nomatch h)⟩

protected theorem Kept.noisyNotice (h : Kept a b s) : Kept a b (noisyNotice s) := by
  obtain ⟨opens, disturbs⟩ := s.csu.notice_window
  have noticed : Kept a b (s.setCsu s.csu.notice.1) := h.setCsu _ fun _ => opens
  unfold Machine.noisyNotice
  dsimp only
  split
  · split
    · exact noticed
    · exact noticed.updateCheck (fun _ => rfl) (fun _ => rfl) fun _ => rfl
    · rename_i disturbed
      obtain ⟨opened, closed⟩ := disturbs disturbed
      refine ((noticed.dropArrived _).releaseClaim _ _).reportMeasurement (fun _ => by rfl) fun hb => ?_
      have idle : AllIdle (s.setCsu s.csu.notice.1) := ⟨(h.off hb).2.2.2.channels_held opened, closed⟩
      exact idle.congr (by simp) (by simp)
  · exact h

protected theorem Kept.promptResult (h : Kept a b s) (r : Verdict × Option Nat) : Kept a b (promptResult r s) := by
  unfold Machine.promptResult
  split
  · rename_i inFlight
    split
    · rename_i prompting
      exact (h.releaseClaim _ _).setIdleRecord ((releaseClaim_ckr _ _ _).trans inFlight)
        (CheckRecord.not_measures_of_stage prompting.1 (nomatch ·)) _ (by rfl)
    · exact h
  · exact h

protected theorem Kept.deliverNews (h : Kept a b s) (n : OpuNews) : Kept a b (deliverNews n s) := by
  unfold Machine.deliverNews
  split
  · exact h
  · exact h.promptResult _
  · exact h.raiseHold _
  · exact .ite (.ite ((h.takeFirst.promptResult _).finishJudged.raiseHold _) ((h.takeFirst.raiseHold _).promptResult _))
      (h.raiseHold _)

/-! ## Actions and stages (R70 to R82) -/

/-- A level that the check in flight asks for is at most 18000 mV (R27). -/
theorem OffMeansOff.target_le (h : OffMeansOff s) {k : CheckRecord} (hk : s.ckr = some k) {target rate : Nat}
    (mem : .supplySet target rate ∈ k.order.actions) : target ≤ 18000 := by
  obtain ⟨-, -, ⟨-, -, -, bounded⟩, -⟩ := h
  exact bounded k hk target rate mem

theorem CheckRecord.mem_of_action {c : CheckRecord} {x : Action} (h : c.action = some x) : x ∈ c.order.actions :=
  List.mem_of_getElem? h

protected theorem Kept.startPowerUp (h : Kept a b s) {c : CheckRecord} (hc : s.ckr = some c) (hm : ¬ c.Measures)
    {target rate : Nat} (mem : .supplySet target rate ∈ c.order.actions) :
    Kept a b (startPowerUp target rate c s) := by
  have claims {u : State} (hu : Kept a b u) (same : u.ckr = some c) : Kept a b (powerUp target rate
      (u.setCkr (some { c with holdTimer := none, waitsOn := .claim .inrush }))) := by
    refine Kept.powerUp (hu.setIdleRecord same hm _ (by rfl)) (fun off => ?_) rate
    exact off.target_le rfl mem
  unfold Machine.startPowerUp
  dsimp only
  split
  · exact (claims (h.releaseClaim _ _) ((releaseClaim_ckr _ _ _).trans hc)).requestClaim _
  · exact (claims h hc).requestClaim _

protected theorem Kept.performAction (h : Kept a b s) {c : CheckRecord} (hc : s.ckr = some c) (hm : ¬ c.Measures)
    {x : Action} (mem : x ∈ c.order.actions) {t : State} (ht : performAction x c s = some t) : Kept a b t := by
  have finished : Kept a b (s.setCkr (some c.finishAction)) := h.setIdleRecord hc hm _ (by rfl)
  have waiting (w : OpenRequest) : Kept a b (s.setCkr (some { c with waitsOn := w })) :=
    h.setIdleRecord hc hm _ (by rfl)
  unfold Machine.performAction at ht
  cases x with
  | supplySet target rate =>
    dsimp only at ht
    split at ht
    · cases ht
      exact h.startPowerUp hc hm mem
    · split at ht
      · cases ht
        have slewed := (waiting .rail).slewTo (fun off => off.target_le rfl mem) rate
        exact .ite (slewed.reportOn _) slewed
      · cases ht
  | supplyOff =>
    dsimp only at ht
    split at ht
    · cases ht
      exact finished
    · cases ht
      exact .ite (waiting _).offRequest.reportOff (waiting _).offRequest
  | crank dip dipTime rate =>
    dsimp only at ht
    split at ht
    · cases ht
      exact finished
    · split at ht
      · cases ht
        exact (waiting _).crankTo _ _ _
      · cases ht
  | fieldWrite w =>
    dsimp only at ht
    split at ht
    · cases ht
      exact h.applyWrite hc hm w
    · split at ht
      · cases ht
        exact (waiting _).requestClaim _
      · cases ht
        exact .ite (h.audibleRequest.applyWrite ((audibleRequest_ckr s).trans hc) hm w)
          (h.audibleRequest.setIdleRecord ((audibleRequest_ckr s).trans hc) hm _ (by rfl))
  | messageOn n =>
    cases ht
    exact finished.messageOn n
  | messageOff n =>
    cases ht
    exact finished.messageOff n

protected theorem Kept.enterSettling (h : Kept a b s) {c : CheckRecord} (hc : s.ckr = some c) (hm : ¬ c.Measures) :
    Kept a b (enterSettling c s) := by
  unfold Machine.enterSettling
  dsimp only
  split
  · split
    · exact ((h.clearFresh _).setIdleRecord ((clearFresh_ckr _ s).trans hc) hm _ (by rfl)).requestClaim _
    · exact (h.setIdleRecord hc hm _ (by rfl)).requestClaim _
  · split
    · exact (h.clearFresh _).setIdleRecord ((clearFresh_ckr _ s).trans hc) hm _ (by rfl)
    · exact h.setIdleRecord hc hm _ (by rfl)

/-- A window opens for the check that measures with it (R80). -/
theorem Kept.openWindow (h : Kept a b s) {c : CheckRecord} (hc : s.ckr = some c) (measures : c.Measures)
    (meas : (∃ n, c.order.meas = some (.current n)) ∨ ∃ n th hy, c.order.meas = some (.sound n th hy)) (x : Csu) :
    Kept a b (s.setCsu x) :=
  { h with
    off := fun hb => by
      obtain ⟨silent, zero, levels, light, -⟩ := h.off hb
      exact ⟨silent, zero, levels, light, fun _ => ⟨c, hc, measures.1, measures.2, meas⟩⟩ }

/-- The measurement handed over is that of the check, so that its unit is the one that it measures with (R80). -/
protected theorem Kept.enterMeasuring (h : Kept a b s) {c : CheckRecord} (hc : s.ckr = some c) (hm : ¬ c.Measures)
    {m : Measurement} (meas : c.order.meas = some m) : Kept a b (enterMeasuring m c s) := by
  have waiting : Kept a b (s.setCkr (some { c with stage := .measuring, waitsOn := .measurement })) :=
    h.setIdleRecord hc hm _ (by rfl)
  unfold Machine.enterMeasuring
  cases m with
  | light l =>
    refine waiting.setLtu _ (fun _ => setEntry_definition LightChannel.cal (LightChannel.handover_cal _ _))
      fun one => ?_
    obtain ⟨light, window⟩ := one
    refine ⟨fun n out => ?_, window⟩
    by_cases own : l.channel = n
    · exact ⟨_, l, rfl, rfl, rfl, meas, own⟩
    · refine light n fun still => out ?_
      exact (congrArg LightChannel.state (getElem_setEntry _ _ _ n)).trans ((congrArg _ (if_neg own)).trans still)
  | current n => exact waiting.openWindow rfl ⟨rfl, rfl⟩ (.inl ⟨_, meas⟩) _
  | sound n t hy => exact waiting.openWindow rfl ⟨rfl, rfl⟩ (.inr ⟨_, _, _, meas⟩) _
  | busfield f =>
    dsimp only
    split
    · exact h.setIdleRecord hc hm _ (by rfl)
    · exact h.setIdleRecord hc hm _ (by rfl)

protected theorem Kept.leaveSettling (h : Kept a b s) {c : CheckRecord} (hc : s.ckr = some c) (hm : ¬ c.Measures) :
    Kept a b (leaveSettling c s) := by
  unfold Machine.leaveSettling
  split
  · rename_i meas
    exact h.enterMeasuring hc hm meas
  · split
    · exact h.setIdleRecord hc hm _ (by rfl)
    · exact h.setIdleRecord hc hm _ (by rfl)

protected theorem Kept.enterPrompting (h : Kept a b s) {c : CheckRecord} (hc : s.ckr = some c) (hm : ¬ c.Measures)
    (p : Prompt) : Kept a b (enterPrompting p c s) := by
  unfold Machine.enterPrompting
  exact ((h.setIdleRecord hc hm _ (by rfl)).requestClaim _).promptHandover p

/-- The order at the head is one of those queued, and none was in flight. -/
protected theorem Kept.startCheck (h : Kept a b s) {o : OrderRec} {rest : List OrderRec} (hq : s.oi.queue = o :: rest)
    (hm : mayStart s = true) : Kept a b (startCheck o rest s) := by
  simp only [mayStart, Bool.and_eq_true, Option.isNone_iff_eq_none] at hm
  obtain ⟨⟨-, free⟩, -⟩ := hm
  have started : Kept a b (s.setCkr (some (newRecord o s))) := by
    refine h.setCkr _ (fun ⟨_, _, queued, _⟩ k hk => ?_) fun one => ?_
    · cases hk
      exact queued o (hq ▸ List.mem_cons_self)
    · exact (one.allIdle fun c hc => nomatch free.symm.trans hc).setCkr _
  exact started.setOi { s.oi with queue := rest, station := .running } (fun _ => rfl)
    fun queued x hx => queued x (hq ▸ List.mem_cons_of_mem o hx)

/-- The next thing that comes about by itself. -/
protected theorem Kept.micro (h : Kept a b s) {t : State} (ht : micro s = some t) : Kept a b t := by
  unfold Machine.micro at ht
  split at ht
  · rename_i c inFlight
    split at ht
    · rename_i stage
      have hm := CheckRecord.not_measures_of_stage stage (nomatch ·)
      split at ht
      · split at ht
        · cases ht
          exact h.enterSettling inFlight hm
        · rename_i acts
          exact h.performAction inFlight hm (CheckRecord.mem_of_action acts) ht
      · cases ht
    · rename_i stage
      split at ht
      · cases ht
        exact h.leaveSettling inFlight (CheckRecord.not_measures_of_stage stage (nomatch ·))
      · cases ht
    · cases ht
    · rename_i stage
      split at ht
      · cases ht
        exact h.enterPrompting inFlight (CheckRecord.not_measures_of_stage stage (nomatch ·)) _
      · cases ht
    · cases ht
      exact h.finishJudged
  · split at ht
    · rename_i queued
      split at ht
      · rename_i may
        cases ht
        exact h.startCheck queued may
      · split at ht
        · cases ht
          exact h.stationIdle
        · cases ht
    · split at ht
      · cases ht
        exact h.stationIdle
      · cases ht

protected theorem Kept.runOn (n : Nat) (h : Kept a b s) : Kept a b (runOn n s) := by
  induction n generalizing s with
  | zero => exact h
  | succ n ih =>
    rw [Machine.runOn]
    split
    · exact h
    · rename_i next
      exact ih (h.micro next)

protected theorem Kept.settle (h : Kept a b s) : Kept a b (settle s) := h.runOn 100

/-! ## SILENT and RESTART (R17, R19, R23, R32) -/

protected theorem Kept.goSilent (h : Kept a b s) (hv : s.vdu = b.vdu) : Kept a b (goSilent s) := by
  unfold Machine.goSilent
  dsimp only
  split
  · exact h
  · have silent : Kept a b ((s.setRli s.rli.enterSilent).setOi { s.oi with station := .silent }) :=
      (h.enterSilent hv).setStation rfl (.inl rfl)
    refine Kept.setOpu (Kept.setClu (Kept.promptEnd (Kept.releaseEverything (Kept.clearMessages
      (Kept.offRequest ?_)))) _ (by rfl)) _ (by rfl)
    exact (silent.endCheck none).setStation rfl (.inr rfl)

protected theorem Kept.restart (h : Kept a b s) : Kept a b (restart s) := by
  unfold Machine.restart
  exact ((h.terminate _ _).flushQueue _).stationIdle.offRequest.clearMessages.releaseEverything.promptEnd

end Sys2Proof.Machine
end
section
/-! What each command keeps (chapters 1 to 10). -/

namespace Sys2Proof.Machine

variable {a : Licence} {b s t : State}

theorem kept_of_act {f : State → State} (ht : act s f = .next t) (hf : Kept a s (f s)) : Kept a s t := by
  unfold act at ht
  cases ht
  exact .ite (.refl a s) hf

/-! ## The rack line's own commands (chapter 1) -/

theorem execLineDominant_kept (ht : execLineDominant s = .next t) : Kept a s t := by
  refine kept_of_act ht ?_
  split
  · exact .refl a s
  · exact .refl a s
  · exact (Kept.refl a s).setIdleLine rfl rfl rfl rfl rfl rfl

/-- A condition in which nothing is sent. -/
theorem Kept.setContention (h : Kept a b s) {c : Contention} (idle : c.sending = false) :
    Kept a b (setContention c s) := h.setIdleLine rfl rfl rfl rfl rfl idle

theorem execSyncIdleEnd_kept (ht : execSyncIdleEnd s = .next t) : Kept a s t :=
  kept_of_act ht (.ite ((Kept.refl a s).setContention rfl) (.refl a s))

theorem execIdleGapEnd_kept (ht : execIdleGapEnd s = .next t) : Kept a s t :=
  kept_of_act ht (.ite ((Kept.refl a s).setContention rfl) (.refl a s))

theorem execPositionStart_kept {position : Fin 34} (ht : execPositionStart position s = .next t) : Kept a s t :=
  kept_of_act ht ((Kept.refl a s).positionStart position)

theorem execWindowEnd_kept (ht : execWindowEnd s = .next t) : Kept a s t := by
  refine kept_of_act ht ?_
  split
  · exact (Kept.refl a s).setIdleLine rfl rfl rfl rfl rfl rfl
  · exact .refl a s

theorem execReadbackDifference_kept (ht : execReadbackDifference s = .next t) : Kept a s t := by
  have collided : Kept a s (s.setRli s.rli.collide) := (Kept.refl a s).collide
  refine kept_of_act ht ?_
  dsimp only
  exact .ite (.ite (collided.goSilent rfl) collided) (.refl a s)

theorem execFrameSentInFull_kept (ht : execFrameSentInFull s = .next t) : Kept a s t := by
  refine kept_of_act ht ?_
  split
  · rename_i tx _
    dsimp only
    split
    · exact ((Kept.refl a s).sentInFull rfl tx).settleNotice _
    · exact (Kept.refl a s).sentInFull rfl tx
  · exact .refl a s

theorem execFrameDiscarded_kept {frame : RxFrame} (ht : execFrameDiscarded frame s = .next t) : Kept a s t :=
  kept_of_act ht (.ite (.refl a s) (.ite ((Kept.refl a s).frameEnd _) (.refl a s)))

theorem execOwnSlotFrame_kept {frame : RxFrame} (ht : execOwnSlotFrame frame s = .next t) : Kept a s t := by
  refine kept_of_act ht ?_
  split
  · exact .refl a s
  · split
    · exact ((Kept.refl a s).frameEnd _).goSilent rfl
    · exact (Kept.refl a s).frameEnd _
    · exact .refl a s

theorem execAbandonedRemainderEnd_kept {frame : RxFrame} (ht : execAbandonedRemainderEnd frame s = .next t) :
    Kept a s t := by
  refine kept_of_act ht ?_
  split
  · exact .refl a s
  · split
    · exact (Kept.refl a s).frameEnd _
    · exact (Kept.refl a s).frameEnd _

/-! ## A received frame -/

/-- What a frame's end delivers is delivered before any verdict of the step. -/
protected theorem Kept.frameEvent {α : Type} {f : RxFrame} {pick : Received → Option α} {deliver : α → State → State}
    (delivered : ∀ x u, Kept a s u → u.vdu = s.vdu → Kept a s (deliver x u)) :
    Kept a s (frameEvent f pick deliver s) := by
  unfold Machine.frameEvent
  split
  · exact .refl a s
  · split
    · exact (Kept.refl a s).frameEnd _
    · split
      · exact .refl a s
      · exact delivered _ _ ((Kept.refl a s).frameEnd _) rfl

protected theorem Kept.frameTaken {α : Type} {f : RxFrame} {pick : Received → Option α} {deliver : α → State → State}
    (delivered : ∀ x u, Kept a s u → u.vdu = s.vdu → Kept a s (deliver x u)) :
    Kept a s (frameTaken f pick deliver s) := by
  unfold Machine.frameTaken
  split
  · exact .refl a s
  · exact delivered _ _ (.refl a s) rfl

theorem execPeerReplyFrame_kept {frame : RxFrame} (ht : execPeerReplyFrame frame s = .next t) : Kept a s t :=
  kept_of_act ht (.frameEvent fun _ _ hu _ => hu)

/-! ## Claims (chapter 3) -/

protected theorem Kept.viewChanged (h : Kept a b s) : Kept a b (viewChanged s) := by
  unfold Machine.viewChanged
  exact h.evaluateClaim.reexamineAudible.givePlace

protected theorem Kept.takeAnnounce (h : Kept a b s) (ha : a.peers = true) (slot : Nat) (p : List Byte) :
    Kept a b (takeAnnounce slot p s) := by
  unfold Machine.takeAnnounce
  split
  · exact h
  · rename_i r _
    have written : Kept a b (writePeer slot r s) := h.setPeers ha _
    dsimp only
    split
    · exact written.viewChanged.noisyNotice.settle
    · exact written.viewChanged.settle

theorem execAnnounceReceived_kept (ha : a.peers = true) {frame : RxFrame}
    (ht : execAnnounceReceived frame s = .next t) : Kept a s t :=
  kept_of_act ht (.frameEvent fun _ _ hu _ => hu.takeAnnounce ha _ _)

theorem execAnnounceTimerExpiry_kept (ht : execAnnounceTimerExpiry s = .next t) : Kept a s t :=
  kept_of_act ht (.ite ((Kept.refl a s).handIn.setClu _ (by rfl)) (.refl a s))

theorem execPeerStale_kept (ha : a.peers = true) {slot : Fin 16} (ht : execPeerStale slot s = .next t) : Kept a s t :=
  kept_of_act ht
    (.ite ((Kept.refl a s).setPeers ha _).viewChanged.settle (.refl a s))

theorem execClaimSettleExpiry_kept (ht : execClaimSettleExpiry s = .next t) : Kept a s t := by
  refine kept_of_act ht ?_
  split
  · split
    · exact ((Kept.refl a s).setClu _ (by rfl)).evaluateClaim.settle
    · exact .refl a s
  · exact .refl a s

theorem execClaimWaitExpiry_kept (ht : execClaimWaitExpiry s = .next t) : Kept a s t := by
  refine kept_of_act ht ?_
  split
  · exact .ite (Kept.refl a s).withdrawClaim.settle (.refl a s)
  · exact .refl a s

theorem execAudibleWaitExpiry_kept (ht : execAudibleWaitExpiry s = .next t) : Kept a s t :=
  kept_of_act ht (.ite (.ite (((Kept.refl a s).setClu _ (by rfl)).terminate _ _).settle
    ((Kept.refl a s).setClu _ (by rfl))) (.refl a s))

/-! ## The Check Runner's timers (chapter 4) -/

theorem execInrushHoldExpiry_kept (ht : execInrushHoldExpiry s = .next t) : Kept a s t := by
  refine kept_of_act ht ?_
  split
  · rename_i inFlight
    exact .ite (((Kept.refl a s).setRecord inFlight _ (by rfl)).releaseClaim _ _).settle (.refl a s)
  · exact .refl a s

theorem execCheckSettleExpiry_kept (ht : execCheckSettleExpiry s = .next t) : Kept a s t := by
  refine kept_of_act ht ?_
  split
  · rename_i inFlight
    exact .ite ((Kept.refl a s).setRecord inFlight _ (by rfl)).settle (.refl a s)
  · exact .refl a s

/-! ## The rail (chapter 5) -/

theorem execRampComplete_kept (ht : execRampComplete s = .next t) : Kept a s t :=
  kept_of_act ht (.ite (Kept.refl a s).rampDone.settle (.refl a s))

theorem execSlewComplete_kept (ht : execSlewComplete s = .next t) : Kept a s t :=
  kept_of_act ht (.ite ((Kept.refl a s).arriveOn.reportOn _).settle (.refl a s))

theorem execCrankDipEnd_kept (ht : execCrankDipEnd s = .next t) : Kept a s t := by
  have recovers := (Kept.refl a s).crankRecovery
  exact kept_of_act ht (.ite (.ite (recovers.arriveOn.reportOn _).settle recovers) (.refl a s))

theorem execCrankRecoveryComplete_kept (ht : execCrankRecoveryComplete s = .next t) : Kept a s t :=
  kept_of_act ht (.ite ((Kept.refl a s).arriveOn.reportOn _).settle (.refl a s))

theorem execDischargeBelowThreshold_kept {mv : Nat} (ht : execDischargeBelowThreshold mv s = .next t) :
    Kept a s t := by
  have read := (Kept.refl a s).setSpuMarks { s.spu with outputMv := mv } rfl
  exact kept_of_act ht (.ite (.ite read.arriveOff.reportOff.settle read) (.refl a s))

theorem execDischargeTimerExpiry_kept (ht : execDischargeTimerExpiry s = .next t) : Kept a s t :=
  kept_of_act ht (.ite (Kept.refl a s).arriveOff.reportOff.settle (.refl a s))

protected theorem Kept.supplyFault (h : Kept a b s) : Kept a b (supplyFault s) := by
  unfold Machine.supplyFault
  exact ((h.enterFaultOff.terminate _ _).releaseClaim _ _).settle

theorem execShort_kept (ht : execShort s = .next t) : Kept a s t :=
  kept_of_act ht (.ite (Kept.refl a s).supplyFault (.refl a s))

theorem execOvercurrent_kept (ht : execOvercurrent s = .next t) : Kept a s t :=
  kept_of_act ht (.ite (Kept.refl a s).supplyFault (.refl a s))

theorem execOvervoltage_kept (ht : execOvervoltage s = .next t) : Kept a s t := by
  have safe := (Kept.refl a s).enterSafe
  refine kept_of_act ht ?_
  dsimp only
  split
  · split
    · refine (Kept.raiseHold ?_ _).settle
      exact .ite (safe.takeFirst.terminate _ _) safe.takeFirst
    · exact (safe.raiseHold _).settle
  · exact .refl a s

theorem execOffTimerExpiry_kept (ht : execOffTimerExpiry s = .next t) : Kept a s t := by
  have waited := (Kept.refl a s).setSpuMarks { s.spu with offTimer := none } rfl
  have retries := (Kept.refl a s).setSpuMarks { s.spu with offTimer := none, retryCount := s.spu.retryCount + 1 } rfl
  exact kept_of_act ht
    (.ite (.ite ((retries.railTo _).requestClaim _).settle waited.retryToSafe.settle) (.refl a s))

theorem execRecoveryTimerExpiry_kept (ht : execRecoveryTimerExpiry s = .next t) : Kept a s t :=
  kept_of_act ht (.ite ((Kept.refl a s).setSpuMarks _ (by rfl)) (.refl a s))

/-! ## The bus (chapter 6) -/

theorem execSlotDue_kept {slot : Fin 24} (ht : execSlotDue slot s = .next t) : Kept a s t :=
  kept_of_act ht (.ite ((Kept.refl a s).fallDue _) (.refl a s))

theorem execCanAttemptStart_kept (ht : execCanAttemptStart s = .next t) : Kept a s t :=
  kept_of_act ht (Kept.refl a s).attemptStart

theorem execCanAttemptEnd_kept {o : CanOutcome} (ht : execCanAttemptEnd o s = .next t) : Kept a s t :=
  kept_of_act ht (.ite (((Kept.refl a s).attemptEnd o).terminate _ _).settle ((Kept.refl a s).attemptEnd o))

protected theorem Kept.identityNews (h : Kept a b s) (e : Option IdentityEvent) : Kept a b (identityNews e s) := by
  unfold Machine.identityNews
  split
  · exact h
  · exact (h.terminate _ _).flushQueue _
  · exact (h.terminate _ _).flushQueue _

protected theorem Kept.captureAll (h : Kept a b s) (ha : a.identity = true) (f : CanFrame) :
    Kept a b (captureAll f s).1 := by
  unfold Machine.captureAll
  refine foldl_fst_keeps (Kept a b) (fun p n hp => ?_) _ ?_
  · exact (hp.captureInto ha n f).identityNews _
  · exact h

theorem execClusterFrameReceived_kept (ha : a.identity = true) {f : CanFrame}
    (ht : execClusterFrameReceived f s = .next t) : Kept a s t := by
  have active := (Kept.refl a s).leaveBusSilent
  refine kept_of_act ht ?_
  dsimp only
  exact .ite active (.ite (active.captureAll ha f).settle (active.captureAll ha f))

/-! ## The measurements (chapters 7 and 8) -/

/-- The channel that measured is HELD, and no other unit measured. -/
theorem OneMeasurement.allIdle_of_held (h : OneMeasurement s) {n : Fin 8} (out : s.ltu[n].state ≠ .held)
    {x : LightChannel} (hx : x.state = .held) : AllIdle (updateChannel n (fun _ => x) s) := by
  obtain ⟨others, closed⟩ := h.others_held out
  refine ⟨fun i => ?_, closed⟩
  rw [updateChannel_ltu]
  split
  · exact hx
  · rename_i other
    exact others i fun same => other (congrArg Fin.val same).symm

protected theorem Kept.lightSamples (h : Kept a b s) (n : Fin 8) (xs : List Code) :
    Kept a b (lightSamples n xs s) := by
  have taken : Kept a b (updateChannel n (fun _ => ((channelAt s n).samples xs).1) s) :=
    h.updateChannel n (fun _ => LightChannel.samples_cal _ xs) fun held => by
      rw [LightChannel.samples_of_held held]
      exact held
  have noted : Kept a b (noteReranged (updateChannel n (fun _ => ((channelAt s n).samples xs).1) s)) :=
    taken.updateCheck (fun c => by split <;> rfl) (fun c => by split <;> rfl) (fun c => by split <;> rfl)
  have both : Kept a b (if ((channelAt s n).samples xs).1.reranged
      then noteReranged (updateChannel n (fun _ => ((channelAt s n).samples xs).1) s)
      else updateChannel n (fun _ => ((channelAt s n).samples xs).1) s) := .ite noted taken
  unfold Machine.lightSamples
  dsimp only
  split
  · rename_i report reports
    refine (both.reportMeasurement (fun _ => by rfl) fun hb => ?_).settle
    have out : s.ltu[n].state ≠ .held := fun held => by
      rw [LightChannel.samples_of_held (by rw [channelAt_fin]; exact held)] at reports
      cases reports
    have idle := (h.off hb).2.2.2.allIdle_of_held out (LightChannel.samples_held_of_report reports)
    split
    · exact idle.congr (by simp [noteReranged, reportMeasurement]) (by simp [noteReranged, reportMeasurement])
    · exact idle
  · exact both

theorem execLightBlockComplete_kept {n : Fin 8} {xs : List Code} (ht : execLightBlockComplete n xs s = .next t) :
    Kept a s t :=
  kept_of_act ht (.ite ((Kept.refl a s).lightSamples _ _) (.refl a s))

theorem execLightWindowRerange_kept {n : Fin 8} {xs : List Code} (ht : execLightWindowRerange n xs s = .next t) :
    Kept a s t :=
  kept_of_act ht (.ite ((Kept.refl a s).lightSamples _ _) (.refl a s))

theorem execLightWindowComplete_kept {n : Fin 8} {xs : List Code} (ht : execLightWindowComplete n xs s = .next t) :
    Kept a s t :=
  kept_of_act ht (.ite ((Kept.refl a s).lightSamples _ _) (.refl a s))

protected theorem Kept.discardBlock (h : Kept a b s) (n : Nat) : Kept a b (discardBlock s n) :=
  .ite (h.dropArrived _) h

theorem channelAt_discardBlock (s : State) (n : Nat) : channelAt (discardBlock s n) n = channelAt s n := by
  rw [channelAt, discardBlock_ltu, channelAt]

theorem execRangeTimerExpiry_kept {n : Fin 8} (ht : execRangeTimerExpiry n s = .next t) : Kept a s t := by
  have discarded : Kept a s (discardBlock s n) := (Kept.refl a s).discardBlock n
  have expired : Kept a s (updateChannel n (fun _ => (channelAt s n).rangeExpiry.1) (discardBlock s n)) := by
    refine discarded.updateChannel n (fun _ => ?_) fun held => ?_
    · rw [channelAt_discardBlock]
      exact LightChannel.rangeExpiry_cal _
    · rw [channelAt_discardBlock] at held
      rw [LightChannel.rangeExpiry_of_held held]
      exact held
  refine kept_of_act ht ?_
  dsimp only
  split
  · split
    · rename_i reports
      refine (expired.reportMeasurement (fun _ => by rfl) fun hb => ?_).settle
      obtain ⟨out, held⟩ := LightChannel.rangeExpiry_held_of_report reports
      rw [← channelAt_discardBlock, channelAt_fin] at out
      exact (discarded.off hb).2.2.2.allIdle_of_held out held
    · exact expired
  · exact .refl a s

theorem execCurrentWindowComplete_kept {xs : List Nat} (ht : execCurrentWindowComplete xs s = .next t) :
    Kept a s t := by
  obtain ⟨same, reports⟩ := s.csu.currentSamples_window xs
  have sampled : Kept a s (s.setCsu (s.csu.currentSamples xs).1) := by
    refine (Kept.refl a s).setCsu _ fun _ opened => ?_
    cases report : (s.csu.currentSamples xs).2 with
    | none => exact same report ▸ opened
    | some v => exact absurd (reports v report).2 opened
  refine kept_of_act ht ?_
  dsimp only
  split
  · rename_i v report
    obtain ⟨current, closed⟩ := reports v report
    refine (sampled.reportMeasurement (fun _ => by rfl) fun off => ?_).settle
    exact ⟨off.2.2.2.channels_held fun idle => (nomatch current.symm.trans idle), closed⟩
  · exact sampled

theorem execSoundWindowComplete_kept {xs : List Code} (ht : execSoundWindowComplete xs s = .next t) : Kept a s t := by
  obtain ⟨same, reports⟩ := s.csu.soundSamples_window xs
  have sampled : Kept a s (s.setCsu (s.csu.soundSamples xs).1) := by
    refine (Kept.refl a s).setCsu _ fun _ opened => ?_
    cases report : (s.csu.soundSamples xs).2 with
    | none => exact same report ▸ opened
    | some v => exact absurd (reports v report).2 opened
  refine kept_of_act ht ?_
  dsimp only
  split
  · rename_i v report
    obtain ⟨sound, closed⟩ := reports v report
    refine (sampled.soundReport (fun off => ?_) _ _).settle
    exact ⟨off.2.2.2.channels_held fun idle => (nomatch sound.symm.trans idle), closed⟩
  · exact sampled

/-! ## The operator (chapter 10) -/

protected theorem Kept.takeNews {r : State × OpuNews} (h : Kept a b r.1) : Kept a b (takeNews r) :=
  .ite h (h.deliverNews _).settle

theorem execKeyDigit_kept {d : Fin 10} (ht : execKeyDigit d s = .next t) : Kept a s t :=
  kept_of_act ht ((Kept.refl a s).digitKey d).takeNews

theorem execKeyClear_kept (ht : execKeyClear s = .next t) : Kept a s t := kept_of_act ht (Kept.refl a s).clearKey

theorem execKeyPass_kept (ht : execKeyPass s = .next t) : Kept a s t := kept_of_act ht (Kept.refl a s).passKey.takeNews

theorem execKeyFail_kept (ht : execKeyFail s = .next t) : Kept a s t := kept_of_act ht (Kept.refl a s).failKey.takeNews

theorem execLookTimerExpiry_kept (ht : execLookTimerExpiry s = .next t) : Kept a s t :=
  kept_of_act ht ((Kept.refl a s).setOpu _ (by rfl))

theorem execPromptTimerExpiry_kept (ht : execPromptTimerExpiry s = .next t) : Kept a s t :=
  kept_of_act ht (.ite (Kept.refl a s).promptTimeout.takeNews (.refl a s))

/-! ## The line station's frames (chapter 2) -/

protected theorem Kept.heard (h : Kept a b s) : Kept a b (heard s) := h.setStation rfl (.inl rfl)

protected theorem Kept.receipt (h : Kept a b s) (kind : FrameKind) (reference : Half) (code : ReceiptCode)
    (free : Nat) : Kept a b (receipt kind reference code free s) := h.handInReply _

protected theorem Kept.answerControl (h : Kept a b s) (isBroadcast : Bool) (reference : Half) (code : ReceiptCode)
    (free : Nat) : Kept a b (answerControl isBroadcast reference code free s) :=
  .ite h (h.receipt _ _ _ _)

/-- An accepted order is the clamped copy of the one received (R24, R27). -/
theorem orderTests_clamped {p : List Byte} {o : OrderRec} (h : (orderTests s p).2 = some o) :
    ∃ x, parseOrder p = some x ∧ o = clampOrder s x := by
  unfold orderTests at h
  split at h
  · cases h
  · split at h
    · cases h
    · split at h
      · cases h
      · rename_i x parsed
        split at h
        · cases h
        · split at h
          · cases h
          · split at h
            · cases h
            · cases h
              exact ⟨x, parsed, rfl⟩

/-- No level of an accepted order is above 18000 mV (R27). -/
theorem clampOrder_levelsBounded (s : State) (x : OrderRec) : (clampOrder s x).LevelsBounded := by
  intro target rate mem
  obtain ⟨asked, -, clamped⟩ : ∃ y ∈ x.actions, y.clamp = .supplySet target rate := List.mem_map.mp mem
  cases asked with
  | supplySet level r =>
    cases clamped
    exact min_le_right _ _
  | _ => cases clamped

theorem orderTests_levelsBounded {p : List Byte} {o : OrderRec} (h : (orderTests s p).2 = some o) :
    o.LevelsBounded := by
  obtain ⟨x, -, rfl⟩ := orderTests_clamped h
  exact clampOrder_levelsBounded s x

theorem Kept.joinQueue (h : Kept a b s) {o : OrderRec} (bounded : o.LevelsBounded) :
    Kept a b (s.setOi { s.oi with queue := s.oi.queue ++ [o] }) := by
  refine h.setOi _ (fun _ => rfl) fun queued x hx => ?_
  rcases List.mem_append.mp hx with old | new
  · exact queued x old
  · exact List.mem_singleton.mp new ▸ bounded

protected theorem Kept.takeOrder (h : Kept a b s) (p : List Byte) : Kept a b (takeOrder p s) := by
  unfold Machine.takeOrder
  dsimp only
  split
  · rename_i o accepted
    exact ((h.joinQueue (orderTests_levelsBounded accepted)).receipt _ _ _ _).settle
  · exact h.receipt _ _ _ _

theorem execOrder_kept {f : RxFrame} (ht : execOrder f s = .next t) : Kept a s t :=
  kept_of_act ht (.frameEvent fun _ _ hu _ => hu.heard.takeOrder _)

protected theorem Kept.controlAbort (h : Kept a b s) (isBroadcast : Bool) (reference : Half) (flush : Bool)
    (target : Option Half) : Kept a b (controlAbort isBroadcast reference flush target s) := by
  have ended (free : Nat) (ends : Bool) : Kept a b (if ends then
      terminate .aborted id (answerControl isBroadcast reference .accepted free s)
      else answerControl isBroadcast reference .accepted free s) :=
    .ite ((h.answerControl _ _ _ _).terminate _ _) (h.answerControl _ _ _ _)
  unfold Machine.controlAbort
  cases flush with
  | false => exact (ended _ _).settle
  | true => exact ((ended _ _).flushQueue _).settle

theorem execControlAbort_kept {f : RxFrame} (ht : execControlAbort f s = .next t) : Kept a s t :=
  kept_of_act ht (.frameEvent fun _ _ hu _ => hu.heard.controlAbort _ _ _ _)

protected theorem Kept.controlRestart (h : Kept a b s) (hv : s.vdu = b.vdu) (isBroadcast : Bool) (reference : Half) :
    Kept a b (controlRestart isBroadcast reference s) := by
  unfold Machine.controlRestart
  exact ((h.emptyBuffers hv).answerControl _ _ _ _).restart.settle

theorem execControlRestart_kept {f : RxFrame} (ht : execControlRestart f s = .next t) : Kept a s t := by
  refine kept_of_act ht ?_
  split
  · exact .frameTaken fun _ _ hu hv => hu.heard.controlRestart hv _ _
  · exact .frameEvent fun _ _ hu hv => hu.heard.controlRestart hv _ _

protected theorem Kept.controlBeginDut (h : Kept a b s) (hg : a.given = true) (hi : a.identity = true)
    (hm : a.summary = true) (isBroadcast : Bool) (reference variant : Half) :
    Kept a b (controlBeginDut isBroadcast reference variant s) := by
  unfold Machine.controlBeginDut
  split
  · exact h.answerControl _ _ _ _
  · exact ((h.answerControl _ _ _ _).beginIdentity hg hi _).setSummary hm _

theorem execControlBeginDut_kept (hg : a.given = true) (hi : a.identity = true) (hm : a.summary = true) {f : RxFrame}
    (ht : execControlBeginDut f s = .next t) : Kept a s t :=
  kept_of_act ht (.frameEvent fun _ _ hu _ => hu.heard.controlBeginDut hg hi hm _ _ _)

protected theorem Kept.controlEndDut (h : Kept a b s) (isBroadcast : Bool) (reference : Half) :
    Kept a b (controlEndDut isBroadcast reference s) := by
  unfold Machine.controlEndDut
  exact ((h.answerControl _ _ _ _).endDut _).settle

theorem execControlEndDut_kept {f : RxFrame} (ht : execControlEndDut f s = .next t) : Kept a s t :=
  kept_of_act ht (.frameEvent fun _ _ hu _ => hu.heard.controlEndDut _ _)

protected theorem Kept.clearHold (h : Kept a b s) : Kept a b (clearHold s) := by
  have left : Kept a b (s.setOi { s.oi with
      limitHold := false, safeHold := false
      station := if s.oi.station = .hold then .ready else s.oi.station }) := h.setStation rfl (.inl rfl)
  exact (left.setOpu _ (by rfl)).leaveSafe

theorem execControlClearHold_kept {f : RxFrame} {key : Bool} (ht : execControlClearHold f key s = .next t) :
    Kept a s t := by
  refine kept_of_act ht (.frameEvent fun _ _ hu _ => ?_)
  unfold controlClearHold
  exact .ite (hu.heard.answerControl _ _ _ _).clearHold.settle (hu.heard.answerControl _ _ _ _)

/-- A TAKE_SUMMARY has been carried out. -/
theorem Kept.endTake (h : Kept a b s) (ha : a.summary = true) : Kept a b (s.setTaken false) :=
  { h with
    formed := by
      obtain ⟨l, ring, seq, seqs, last, -⟩ := h.formed
      exact ⟨l, ring, seq, seqs, last, fun u => (nomatch ha.symm.trans u)⟩ }

theorem execControlTakeSummary_kept (ha : a.summary = true) {f : RxFrame}
    (ht : execControlTakeSummary f s = .next t) : Kept a s t := by
  refine kept_of_act ht (Kept.endTake (.frameEvent fun _ _ hu _ => ?_) ha)
  exact .ite hu.heard (hu.heard.takeSummary ha)

theorem execControlMalformed_kept {f : RxFrame} (ht : execControlMalformed f s = .next t) : Kept a s t :=
  kept_of_act ht (.frameEvent fun _ _ hu _ => hu.heard.answerControl _ _ _ _)

protected theorem Kept.answerQuery (h : Kept a b s) (p : List Byte) : Kept a b (answerQuery p s) := by
  unfold Machine.answerQuery
  split
  · exact h.receipt _ _ _ _
  · split
    · exact h.receipt _ _ _ _
    · split
      · exact h.handInReply _
      · exact h.receipt _ _ _ _

theorem execQuery_kept {f : RxFrame} (ht : execQuery f s = .next t) : Kept a s t :=
  kept_of_act ht (.frameEvent fun _ _ hu _ => hu.heard.answerQuery _)

theorem execLinePresenceExpiry_kept (ht : execLinePresenceExpiry s = .next t) : Kept a s t := by
  have stopped : Kept a s (s.setOi { s.oi with presence := none }) := (Kept.refl a s).setStation rfl (.inl rfl)
  have lost : Kept a s (s.setOi { s.oi with presence := none, lineLost := true }) :=
    (Kept.refl a s).setStation rfl (.inl rfl)
  refine kept_of_act ht ?_
  dsimp only
  exact .ite (.ite (lost.endDut _).settle stopped) (.refl a s)

theorem execCheckStart_kept (ht : execCheckStart s = .next t) : Kept a s t := by
  refine kept_of_act ht ?_
  split
  · rename_i queued
    split
    · rename_i may
      exact ((Kept.refl a s).startCheck queued may).settle
    · exact .refl a s
  · exact .refl a s

/-! ## Configuration (R38, R39) -/

protected theorem Kept.configure (h : Kept a b s) (reference : Half) {takeSection : State → State}
    (taken : ∀ u, Kept a b u → Kept a b (takeSection u)) : Kept a b (configure reference takeSection s) :=
  .ite (taken _ (h.receipt _ _ _ _)) (h.receipt _ _ _ _)

theorem execConfigureRack_kept (ha : a.rack = true) {f : RxFrame} (ht : execConfigureRack f s = .next t) :
    Kept a s t :=
  kept_of_act ht (.frameEvent fun _ _ hu _ => hu.heard.configure _ fun _ hv =>
    hv.setOi _ (fun u => (nomatch ha.symm.trans u)) id)

theorem execConfigureSupply_kept (ha : a.supply = true) {f : RxFrame} (ht : execConfigureSupply f s = .next t) :
    Kept a s t :=
  kept_of_act ht (.frameEvent fun _ _ hu _ => hu.heard.configure _ fun _ hv =>
    { hv with supply := fun u => (nomatch ha.symm.trans u) })

theorem execConfigureLight_kept (ha : a.light = true) {f : RxFrame} (ht : execConfigureLight f s = .next t) :
    Kept a s t :=
  kept_of_act ht (.frameEvent fun _ _ hu _ => hu.heard.configure _ fun _ hv =>
    hv.updateChannel _ (fun u => (nomatch ha.symm.trans u)) id)

theorem execConfigureOperator_kept (ha : a.operator = true) {f : RxFrame}
    (ht : execConfigureOperator f s = .next t) : Kept a s t := by
  refine kept_of_act ht (.frameEvent fun x _ hu _ => hu.heard.configure _ fun v hv => ?_)
  have loaded : Kept a s (v.setOpu { v.opu with cfg := adjustOperator x.2, generator := (adjustOperator x.2).seed }) :=
    { hv with operator := fun u => (nomatch ha.symm.trans u) }
  exact .ite (loaded.raiseHold _) loaded

theorem execConfigureMessage_kept (ha : a.message = true) {f : RxFrame} (ht : execConfigureMessage f s = .next t) :
    Kept a s t :=
  kept_of_act ht (.frameEvent fun _ _ hu _ => hu.heard.configure _ fun _ hv =>
    hv.setBem _ ⟨fun u => (nomatch ha.symm.trans u), fun _ _ => rfl, fun _ => rfl, fun _ => ⟨rfl, rfl⟩,
      fun _ _ _ => rfl⟩)

theorem execConfigureCapture_kept (ha : a.capture = true) {f : RxFrame} (ht : execConfigureCapture f s = .next t) :
    Kept a s t :=
  kept_of_act ht (.frameEvent fun _ _ hu _ => hu.heard.configure _ fun _ hv =>
    hv.setBem _ ⟨fun _ _ => rfl, fun u => (nomatch ha.symm.trans u), fun _ => rfl, fun _ => ⟨rfl, rfl⟩,
      fun _ u => (nomatch ha.symm.trans u)⟩)

theorem execConfigureInvalid_kept {f : RxFrame} (ht : execConfigureInvalid f s = .next t) : Kept a s t :=
  kept_of_act ht (.frameEvent fun _ _ hu _ => hu.heard.receipt _ _ _ _)

end Sys2Proof.Machine
end
section
/-! What every command and every step keeps of the whole part: the registers that are not its own, the records of the
verdict unit, and what is off. -/

namespace Sys2Proof.Machine

variable {s t : State}

/-- Every command but a reset keeps what it is not licensed to. -/
theorem exec_kept {c : Instr} (power : ∀ x y, c ≠ .powerOnReset x y) (low : ∀ n, c ≠ .resetPinLow n)
    (release : ∀ x y, c ≠ .resetPinRelease x y) (ht : exec c s = .next t) : Kept (licenceOf c) s t := by
  cases c with
  | powerOnReset => exact absurd rfl (power _ _)
  | resetPinLow => exact absurd rfl (low _)
  | resetPinRelease => exact absurd rfl (release _ _)
  | lineDominant => exact execLineDominant_kept ht
  | syncIdleEnd => exact execSyncIdleEnd_kept ht
  | idleGapEnd => exact execIdleGapEnd_kept ht
  | positionStart => exact execPositionStart_kept ht
  | windowEnd => exact execWindowEnd_kept ht
  | readbackDifference => exact execReadbackDifference_kept ht
  | frameSentInFull => exact execFrameSentInFull_kept ht
  | frameDiscarded => exact execFrameDiscarded_kept ht
  | ownSlotFrame => exact execOwnSlotFrame_kept ht
  | peerReplyFrame => exact execPeerReplyFrame_kept ht
  | announceReceived => exact execAnnounceReceived_kept rfl ht
  | order => exact execOrder_kept ht
  | controlAbort => exact execControlAbort_kept ht
  | controlRestart => exact execControlRestart_kept ht
  | controlBeginDut => exact execControlBeginDut_kept rfl rfl rfl ht
  | controlEndDut => exact execControlEndDut_kept ht
  | controlClearHold => exact execControlClearHold_kept ht
  | controlTakeSummary => exact execControlTakeSummary_kept rfl ht
  | controlMalformed => exact execControlMalformed_kept ht
  | query => exact execQuery_kept ht
  | configureRack => exact execConfigureRack_kept rfl ht
  | configureSupply => exact execConfigureSupply_kept rfl ht
  | configureLight => exact execConfigureLight_kept rfl ht
  | configureOperator => exact execConfigureOperator_kept rfl ht
  | configureMessage => exact execConfigureMessage_kept rfl ht
  | configureCapture => exact execConfigureCapture_kept rfl ht
  | configureInvalid => exact execConfigureInvalid_kept ht
  | linePresenceExpiry => exact execLinePresenceExpiry_kept ht
  | checkStart => exact execCheckStart_kept ht
  | announceTimerExpiry => exact execAnnounceTimerExpiry_kept ht
  | peerStale => exact execPeerStale_kept rfl ht
  | claimSettleExpiry => exact execClaimSettleExpiry_kept ht
  | claimWaitExpiry => exact execClaimWaitExpiry_kept ht
  | audibleWaitExpiry => exact execAudibleWaitExpiry_kept ht
  | inrushHoldExpiry => exact execInrushHoldExpiry_kept ht
  | checkSettleExpiry => exact execCheckSettleExpiry_kept ht
  | rampComplete => exact execRampComplete_kept ht
  | slewComplete => exact execSlewComplete_kept ht
  | crankDipEnd => exact execCrankDipEnd_kept ht
  | crankRecoveryComplete => exact execCrankRecoveryComplete_kept ht
  | dischargeBelowThreshold => exact execDischargeBelowThreshold_kept ht
  | dischargeTimerExpiry => exact execDischargeTimerExpiry_kept ht
  | short => exact execShort_kept ht
  | overcurrent => exact execOvercurrent_kept ht
  | overvoltage => exact execOvervoltage_kept ht
  | offTimerExpiry => exact execOffTimerExpiry_kept ht
  | recoveryTimerExpiry => exact execRecoveryTimerExpiry_kept ht
  | slotDue => exact execSlotDue_kept ht
  | canAttemptStart => exact execCanAttemptStart_kept ht
  | canAttemptEnd => exact execCanAttemptEnd_kept ht
  | clusterFrameReceived => exact execClusterFrameReceived_kept rfl ht
  | lightBlockComplete => exact execLightBlockComplete_kept ht
  | rangeTimerExpiry => exact execRangeTimerExpiry_kept ht
  | lightWindowRerange => exact execLightWindowRerange_kept ht
  | lightWindowComplete => exact execLightWindowComplete_kept ht
  | currentWindowComplete => exact execCurrentWindowComplete_kept ht
  | soundWindowComplete => exact execSoundWindowComplete_kept ht
  | keyDigit => exact execKeyDigit_kept ht
  | keyClear => exact execKeyClear_kept ht
  | keyPass => exact execKeyPass_kept ht
  | keyFail => exact execKeyFail_kept ht
  | lookTimerExpiry => exact execLookTimerExpiry_kept ht
  | promptTimerExpiry => exact execPromptTimerExpiry_kept ht
  | abandonedRemainderEnd => exact execAbandonedRemainderEnd_kept ht

/-- A reset reads the straps or the part that stands; the commands that wait are not the part's (R18, R195). -/
theorem exec_reset_eq {c : Instr}
    (reset : (∃ x y, c = .powerOnReset x y) ∨ (∃ n, c = .resetPinLow n) ∨ ∃ x y, c = .resetPinRelease x y)
    (ht : exec c s = .next t) : t = s ∨ ∃ slot group held, t = (resetTo slot group s).setResetHeld held := by
  rcases reset with ⟨slot, group, rfl⟩ | ⟨n, rfl⟩ | ⟨slot, group, rfl⟩
  · cases ht
    exact .inr ⟨slot, group, _, rfl⟩
  · cases ht
    split
    · exact .inl rfl
    · exact .inr ⟨_, _, _, rfl⟩
  · cases ht
    split
    · exact .inr ⟨slot, group, false, rfl⟩
    · exact .inl rfl

theorem isReset_or (c : Instr) :
    ((∃ x y, c = .powerOnReset x y) ∨ (∃ n, c = .resetPinLow n) ∨ ∃ x y, c = .resetPinRelease x y) ∨
    ((∀ x y, c ≠ .powerOnReset x y) ∧ (∀ n, c ≠ .resetPinLow n) ∧ ∀ x y, c ≠ .resetPinRelease x y) := by
  by_cases reset : (∃ x y, c = .powerOnReset x y) ∨ (∃ n, c = .resetPinLow n) ∨ ∃ x y, c = .resetPinRelease x y
  · exact .inl reset
  · push Not at reset
    exact .inr reset

theorem exec_pending {c : Instr} (ht : exec c s = .next t) : t.pending = s.pending := by
  rcases isReset_or c with reset | ⟨power, low, release⟩
  · rcases exec_reset_eq reset ht with rfl | ⟨slot, group, held, rfl⟩
    · rfl
    · rfl
  · exact (exec_kept power low release ht).pending

/-! ## The commands that are licensed (R38, R45 to R47, R115, R128, R131, R133, R173, R176) -/

theorem licenceOf_rack {c : Instr} (h : ∀ x, c ≠ .configureRack x) :
    (licenceOf c).rack = false := by
  cases c with
  | configureRack x => exact absurd rfl (h x)
  | _ => rfl

theorem licenceOf_supply {c : Instr} (h : ∀ x, c ≠ .configureSupply x) :
    (licenceOf c).supply = false := by
  cases c with
  | configureSupply x => exact absurd rfl (h x)
  | _ => rfl

theorem licenceOf_light {c : Instr} (h : ∀ x, c ≠ .configureLight x) :
    (licenceOf c).light = false := by
  cases c with
  | configureLight x => exact absurd rfl (h x)
  | _ => rfl

theorem licenceOf_operator {c : Instr} (h : ∀ x, c ≠ .configureOperator x) :
    (licenceOf c).operator = false := by
  cases c with
  | configureOperator x => exact absurd rfl (h x)
  | _ => rfl

theorem licenceOf_message {c : Instr} (h : ∀ x, c ≠ .configureMessage x) :
    (licenceOf c).message = false := by
  cases c with
  | configureMessage x => exact absurd rfl (h x)
  | _ => rfl

theorem licenceOf_capture {c : Instr} (h : ∀ x, c ≠ .configureCapture x) :
    (licenceOf c).capture = false := by
  cases c with
  | configureCapture x => exact absurd rfl (h x)
  | _ => rfl

theorem licenceOf_given {c : Instr} (h : ∀ x, c ≠ .controlBeginDut x) :
    (licenceOf c).given = false := by
  cases c with
  | controlBeginDut x => exact absurd rfl (h x)
  | _ => rfl

theorem licenceOf_identity {c : Instr} (h0 : ∀ x, c ≠ .controlBeginDut x) (h1 : ∀ x, c ≠ .clusterFrameReceived x) :
    (licenceOf c).identity = false := by
  cases c with
  | controlBeginDut x => exact absurd rfl (h0 x)
  | clusterFrameReceived x => exact absurd rfl (h1 x)
  | _ => rfl

theorem licenceOf_peers {c : Instr} (h0 : ∀ x, c ≠ .announceReceived x) (h1 : ∀ x, c ≠ .peerStale x) :
    (licenceOf c).peers = false := by
  cases c with
  | announceReceived x => exact absurd rfl (h0 x)
  | peerStale x => exact absurd rfl (h1 x)
  | _ => rfl

theorem licenceOf_summary {c : Instr} (h0 : ∀ x, c ≠ .controlTakeSummary x) (h1 : ∀ x, c ≠ .controlBeginDut x) :
    (licenceOf c).summary = false := by
  cases c with
  | controlTakeSummary x => exact absurd rfl (h0 x)
  | controlBeginDut x => exact absurd rfl (h1 x)
  | _ => rfl

/-! ## The ring (R169) -/

/-- A record that joins a ring of at most 16 leaves the newest 16. -/
theorem joinRing_eq_drop {ring : List VerdictRecord} (h : ring.length ≤ 16) (r : VerdictRecord) :
    joinRing ring r = (ring ++ [r]).drop ((ring ++ [r]).length - 16) := by
  unfold joinRing
  have size : Config.ringSize = 16 := rfl
  rw [size]
  split
  · rename_i full
    rw [List.drop_append_of_le_length (by simp)]
    simp
  · rename_i room
    rw [List.length_append, List.length_singleton, Nat.sub_eq_zero_of_le (by omega), List.drop_zero]

theorem foldl_joinRing_eq_drop {ring : List VerdictRecord} (h : ring.length ≤ 16) (l : List VerdictRecord) :
    l.foldl joinRing ring = (ring ++ l).drop ((ring ++ l).length - 16) := by
  induction l generalizing ring with
  | nil => simp [show ring.length - 16 = 0 by omega]
  | cons r l ih =>
    have taken := ih (joinRing_length_le ring r)
    rw [joinRing_eq_drop h, ← List.drop_append_of_le_length (Nat.sub_le _ _), List.drop_drop, List.length_drop,
      List.append_assoc, List.singleton_append] at taken
    rw [List.foldl_cons, joinRing_eq_drop h, taken]
    congr 1
    simp only [List.length_append, List.length_cons, List.length_nil]
    omega

/-- What a merge does (R171). -/
theorem Summary.merge_spec (m : Summary) (id : Half) (v : Verdict) :
    let failing := v ≠ .pass ∧ v ≠ .done
    (m.merge id v).judged = min 65535 (m.judged + 1) ∧
    (failing → (m.merge id v).failed = min 65535 (m.failed + 1)) ∧
    (¬ failing → (m.merge id v).failed = m.failed ∧ (m.merge id v).firstFailed = m.firstFailed) ∧
    (failing → m.firstFailed = none → (m.merge id v).firstFailed = some id) ∧
    (∀ first, m.firstFailed = some first → (m.merge id v).firstFailed = some first) ∧
    (m.merge id v).mask = m.mask ||| 1#15 <<< v.code := by
  have failing_iff : v.failing = true ↔ v ≠ .pass ∧ v ≠ .done := by cases v <;> decide
  intro failing
  refine ⟨Nat.min_comm _ _, fun fails => ?_, fun passes => ?_, fun fails none => ?_, fun first some => ?_, rfl⟩
  · rw [Summary.merge, if_pos (failing_iff.mpr fails)]
    exact Nat.min_comm _ _
  · have passing : ¬ v.failing = true := fun fails => passes (failing_iff.mp fails)
    exact ⟨if_neg passing, if_neg passing⟩
  · simp [Summary.merge, failing_iff.mpr fails, none]
  · simp [Summary.merge, some]

/-! ## What is off right after a reset, and while time passes -/

theorem offMeansOff_resetWith (slot : BitVec 4) (group : BitVec 2) (mv clock choices : Nat) (pending : List Instr) :
    OffMeansOff (State.resetWith slot group mv clock choices pending) := by
  refine ⟨fun silent => (nomatch silent), fun _ => rfl,
    ⟨Nat.zero_le _, Nat.zero_le _, fun _ mem => (nomatch mem), fun _ none => (nomatch none)⟩, fun n out => ?_,
    fun opened => absurd rfl opened⟩
  exact absurd (congrArg LightChannel.state (Vector.getElem_replicate n.isLt)) out

theorem moveToward_le {rate target level top : Nat} (ht : target ≤ top) (hl : level ≤ top) :
    moveToward rate target level ≤ top := by
  unfold moveToward
  split <;> omega

/-- A profile moves the level of a rail whose output is on (R95). -/
theorem Spu.profile_leaves (u : Spu) : u.profile.rail = u.rail ∧ u.profile.setpoint = u.setpoint ∧
    (u.rail.outputOn = false → u.profile.effective = u.effective) ∧
    (u.setpoint ≤ 18000 → u.effective ≤ 18000 → u.profile.effective ≤ 18000) := by
  unfold Spu.profile
  split
  · rename_i ramping
    exact ⟨rfl, rfl, fun off => (nomatch (ramping ▸ off)), moveToward_le⟩
  · rename_i slewing
    exact ⟨rfl, rfl, fun off => (nomatch (slewing ▸ off)), moveToward_le⟩
  · rename_i cranking
    split
    · exact ⟨rfl, rfl, fun _ => rfl, fun _ => id⟩
    · split
      · exact ⟨rfl, rfl, fun _ => rfl, fun _ => id⟩
      · exact ⟨rfl, rfl, fun off => (nomatch (cranking ▸ off)), moveToward_le⟩
  · exact ⟨rfl, rfl, fun _ => rfl, fun _ => id⟩

theorem Spu.monitor_leaves (u : Spu) (i : Nat) : (u.monitor i).rail = u.rail ∧ (u.monitor i).setpoint = u.setpoint ∧
    (u.monitor i).effective = u.effective := by
  unfold Spu.monitor
  split <;> exact ⟨rfl, rfl, rfl⟩

theorem Spu.monitors_leaves (is : List Nat) (u : Spu) : (Spu.monitors is u).rail = u.rail ∧
    (Spu.monitors is u).setpoint = u.setpoint ∧ (Spu.monitors is u).effective = u.effective := by
  induction is generalizing u with
  | nil => exact ⟨rfl, rfl, rfl⟩
  | cons i is ih =>
    obtain ⟨rail, setpoint, effective⟩ := u.monitor_leaves i
    obtain ⟨rail', setpoint', effective'⟩ := ih (u.monitor i)
    rw [Spu.monitors]
    split
    · exact ⟨rail'.trans rail, setpoint'.trans setpoint, effective'.trans effective⟩
    · exact ⟨rail, setpoint, effective⟩

theorem LightChannel.tickSamples_of_held {c : LightChannel} (h : c.state = .held) (n : Fin 8) (is : List Nat) :
    (LightChannel.tickSamples n is c).1 = c := by
  induction is with
  | nil => rfl
  | cons i is ih =>
    rw [LightChannel.tickSamples, LightChannel.sample_of_held h]
    split
    · exact ih
    · rfl

theorem LightChannel.tick_of_held {c : LightChannel} (h : c.state = .held) (n : Fin 8) (ms : Nat) :
    (c.tick n ms).1.state = .held := by
  unfold LightChannel.tick
  rw [LightChannel.tickSamples_of_held (c := { c with rangeTimer := countDown c.rangeTimer }) h]
  exact h

/-- A channel in HELD stays there while time passes (R137, R138). -/
theorem tickLtu_held {v : Vector LightChannel 8} {i : Fin 8} (h : v[i].state = .held) (ms : Nat) :
    (tickLtu v ms).1[i].state = .held := by
  unfold tickLtu
  refine foldl_fst_keeps (fun w : Vector LightChannel 8 => w[i].state = .held) (fun p n hp => ?_) _ ?_
  · refine (congrArg LightChannel.state (getElem_setEntry _ _ _ i)).trans ?_
    split
    · rename_i same
      cases Fin.ext same
      exact LightChannel.tick_of_held (by rw [entryAt_fin]; exact hp) i ms
    · exact hp
  · exact h

theorem Csu.tick_of_idle {c : Csu} (h : c.window = .idle) (ma : Nat) (sound : Code) : (c.tick ma sound).1 = c := by
  simp [Csu.tick, h]

/-- One millisecond keeps what is off. -/
theorem passMs_off (h : OffMeansOff s) : OffMeansOff (passMs s) := by
  obtain ⟨silent, zero, ⟨setpoint, effective, queued, inFlight⟩, light, window⟩ := h
  obtain ⟨rail, profiled, off, within⟩ := s.spu.profile_leaves
  obtain ⟨rail', setpoint', effective'⟩ := Spu.monitors_leaves (samplesOf s.clock) s.spu.profile
  have ticked {k : CheckRecord} (hk : s.ckr = some k) : (passMs s).ckr = some k.tick := by
    rw [show (passMs s).ckr = s.ckr.map CheckRecord.tick from rfl, hk, Option.map_some]
  refine ⟨silent, fun hoff => ?_, ⟨?_, ?_, queued, fun k hk => ?_⟩, fun n out => ?_, fun opened => ?_⟩
  · have still : s.spu.rail.outputOn = false := by rw [← rail, ← rail']; exact hoff
    exact effective'.trans ((off still).trans (zero still))
  · exact (setpoint'.trans profiled).trans_le setpoint
  · exact effective'.trans_le (within setpoint effective)
  · obtain ⟨c, hc, rfl⟩ := Option.map_eq_some_iff.mp hk
    exact inFlight c hc
  · obtain ⟨k, l, hk, measures⟩ := light n fun held => out (tickLtu_held held _)
    exact ⟨k.tick, l, ticked hk, measures⟩
  · obtain ⟨k, hk, measures⟩ := window fun idle => opened (by
      rw [show (passMs s).csu = (s.csu.tick _ _).1 from rfl, Csu.tick_of_idle idle]
      exact idle)
    exact ⟨k.tick, ticked hk, measures⟩

theorem tick_off (h : OffMeansOff s) : OffMeansOff (tick s) := by
  unfold tick
  split
  · exact h
  · split
    · exact passMs_off h
    · unfold takeEvent
      dsimp only
      split
      · exact h
      · exact h

end Sys2Proof.Machine

namespace Sys2Proof.Certificates

open Machine

/-- Settles O55: each command keeps what it is not licensed to change. -/
theorem onlyItsCommandsChangeIt : Obligations.OnlyItsCommandsChangeIt := by
  intro c s t ht
  refine ⟨exec_pending ht, fun power low release => ?_⟩
  have kept := exec_kept power low release ht
  obtain ⟨slots, captures, given, identity, trackers⟩ := kept.bus
  exact ⟨kept.slot, kept.group, fun other => kept.rack (licenceOf_rack other),
    fun other => kept.supply (licenceOf_supply other), fun other => kept.light (licenceOf_light other),
    fun other => kept.operator (licenceOf_operator other), fun other => slots (licenceOf_message other),
    fun other => captures (licenceOf_capture other), fun begins => ⟨given (licenceOf_given begins), fun receives =>
      have unlicensed := licenceOf_identity begins receives
      ⟨(identity unlicensed).1, (identity unlicensed).2, fun other => trackers unlicensed (licenceOf_capture other)⟩⟩,
    fun announces stales => kept.peers (licenceOf_peers announces stales)⟩

/-- Settles O56: the records formed join the ring one after another. -/
theorem recordsAreFormedInOrder : Obligations.RecordsAreFormedInOrder := by
  intro c s t power low release room ht
  obtain ⟨l, ring, seq, seqs, last, summary⟩ := (exec_kept power low release ht).formed
  refine ⟨l, ring.trans (foldl_joinRing_eq_drop room l), seq, seqs, last, fun takes begins => ?_, Summary.merge_spec⟩
  exact summary (licenceOf_summary takes begins)

/-- Settles O59: a command keeps what is off, a reset by its reset values, every other by what it keeps; so does what a
step does with none waiting. -/
theorem stepKeepsOff : Obligations.StepKeepsOff := by
  intro s t off next
  unfold step at next
  split at next
  · rename_i c rest _
    have before : OffMeansOff (s.setPending rest) := off
    rcases isReset_or c with reset | ⟨power, low, release⟩
    · rcases exec_reset_eq reset next with rfl | ⟨slot, group, held, rfl⟩
      · exact before
      · exact offMeansOff_resetWith slot group s.spu.outputMv s.clock s.choices rest
    · exact (exec_kept power low release next).off before
  · cases next
    exact tick_off off

/-- Settles O57. -/
theorem resetIsBounded : Obligations.ResetIsBounded :=
  ⟨bounded_resetTo 15 3 { State.reset with }, offMeansOff_resetWith _ _ _ _ _ _⟩

end Sys2Proof.Certificates
end
section
/-! A command at a station that is not held in reset; the rack line's own events (chapter 1), and the answers of the
Order Intake that end no check (R30, R36, R38). -/

namespace Sys2Proof.Machine

/-! ## Acting and not acting -/

theorem act_of_running {s : State} (h : s.resetHeld = false) (g : State → State) : act s g = .next (g s) := by
  simp [act, h]

theorem act_of_held {s : State} (h : s.resetHeld = true) (g : State → State) : act s g = .next s := by
  simp [act, h]

/-- A part held in reset takes no command but a reset (R195). -/
theorem exec_of_held {s : State} (h : s.resetHeld = true) {c : Instr} (power : ∀ a b, c ≠ .powerOnReset a b)
    (low : ∀ n, c ≠ .resetPinLow n) (release : ∀ a b, c ≠ .resetPinRelease a b) : exec c s = .next s := by
  cases s
  cases h
  cases c with
  | powerOnReset => exact absurd rfl (power _ _)
  | resetPinLow => exact absurd rfl (low _)
  | resetPinRelease => exact absurd rfl (release _ _)
  | _ => rfl

/-! ## Positions of a window (R10, R12, R13) -/

/-- The position of a class at a slot. -/
def positionOf (slot : BitVec 4) : FrameClass → Nat
  | .urgent => slot.toNat
  | .normal => 17 + slot.toNat

/-- URGENT lies in 0 to 15 and NORMAL in 17 to 32, so that no position serves both. -/
theorem ownPosition_eq_some_iff {slot : BitVec 4} {q : Nat} {cls : FrameClass} :
    ownPosition slot q = some cls ↔ q = positionOf slot cls := by
  have := slot.isLt
  unfold ownPosition
  cases cls with
  | urgent => split_ifs <;> simp [positionOf] <;> omega
  | normal => split_ifs <;> simp [positionOf] <;> omega

theorem positionStart_of_elsewhere {r : Rli} {q p : Nat} (hr : r.contention = .window q)
    (h : ownPosition r.slot p = none) : r.positionStart p = { r with contention := .window p } := by
  simp only [Rli.positionStart, hr, h]

/-- At its own position of a class, fairness permitting, what the class is offered decides. -/
theorem positionStart_of_nothing {r : Rli} {q p : Nat} {cls : FrameClass} (hr : r.contention = .window q)
    (h : ownPosition r.slot p = some cls) (none : r.offered cls = none) :
    r.positionStart p = { r with contention := .window p } := by
  simp [Rli.positionStart, hr, h, none]

theorem positionStart_of_offer {r : Rli} {q p : Nat} {cls : FrameClass} {f : TxFrame}
    (hr : r.contention = .window q) (hs : r.silent = false) (h : ownPosition r.slot p = some cls)
    (hf : cls = .normal → r.fairness = false) (offer : r.offered cls = some f) : r.positionStart p =
      { r with contention := .transmitting ⟨f, cls, lineLevels (f.bytes r.slot), false⟩ } := by
  have free : (r.silent || (cls == .normal && r.fairness)) = false := by
    cases cls with
    | urgent => simp [hs]
    | normal => simp [hs, hf rfl]
  simp only [Rli.positionStart, hr, h, free, offer, Bool.false_eq_true, if_false]

theorem positionStart_of_unfair {r : Rli} {q p : Nat} (hr : r.contention = .window q)
    (h : ownPosition r.slot p = some .normal) (hf : r.fairness = true) :
    r.positionStart p = { r with contention := .window p } := by
  simp [Rli.positionStart, hr, h, hf]

theorem offered_of_announcement {r : Rli} {a : Announcement} {cls : FrameClass} (h : r.buffer = some (a, cls)) :
    r.offered cls = some (.announce a) := by
  simp [Rli.offered, h]

/-- With no announcement of the class the head of the reply queue is asked. -/
theorem offered_of_no_announcement {r : Rli} {cls : FrameClass} (h : ∀ a, r.buffer ≠ some (a, cls)) :
    r.offered cls = r.replies.head?.bind fun x => if x.cls = cls then some (.reply x) else none := by
  unfold Rli.offered
  cases hb : r.buffer with
  | none => cases r.replies <;> rfl
  | some b =>
    have other : b.2 ≠ cls := by
      rintro rfl
      exact h b.1 hb
    cases r.replies <;> simp [other]

theorem offered_of_reply {r : Rli} {cls : FrameClass} {x : Reply} {xs : List Reply}
    (h : ∀ a, r.buffer ≠ some (a, cls)) (head : r.replies = x :: xs) (same : x.cls = cls) :
    r.offered cls = some (.reply x) := by
  simp [offered_of_no_announcement h, head, same]

theorem offered_of_nothing {r : Rli} {cls : FrameClass} (h : ∀ a, r.buffer ≠ some (a, cls))
    (other : ∀ x xs, r.replies = x :: xs → x.cls ≠ cls) : r.offered cls = none := by
  rw [offered_of_no_announcement h]
  cases hr : r.replies with
  | nil => rfl
  | cons x xs => simp [other x xs hr]

/-! ## Frames that end (R6, R7, R9, R13) -/

theorem frameEnd_of_nothing (r : Rli) : r.frameEnd false = { r with contention := .gap, drove := false } := by
  simp [Rli.frameEnd]

theorem frameEnd_of_silent {r : Rli} (h : r.silent = true) (b : Bool) :
    r.frameEnd b = { r with contention := .gap, drove := false } := by
  simp [Rli.frameEnd, h]

theorem frameEnd_of_heard {r : Rli} (h : r.silent = false) :
    r.frameEnd true = { r with contention := .gap, drove := false, fairness := false } := by
  simp [Rli.frameEnd, h]

theorem frameEvent_of_ends {α : Type} {s : State} {f : RxFrame} {x : Received} {pick : Received → Option α} {a : α}
    (deliver : α → State → State) (h : Ends s f x) (hx : ∀ src, x ≠ .undelivered src) (hp : pick x = some a) :
    frameEvent f pick deliver s = deliver a (ended s) := by
  have taken := act_frameEvent_of_ends deliver h hx hp
  rw [act_of_running h.1] at taken
  exact Host.Outcome.next.inj taken

theorem classify_of_filtered {r : Rli} {f : RxFrame} (h : rxFilter r.slot f = none) : classify r f = .discarded := by
  simp [classify, h]

theorem classify_of_silent {r : Rli} {f : RxFrame} {i : Intact} (h : rxFilter r.slot f = some i)
    (hs : r.silent = true) : classify r f = .undelivered i.src := by
  simp [classify, h, hs]

/-- A frame that is delivered ends at a station on the line, behind bits that it did not drive. -/
theorem silent_of_delivered {r : Rli} {f : RxFrame} (h : classify r f ≠ .discarded)
    (hu : ∀ src, classify r f ≠ .undelivered src) : r.silent = false ∧ r.drove = false := by
  unfold classify at h hu
  cases hi : rxFilter r.slot f with
  | none => simp [hi] at h
  | some i =>
    simp only [hi] at hu
    split at hu
    · exact absurd rfl (hu _)
    · next free => simpa using free

/-! ## Fields that an announcement carries (R42, R44) -/

theorem handInAnnouncement_of_silent {r : Rli} (h : r.silent = true) (a : Announcement) :
    r.handInAnnouncement a = r := by
  simp [Rli.handInAnnouncement, h]

theorem handInAnnouncement_buffer {r : Rli} (h : r.silent = false) (a : Announcement) :
    (r.handInAnnouncement a).buffer = some (a, announceClass r.lastSentClaim r.lastSentNoisy a) := by
  simp [Rli.handInAnnouncement, h]

theorem announceClass_eq_urgent_iff {c : Option AnnClaim} {n : Bool} {a : Announcement} :
    announceClass c n a = .urgent ↔ a.claim ≠ c ∨ a.noisy ≠ n := by
  simp [announceClass, or_iff_not_imp_left]

theorem announceClass_eq (c : Option AnnClaim) (n : Bool) (a : Announcement) :
    announceClass c n a = if a.claim ≠ c ∨ a.noisy ≠ n then FrameClass.urgent else FrameClass.normal := by
  simp [announceClass]

/-! ## The notice of an announcement sent (R54) -/

theorem settleNotice_of_pending {s : State} {c : OwnClaim} {m : AnnClaim} (hc : s.clu.claim = some c)
    (hr : m.resource = c.resource) (ht : m.ticket = c.ticket) (hm : m.granted = false) (hg : c.granted = false)
    (hs : c.settle = .notBegun) : settleNotice (some m) s =
      s.setClu { s.clu with claim := some { c with settle := .running (2 * s.oi.rack.period) } } := by
  simp [settleNotice, hc, hr, ht, hm, hg, hs]

theorem settleNotice_of_other {s : State} {sent : Option AnnClaim}
    (h : ∀ c m, s.clu.claim = some c → sent = some m → m.resource ≠ c.resource ∨ m.ticket ≠ c.ticket ∨
      m.granted = true ∨ c.granted = true ∨ c.settle ≠ .notBegun) : settleNotice sent s = s := by
  unfold settleNotice
  split
  · next hc =>
    rw [if_neg]
    rintro ⟨hr, ht, hm', hg, hs⟩
    rcases h _ _ hc rfl with x | x | x | x | x
    · exact x hr
    · exact x ht
    · exact nomatch hm'.symm.trans x
    · exact nomatch hg.symm.trans x
    · exact x hs
  · rfl

/-! ## The summary exchange (R173) -/

theorem setTaken_of_not_taken {s : State} (h : s.taken = false) : s.setTaken false = s := by
  cases s
  cases h
  rfl

/-- The summary frame joins the reply queue and the summary is emptied with it. -/
theorem takeSummary_of_room {s : State} (h : s.rli.hasRoom = true) : takeSummary s =
    (s.setRli { s.rli with replies := s.rli.replies ++ [.summary (summaryFrame s)] }).setVdu
      { s.vdu with summary := .empty } := by
  simp [takeSummary, handInReply, Rli.handInReply, h]

theorem takeSummary_of_full {s : State} (h : s.rli.hasRoom = false) : takeSummary s = s := by
  simp [takeSummary, handInReply, Rli.handInReply, h]

/-! ## Configuration refused (R38) -/

theorem canConfigure_iff {s : State} : canConfigure s = true ↔
    (s.oi.station = .unconfigured ∨ s.oi.station = .ready) ∧ s.ckr = none ∧ s.oi.queue = [] ∧ s.spu.rail = .off := by
  simp [canConfigure, and_assoc]

theorem configure_of_busy {s : State} (h : ¬ canConfigure s = true) (reference : Half) (g : State → State) :
    configure reference g s = receipt .configure reference .busy (freePlaces s) s := by
  rw [configure, if_neg h]

theorem configure_of_idle {s : State} (h : canConfigure s = true) (reference : Half) (g : State → State) :
    configure reference g s = g (receipt .configure reference .accepted (freePlaces s) s) := by
  rw [configure, if_pos h]

theorem pickConfigure_of_parse {α : Type} {sel : ConfigSection → Option α} {p : List Byte} {c : ConfigSection} {a : α}
    (hp : parseConfigure p = some c) (hs : sel c = some a) :
    pickConfigure sel (.configure p) = some (leadingHalf p, a) := by
  simp [pickConfigure, hp, hs]

end Sys2Proof.Machine

namespace Sys2Proof.Certificates

open Machine

/-! ## The obligations -/

/-- Settles O1: the definition of the step. -/
theorem stepTakesFrontCommand : Obligations.StepTakesFrontCommand := by
  intro c rest s h
  simp only [step, h]

/-- Settles O3: the reset state is written out by the model; a held part takes no other command. -/
theorem resetsReadStrapsAndClearLine : Obligations.ResetsReadStrapsAndClearLine := by
  intro slot group s cleared
  refine ⟨⟨_, rfl, ?_⟩, fun held => ?_, fun free => ?_, fun us short => ?_, fun us long => ?_,
    fun held c power low release => exec_of_held held power low release⟩
  · exact ⟨rfl, rfl, rfl, rfl, rfl, rfl, rfl, rfl, rfl, rfl⟩
  · have released : exec (.resetPinRelease slot group) s = .next (resetTo slot group s) := congrArg _ (if_pos held)
    exact ⟨_, released, ⟨rfl, rfl, rfl, rfl, rfl, rfl, rfl, rfl, rfl, rfl⟩, rfl⟩
  · exact congrArg _ (if_neg (ne_true_of_eq_false free))
  · exact congrArg _ (if_pos short)
  · exact congrArg _ (if_neg (Nat.not_lt.mpr long))

/-- Settles O5: each event by the condition it meets. -/
theorem contentionConditions : Obligations.ContentionConditions := by
  intro s running
  refine ⟨fun h => ?_, fun h => ?_, fun h => ?_, fun h => ?_, fun q h => ?_⟩
  · exact (act_of_running running _).trans (congrArg _ (if_pos h))
  · exact (act_of_running running _).trans (congrArg _ (if_pos h))
  · change execLineDominant s = _
    rw [execLineDominant, act_of_running running]
    refine congrArg _ ?_
    obtain h | h | ⟨p, h⟩ := h <;> simp only [h]
  · change execLineDominant s = _
    rw [execLineDominant, act_of_running running]
    refine congrArg _ ?_
    obtain h | ⟨tx, h⟩ := h <;> simp only [h]
  · change execWindowEnd s = _
    rw [execWindowEnd, act_of_running running]
    refine congrArg _ ?_
    simp only [h]
    cases s.rli.silent <;> simp

/-- Settles O6: at the own position of a class the offer of that class decides. -/
theorem positionStartOffersOneFrame : Obligations.PositionStartOffersOneFrame := by
  intro s q p running silent window starts passes own
  have own_eq : ∀ cls, own cls = positionOf s.rli.slot cls := by
    intro cls
    cases cls with
    | urgent => exact Nat.zero_add _
    | normal => rfl
  have taken : exec (.positionStart p) s = .next (s.setRli (s.rli.positionStart p)) := by
    change execPositionStart p s = _
    rw [execPositionStart, act_of_running running]
  simp only [own_eq]
  refine ⟨fun cls here fair => ?_, fun here unfair => ?_, fun notUrgent notNormal => ?_⟩
  · have own := ownPosition_eq_some_iff.mpr here
    rw [taken]
    refine ⟨fun a ha => ?_, fun x xs none head same => ?_, fun none other => ?_⟩
    · rw [positionStart_of_offer window silent own fair (offered_of_announcement ha)]
    · rw [positionStart_of_offer window silent own fair (offered_of_reply none head same)]
    · rw [positionStart_of_nothing window own (offered_of_nothing none other)]
  · rw [taken, positionStart_of_unfair window (ownPosition_eq_some_iff.mpr here) unfair]
  · rw [taken, positionStart_of_elsewhere window]
    refine Option.eq_none_iff_forall_ne_some.mpr fun cls hcls => ?_
    cases cls with
    | urgent => exact notUrgent (ownPosition_eq_some_iff.mp hcls)
    | normal => exact notNormal (ownPosition_eq_some_iff.mp hcls)

/-- Settles O7: below the limit a collision is only counted. -/
theorem readbackDifferenceIsCounted : Obligations.ReadbackDifferenceIsCounted := by
  intro s tx running sending few
  refine (act_of_running running _).trans (congrArg _ ?_)
  have below : ¬ s.rli.collisions + 1 ≥ Config.collisionLimit := Nat.not_le.mpr (Nat.succ_lt_succ few)
  simp [sending, Contention.sending, Rli.collide, Rli.abandon, below]

/-- Settles O9: by what was sent, and by the claim that the notice meets. -/
theorem frameSentInFull : Obligations.FrameSentInFull := by
  intro s tx running sending
  refine ⟨fun x hx => ?_, fun a ha => ?_⟩
  · change execFrameSentInFull s = _
    rw [execFrameSentInFull, act_of_running running]
    simp only [sending, hx, Rli.sentInFull]
  · intro line
    have line_eq : s.setRli (s.rli.sentInFull tx) = line := by
      simp only [Rli.sentInFull, ha, announceClass_eq]
      rfl
    have taken : exec .frameSentInFull s = .next (settleNotice a.claim line) := by
      change execFrameSentInFull s = _
      rw [execFrameSentInFull, act_of_running running]
      simp only [sending, ha, line_eq]
    rw [taken]
    exact ⟨fun c m hc hm hr ht hg hcg hs => congrArg _ (hm ▸ settleNotice_of_pending hc hr ht hg hcg hs),
      fun other => congrArg _ (settleNotice_of_other other)⟩

/-- Settles O10: by what the filter and the RLI make of the frame. -/
theorem framesForNoBlock : Obligations.FramesForNoBlock := by
  intro s f running quiet gap
  refine ⟨fun bad => ?_, fun peer => ?_, fun i good silent c hc => ?_, fun drove bad => ?_,
    fun i drove loud good => ?_⟩
  · change execFrameDiscarded f s = _
    rw [execFrameDiscarded, act_of_running running]
    refine congrArg _ ?_
    simp [quiet, classify_of_filtered bad, frameEnd_of_nothing, gap]
  · have loud := (silent_of_delivered (r := s.rli) (f := f) (by simp [peer]) (by simp [peer])).1
    refine (act_of_running running _).trans (congrArg _ ?_)
    simp [frameEvent, quiet, peer, pickPeerReply, frameEnd_of_heard loud, gap]
  · rcases hc with rfl | rfl
    · exact (act_of_running running _).trans (congrArg _ (by
        simp [frameEvent, quiet, classify_of_silent good silent, undelivered, frameEnd_of_silent silent, gap]))
    · change execOwnSlotFrame f s = _
      rw [execOwnSlotFrame, act_of_running running]
      refine congrArg _ ?_
      simp [quiet, classify_of_silent good silent, undelivered, frameEnd_of_silent silent, gap]
  · change execAbandonedRemainderEnd f s = _
    rw [execAbandonedRemainderEnd, act_of_running running]
    refine congrArg _ ?_
    simp [quiet, drove, bad, frameEnd_of_nothing, gap]
  · change execAbandonedRemainderEnd f s = _
    rw [execAbandonedRemainderEnd, act_of_running running]
    refine congrArg _ ?_
    simp [quiet, drove, good, Rli.frameEnd, loud, gap, bne]

/-- Settles O12: the announcement that the blocks give at that moment. -/
theorem announceTimerHandsIn : Obligations.AnnounceTimerHandsIn := by
  intro s n running timer loud
  refine ⟨_, act_of_running running _, ?_⟩
  simp only [timer, Option.isSome_some, if_true]
  refine ⟨rfl, rfl, rfl, rfl, rfl, rfl, rfl, ?_, buildAnnouncement s, _, handInAnnouncement_buffer loud _, rfl, rfl, rfl,
    rfl, rfl, rfl, rfl, rfl, rfl, rfl, fun none => ?_, fun c hc => ?_, fun none => ?_, fun c hc => ?_,
    announceClass_eq_urgent_iff⟩
  · simp [handIn, Rli.handInAnnouncement, loud]
  · simp [buildAnnouncement, none]
  · simp [buildAnnouncement, hc]
  · simp [buildAnnouncement, none]
  · simp [buildAnnouncement, hc]

/-- Settles O30: the exchange is made where the frame finds room, and not a second time. -/
theorem controlTakeSummary : Obligations.ControlTakeSummary := by
  intro s f b p h hp
  have taken : exec (.controlTakeSummary f) s =
      .next ((if s.taken then heardFrame s else takeSummary (heardFrame s)).setTaken false) := by
    change execControlTakeSummary f s = _
    rw [execControlTakeSummary, act_of_running h.1]
    exact congrArg (fun t => Host.Outcome.next (t.setTaken false))
      (frameEvent_of_ends (fun _ s => if s.taken then heard s else takeSummary (heard s)) h nofun
        (pickControl_of_parse b hp (by rfl)))
  refine ⟨fun fresh hr => ?_, fun fresh hr => ?_, fun done => ?_, fun x slot => ⟨rfl, rfl⟩⟩
  · rw [taken, if_neg (ne_true_of_eq_false fresh), takeSummary_of_room (s := heardFrame s) hr,
      setTaken_of_not_taken (by exact fresh)]
    rfl
  · rw [taken, if_neg (ne_true_of_eq_false fresh), takeSummary_of_full (s := heardFrame s) hr,
      setTaken_of_not_taken (by exact fresh)]
  · rw [taken, if_pos done]

/-- Settles O31: the two malformed frames at the heard state. -/
theorem malformedFramesAnswerInvalid : Obligations.MalformedFramesAnswerInvalid := by
  intro s f p answered
  refine ⟨fun h bad => ?_, fun h bad => ?_, fun h bad => ?_⟩
  · exact act_frameEvent_of_ends (pick := pickBadControl) _ h nofun (if_pos (Option.isNone_iff_eq_none.mpr bad))
  · exact act_frameEvent_of_ends (pick := pickBadControl) _ h nofun (if_pos (Option.isNone_iff_eq_none.mpr bad))
  · exact act_frameEvent_of_ends (pick := pickBadConfigure) _ h nofun (if_pos (Option.isNone_iff_eq_none.mpr bad))

/-- Settles O33: each section reaches the test of R38, which fails. -/
theorem configureBusy : Obligations.ConfigureBusy := by
  intro s f p c h hp busy
  have refused : ¬ canConfigure (heardFrame s) = true := fun idle => busy (canConfigure_iff.mp idle)
  have answered : ∀ g : State → State, configure (leadingHalf p) g (heardFrame s) =
      (heardFrame s).setRli ((heardFrame s).rli.handInReply
        (.receipt ⟨.configure, leadingHalf p, .busy, 8 - s.oi.queue.length⟩)) :=
    fun g => configure_of_busy refused _ g
  cases c with
  | rack r =>
    exact (act_frameEvent_of_ends _ h nofun (pickConfigure_of_parse hp (by rfl))).trans (congrArg _ (answered _))
  | supply r =>
    exact (act_frameEvent_of_ends _ h nofun (pickConfigure_of_parse hp (by rfl))).trans (congrArg _ (answered _))
  | light n r =>
    exact (act_frameEvent_of_ends _ h nofun (pickConfigure_of_parse hp (by rfl))).trans (congrArg _ (answered _))
  | operator r =>
    exact (act_frameEvent_of_ends _ h nofun (pickConfigure_of_parse hp (by rfl))).trans (congrArg _ (answered _))
  | message m =>
    exact (act_frameEvent_of_ends _ h nofun (pickConfigure_of_parse hp (by rfl))).trans (congrArg _ (answered _))
  | capture m =>
    exact (act_frameEvent_of_ends _ h nofun (pickConfigure_of_parse hp (by rfl))).trans (congrArg _ (answered _))

end Sys2Proof.Certificates
end
section
/-! The rail taken off (R99 to R101): what an off request and the end of a check make of the SPU, and the entry to
SILENT (R8, R14, R17, R23). -/

namespace Sys2Proof.Machine

/-! ## To an output-off state -/

theorem moved_of_off {r : RailState} (h : r.outputOn = false) (u : Spu) : u.moved r = u.sourceOff r := by
  have crank : r ≠ .cranking := by
    rintro rfl
    exact nomatch h
  simp [Spu.moved, Spu.sourceOff, h, crank]

theorem railTo_spu_of_off {r : RailState} (h : r.outputOn = false) (s : State) : (railTo r s).spu = s.spu.sourceOff r :=
  (railTo_spu r s).trans (moved_of_off h s.spu)

theorem arriveOff_spu (s : State) : (arriveOff s).spu = { s.spu.sourceOff .off with dischargeTimer := none } := by
  unfold arriveOff
  rw [State.setSpu_spu, railTo_spu_of_off rfl]

/-- DISCHARGING is entered with the retry flag as it stands. -/
theorem beginDischarge_spu (s : State) :
    (beginDischarge s).spu = { s.spu.dischargeBegun with retry := s.spu.retry } := by
  have entered := railTo_spu_of_off (r := .discharging) rfl s
  have limit : Config.dischargedBelowMv = 500 := rfl
  unfold beginDischarge Spu.dischargeBegun
  simp only [entered, limit, State.setSpu_spu]
  by_cases low : s.spu.outputMv < 500
  · simp [Spu.sourceOff, low, arriveOff_spu]
  · simp [Spu.sourceOff, low, Config.dischargeMs]

theorem beginDischarge_spu_of_no_retry {s : State} (h : s.spu.retry = false) :
    (beginDischarge s).spu = s.spu.dischargeBegun := by
  rw [beginDischarge_spu, h]
  unfold Spu.dischargeBegun
  dsimp only
  split <;> rfl

theorem cancelRetry_spu (s : State) : (cancelRetry s).spu = { s.spu with retry := false } := by
  unfold cancelRetry
  split
  · simp
  · next h => rw [← Bool.eq_false_of_not_eq_true h]

theorem dischargeBegun_of_retry (u : Spu) (b : Bool) :
    Spu.dischargeBegun { u with retry := b } = u.dischargeBegun := rfl

theorem discharge_of_cancelled (s : State) : (beginDischarge (cancelRetry s)).spu = s.spu.dischargeBegun := by
  rw [beginDischarge_spu_of_no_retry (by rw [cancelRetry_spu]), cancelRetry_spu, dischargeBegun_of_retry]

/-- The table of R99 state by state. -/
theorem offRequest_offAsked (s : State) : s.spu.OffAsked (offRequest s).spu := by
  unfold offRequest
  cases hr : s.spu.rail with
  | off => exact ⟨fun _ => rfl, fun h => (nomatch hr.symm.trans h), by simp [hr]⟩
  | discharging => exact ⟨fun _ => rfl, fun h => (nomatch hr.symm.trans h), by simp [hr]⟩
  | safe => exact ⟨fun _ => rfl, fun h => (nomatch hr.symm.trans h), by simp [hr]⟩
  | waitInrush =>
    cases retry : s.spu.retry with
    | false => exact ⟨by simp [hr], fun _ _ => railTo_spu_of_off rfl s, by simp [hr, retry]⟩
    | true => exact ⟨by simp [hr], by simp [retry], fun _ => discharge_of_cancelled s⟩
  | _ => exact ⟨by simp [hr], fun h => (nomatch hr.symm.trans h), fun _ => discharge_of_cancelled s⟩

/-! ## The power-up cancel (R100) -/

theorem arriveOn_spu_of_on {s : State} (h : s.spu.rail.outputOn = true) : (arriveOn s).spu = s.spu.arrived := by
  have on : RailState.on.outputOn = true := rfl
  rw [arriveOn_eq]
  simp [Spu.moved, Spu.arrived, h, on]

theorem rampArrive_spu_of_on {s : State} (h : s.spu.rail.outputOn = true) :
    (rampArrive s).spu = { s.spu.arrived with recovery := some 1000 } := by
  simp [rampArrive, arriveOn_spu_of_on h, Config.recoveryMs]

theorem powerUpCancel_cancelled (s : State) : s.spu.PowerUpCancelled (powerUpCancel s).spu := by
  unfold powerUpCancel
  cases retry : s.spu.retry with
  | true => exact ⟨by simp [retry], by simp [retry], fun _ => rfl⟩
  | false =>
    simp only [Bool.false_eq_true, if_false]
    cases hr : s.spu.rail with
    | waitInrush => exact ⟨fun _ _ => railTo_spu_of_off rfl s, by simp [hr], by simp [hr, retry]⟩
    | ramping =>
      refine ⟨by simp [hr], fun _ _ => ?_, by simp [hr, retry]⟩
      dsimp only [takeFirst]
      split
      · next there =>
        by_cases first : Config.firstTaken s.choices = true <;> simp only [first, Bool.false_eq_true, if_true, if_false]
        · exact .inr ⟨there, rampArrive_spu_of_on (by simp [hr, RailState.outputOn])⟩
        · exact .inl (beginDischarge_spu_of_no_retry (by simpa using retry))
      · exact .inl (beginDischarge_spu_of_no_retry retry)
    | _ => exact ⟨by simp [hr], by simp [hr], fun _ => rfl⟩

theorem dischargeBegun_rail (u : Spu) : u.dischargeBegun.rail = .off ∨ u.dischargeBegun.rail = .discharging := by
  unfold Spu.dischargeBegun
  dsimp only
  split
  · exact .inl rfl
  · exact .inr rfl

/-- An arrival at the setpoint leaves nothing that the discharge would keep. -/
theorem dischargeBegun_of_arrived {u : Spu} (h : u.effective = u.setpoint) (r : Option Nat) :
    Spu.dischargeBegun { u.arrived with recovery := r } = u.dischargeBegun := by
  simp [Spu.dischargeBegun, Spu.arrived, Spu.sourceOff, h]

/-- An off request behind the cancel of a power-up goes by the table of R99 all the same. -/
theorem Spu.PowerUpCancelled.offAsked {u v t : Spu} (h : u.PowerUpCancelled v) (ht : v.OffAsked t) : u.OffAsked t := by
  obtain ⟨waiting, ramping, other⟩ := h
  obtain ⟨off, claimed, on⟩ := ht
  by_cases quiet : u.retry = true ∨ (u.rail ≠ .waitInrush ∧ u.rail ≠ .ramping)
  · obtain rfl := other quiet
    exact ⟨off, claimed, on⟩
  obtain ⟨retry, power⟩ := not_or.mp quiet
  rw [Bool.not_eq_true] at retry
  by_cases hw : u.rail = .waitInrush
  · obtain rfl := waiting retry hw
    refine ⟨by simp [hw], fun _ _ => off (.inl rfl), by simp [hw, retry]⟩
  · have hr : u.rail = .ramping := not_not.mp fun hr => power ⟨hw, hr⟩
    refine ⟨by simp [hr], by simp [hr], fun _ => ?_⟩
    rcases ramping retry hr with rfl | ⟨there, rfl⟩
    · exact off ((dischargeBegun_rail u).imp_right .inl)
    · exact (on (.inr (.inr (.inl rfl)))).trans (dischargeBegun_of_arrived there _)

/-! ## The rail at the end of a check (R87, R100) -/

theorem stopWork_spu (k : CheckRecord) (s : State) : (stopWork k s).spu = (powerUpCancel s).spu := by
  unfold stopWork
  dsimp only
  split <;> split <;> simp [stopMeasurement_spu]

theorem endCheck_spu {s : State} {k : CheckRecord} (h : s.ckr = some k) (v : Option VerdictContent) :
    (endCheck v s).spu = (powerUpCancel s).spu := by
  unfold endCheck
  simp only [h]
  cases v <;> simp [stopWork_spu]

/-- An off request behind the end of a check. -/
theorem offAsked_of_endCheck {s t : State} {v : Option VerdictContent} (ht : t.spu = (endCheck v s).spu) :
    s.spu.OffAsked (offRequest t).spu := by
  have asked := ht ▸ offRequest_offAsked t
  cases hc : s.ckr with
  | none => rwa [endCheck_of_none hc] at asked
  | some k => exact (endCheck_spu hc v ▸ powerUpCancel_cancelled s).offAsked asked

theorem offAsked_of_terminate {s t : State} {v : Verdict} {m : VerdictFlags → VerdictFlags}
    (ht : t.spu = (terminate v m s).spu) : s.spu.OffAsked (offRequest t).spu := by
  cases hc : s.ckr with
  | none =>
    rw [terminate_of_none hc] at ht
    exact ht ▸ offRequest_offAsked t
  | some k =>
    simp only [terminate, hc] at ht
    exact offAsked_of_endCheck ht

/-! ## Messages cleared, prompt ended -/

@[simp] theorem clearMessages_bem_queue (s : State) : (clearMessages s).bem.queue = [] := rfl

theorem clearMessages_slot (s : State) (n : Nat) (hn : n < 24) :
    (clearMessages s).bem.slots[n] = { s.bem.slots[n] with late := false, enabled := false } := by
  simp [clearMessages]

theorem promptEnd_state (s : State) : (promptEnd s).opu.state = .idle := by
  unfold promptEnd
  split
  · assumption
  · rfl

theorem releaseEverything_clu (s : State) : (releaseEverything s).clu =
    { s.clu with claim := none, deferred := none, noisy := false, audible := none } := by
  unfold releaseEverything
  dsimp only
  split <;> simp

/-! ## SILENT (R17, R23) -/

theorem enterSilent_leaves (r : Rli) : r.enterSilent.silent = true ∧ r.enterSilent.buffer = none ∧
    r.enterSilent.replies = [] ∧ r.enterSilent.contention.sending = false ∧ r.enterSilent.fairness = r.fairness ∧
    r.enterSilent.slot = r.slot := by
  unfold Rli.enterSilent Rli.emptyBuffers Rli.abandon
  split
  · exact ⟨rfl, rfl, rfl, rfl, rfl, rfl⟩
  · next quiet => exact ⟨rfl, rfl, rfl, Bool.eq_false_of_not_eq_true quiet, rfl, rfl⟩

/-- A SILENT line interface takes nothing of what the entry to SILENT would announce. -/
theorem goSilent_rli {s : State} (loud : s.rli.silent = false) : (goSilent s).rli = s.rli.enterSilent := by
  have silenced := (enterSilent_leaves s.rli).1
  have cleared : ∀ u : State, u.rli = s.rli.enterSilent → (releaseEverything (clearMessages (offRequest u))).rli =
      s.rli.enterSilent := by
    intro u hu
    have off : (offRequest u).rli = s.rli.enterSilent := (offRequest_rli_of_silent (hu ▸ silenced)).trans hu
    exact (releaseEverything_rli_of_silent (off ▸ silenced)).trans off
  simp only [goSilent, loud, Bool.false_eq_true, if_false]
  simpa using cleared _ (endCheck_rli_of_silent (by exact silenced))

theorem goSilent_spu {s : State} (loud : s.rli.silent = false) : s.spu.OffAsked (goSilent s).spu := by
  simp only [goSilent, loud, Bool.false_eq_true, if_false, State.setOpu_spu, State.setClu_spu, promptEnd_spu,
    releaseEverything_spu, clearMessages_spu]
  exact offAsked_of_endCheck (s := (s.setRli s.rli.enterSilent).setOi { s.oi with station := .silent }) (by rfl)

theorem goSilent_bem {s : State} (loud : s.rli.silent = false) :
    (goSilent s).bem.queue = [] ∧ ∀ n : Fin 24, (goSilent s).bem.slots[n].enabled = false := by
  simp only [goSilent, loud, Bool.false_eq_true, if_false, State.setOpu_bem, State.setClu_bem, promptEnd_bem,
    releaseEverything_bem]
  exact ⟨rfl, fun n => congrArg MessageSlot.enabled (clearMessages_slot _ n n.isLt)⟩

theorem goSilent_clu {s : State} (loud : s.rli.silent = false) : (goSilent s).clu =
    { (goSilent s).clu with claim := none, deferred := none, noisy := false, audible := none, announceTimer := none } ∧
    (goSilent s).clu.peers = s.clu.peers := by
  simp only [goSilent, loud, Bool.false_eq_true, if_false, State.setOpu_clu, State.setClu_clu, promptEnd_clu,
    releaseEverything_clu]
  simp

theorem goSilent_opu {s : State} (loud : s.rli.silent = false) : (goSilent s).opu.state = .idle ∧
    (goSilent s).opu.lamp = false ∧ (goSilent s).opu.errors = s.opu.errors := by
  simp only [goSilent, loud, Bool.false_eq_true, if_false]
  exact ⟨promptEnd_state _, rfl, by simp⟩

theorem goSilent_rest {s : State} (loud : s.rli.silent = false) :
    (goSilent s).oi = { s.oi with station := .silent, queue := [], presence := none } ∧ (goSilent s).ckr = none ∧
    (goSilent s).vdu = s.vdu := by
  simp only [goSilent, loud, Bool.false_eq_true, if_false]
  exact ⟨by simp, by simp, by simp [endCheck_none_vdu]⟩

end Sys2Proof.Machine

namespace Sys2Proof.Certificates

open Machine

/-- Settles O8: both ways into SILENT, which differ in the line interface alone. -/
theorem duplicateSlotSilencesStation : Obligations.DuplicateSlotSilencesStation := by
  intro c s loud h
  have taken : ∃ r : Rli, exec c s = .next (goSilent (s.setRli r)) ∧ r.silent = false ∧
      r.fairness = s.rli.fairness ∧ r.slot = s.rli.slot := by
    obtain ⟨rfl, running, ⟨tx, sending⟩, count⟩ | ⟨f, rfl, running, quiet, own⟩ := h
    · refine ⟨s.rli.collide, (act_of_running running _).trans (congrArg _ ?_), ?_⟩
      · simp [sending, Contention.sending, Rli.collide, Rli.abandon, count, Config.collisionLimit]
      · simp [sending, Contention.sending, Rli.collide, Rli.abandon, loud]
    · refine ⟨s.rli.frameEnd false, ?_, ?_⟩
      · change execOwnSlotFrame f s = _
        rw [execOwnSlotFrame, act_of_running running]
        simp [quiet, own]
      · rw [frameEnd_of_nothing]
        exact ⟨loud, rfl, rfl⟩
  obtain ⟨r, hr, quiet, fair, slot⟩ := taken
  have loud' : (s.setRli r).rli.silent = false := quiet
  obtain ⟨silent, buffer, replies, sending, fairness, strap⟩ := enterSilent_leaves r
  obtain ⟨clu, peers⟩ := goSilent_clu loud'
  obtain ⟨oi, ckr, vdu⟩ := goSilent_rest loud'
  obtain ⟨queue, slots⟩ := goSilent_bem loud'
  obtain ⟨state, lamp, errors⟩ := goSilent_opu loud'
  refine ⟨_, hr, ?_⟩
  dsimp only
  rw [goSilent_rli loud', clu]
  exact ⟨silent, buffer, replies, sending, fairness.trans fair, strap.trans slot, oi, ckr, rfl, rfl, rfl, rfl, rfl, peers,
    vdu, goSilent_spu loud', queue, slots, state, lamp, errors⟩

end Sys2Proof.Certificates
end
section
/-! Frames read back (R3 to R7, R42, R46, section 11.2): the header, the filter over the characters of a frame, and the
announcement payload. -/

namespace Sys2Proof.Machine

/-! ## The header (section 11.2) -/

theorem headerSrc_of_header (src dst : BitVec 5) :
    headerSrc (((src.setWidth 8) <<< 3) ||| ((dst.setWidth 8) >>> 2)) = src := by
  apply BitVec.eq_of_getLsbD_eq
  intro i hi
  have beyond : dst.getLsbD (2 + (3 + i)) = false := dst.getLsbD_of_ge _ (by omega)
  have within : 3 + i < 8 ∧ i < 8 := by omega
  simp [headerSrc, hi, beyond, within]

/-- A kind code has no bit above the lowest four. -/
theorem getElem_byteOf_of_code {n : Nat} (h : n < 16) {i : Nat} (hi : i < 8) (high : 4 ≤ i) :
    (byteOf n)[i] = false := by
  have : n.testBit i = false :=
    Nat.testBit_lt_two_pow (lt_of_lt_of_le h (Nat.pow_le_pow_right (n := 2) (by decide) high))
  rw [← BitVec.getLsbD_eq_getElem, byteOf, BitVec.getLsbD_ofNat, this, Bool.and_false]

/-- The three high bits stand in the first byte, the two low ones in the second. -/
theorem headerDst_of_header (src dst : BitVec 5) {n : Nat} (h : n < 16) :
    headerDst (((src.setWidth 8) <<< 3) ||| ((dst.setWidth 8) >>> 2)) (((dst.setWidth 8) <<< 6) ||| (byteOf n <<< 2)) =
      dst := by
  apply BitVec.eq_of_getLsbD_eq
  intro i hi
  interval_cases i <;> simp [headerDst, getElem_byteOf_of_code h]

theorem headerKind_of_header (dst : BitVec 5) {n : Nat} (h : n < 16) :
    headerKind (((dst.setWidth 8) <<< 6) ||| (byteOf n <<< 2)) = n := by
  have bits : (((dst.setWidth 8) <<< 6 ||| byteOf n <<< 2) >>> 2) &&& 15 = byteOf n := by
    apply BitVec.eq_of_getLsbD_eq
    intro i hi
    interval_cases i <;> simp [getElem_byteOf_of_code h]
  rw [headerKind, bits, byteOf, BitVec.toNat_ofNat, Nat.mod_eq_of_lt (by omega)]

theorem header_low (dst : BitVec 5) (code : Byte) : (((dst.setWidth 8) <<< 6) ||| (code <<< 2)) &&& 3 = 0 := by
  apply BitVec.eq_of_getLsbD_eq
  intro i hi
  interval_cases i <;> simp

theorem ofCode_code (kind : FrameKind) : FrameKind.ofCode kind.code = some kind := by cases kind <;> rfl

theorem code_lt (kind : FrameKind) : kind.code < 16 := by cases kind <;> decide

/-! ## The filter (R6) -/

theorem received_stopLow (bs : List Byte) : (received bs).any (·.stopLow) = false := by
  simp [received]

theorem received_byte (bs : List Byte) : (received bs).map (·.byte) = bs := by
  simp [received, Function.comp_def]

/-- The filter over the characters of a frame whose CRC bytes are hi and lo. -/
theorem rxFilter_received (slot : BitVec 4) (src dst : BitVec 5) (kind : FrameKind) {payload : List Byte}
    (h : payload.length ≤ 128) (hi lo : Byte) :
    rxFilter slot (received (0xb4 :: frameBody src dst kind payload ++ [hi, lo])) =
      if [hi, lo] = [(crc16 (frameBody src dst kind payload) >>> 8).setWidth 8,
          (crc16 (frameBody src dst kind payload)).setWidth 8] ∧ addressesPass slot src dst kind = true then
        some ⟨src, dst, kind, payload⟩ else none := by
  have len : (byteOf payload.length).toNat = payload.length := by
    rw [byteOf, BitVec.toNat_ofNat, Nat.mod_eq_of_lt (by omega)]
  have start : ¬ (decide ((byteOf payload.length).toNat > 128) = true) := by simp [len, h]
  rw [rxFilter, received_stopLow, received_byte]
  simp only [frameBody, headerBytes, List.cons_append, List.nil_append, Bool.false_eq_true, if_false,
    len, List.take_left', List.drop_left', header_low, headerSrc_of_header, headerDst_of_header src dst (code_lt kind),
    headerKind_of_header dst (code_lt kind), ofCode_code]
  simp
  split_ifs <;> simp_all

/-- A CRC and its two bytes, the high one first. -/
theorem bytes_eq_iff_append_eq {hi lo : Byte} {crc : Half} :
    [hi, lo] = [(crc >>> 8).setWidth 8, crc.setWidth 8] ↔ hi ++ lo = crc := by
  constructor
  · intro h
    obtain ⟨rfl, rfl⟩ : hi = (crc >>> 8).setWidth 8 ∧ lo = crc.setWidth 8 := by simpa using h
    apply BitVec.eq_of_getLsbD_eq
    intro i hi
    simp only [BitVec.getLsbD_append, BitVec.getLsbD_setWidth, BitVec.getLsbD_ushiftRight]
    split
    · next low => simp [low]
    · next high => simp [show 8 + (i - 8) = i by omega, show i - 8 < 8 by omega]
  · rintro rfl
    have high : ((hi ++ lo) >>> 8).setWidth 8 = hi := by
      apply BitVec.eq_of_getLsbD_eq
      intro i h
      rw [BitVec.getLsbD_setWidth, BitVec.getLsbD_ushiftRight, BitVec.getLsbD_append]
      simp [h]
    have low : (hi ++ lo).setWidth 8 = lo := by
      apply BitVec.eq_of_getLsbD_eq
      intro i h
      rw [BitVec.getLsbD_setWidth, BitVec.getLsbD_append]
      simp [h]
    rw [high, low]

/-! ## The announcement payload (section 11.4, R46) -/

theorem parseClaim_of_claim {c : AnnClaim} (small : c.amount < 256)
    (inrush : c.resource = .inrush → 1 ≤ c.amount ∧ c.amount ≤ 100) :
    parseClaim (byteOf c.resource.code) c.ticket (if c.granted then 1 else 0) (byteOf c.amount) = some (some c) := by
  have amount : (byteOf c.amount).toNat = c.amount := by
    rw [byteOf, BitVec.toNat_ofNat, Nat.mod_eq_of_lt small]
  obtain ⟨resource, ticket, granted, n⟩ := c
  dsimp only at amount inrush ⊢
  simp only [parseClaim, amount]
  cases resource with
  | inrush =>
    obtain ⟨low, high⟩ := inrush rfl
    have some_amount : (n == 0 || decide (n > 100)) = false := by simp; omega
    cases granted <;> simp [Resource.code, byteOf, Resource.ofCode, some_amount]
  | quiet => cases granted <;> simp [Resource.code, byteOf, Resource.ofCode]
  | operator => cases granted <;> simp [Resource.code, byteOf, Resource.ofCode]

/-- The claim bytes of an announcement. -/
def claimBytes : Option AnnClaim → List Byte
  | some c => [byteOf c.resource.code, c.ticket, if c.granted then 1 else 0, byteOf c.amount]
  | none => [0, 0, 0, 0]

theorem parseClaim_claimBytes {x : Option AnnClaim} (h : ∀ c, x = some c → c.amount < 256 ∧
    (c.resource = .inrush → 1 ≤ c.amount ∧ c.amount ≤ 100)) :
    ∃ r t s a, claimBytes x = [r, t, s, a] ∧ parseClaim r t s a = some x := by
  cases x with
  | none => exact ⟨_, _, _, _, rfl, rfl⟩
  | some c =>
    obtain ⟨small, inrush⟩ := h c rfl
    exact ⟨_, _, _, _, rfl, parseClaim_of_claim small inrush⟩

theorem group_of_first (slot : BitVec 4) (group : BitVec 2) :
    (((slot.setWidth 8) ||| ((group.setWidth 8) <<< 4)) >>> 4 : Byte).setWidth 2 = group := by
  apply BitVec.eq_of_getLsbD_eq
  intro i hi
  interval_cases i <;> simp

theorem noisy_of_bits (limit safe noisy lost : Bool) :
    flag (presence limit 0 ||| presence safe 1 ||| presence noisy 2 ||| presence lost 3) 2 = noisy := by
  cases limit <;> cases safe <;> cases noisy <;> cases lost <;> rfl

theorem parseAnnounce_payload {a : Announcement} (h : ∀ c, a.claim = some c → c.amount < 256 ∧
    (c.resource = .inrush → 1 ≤ c.amount ∧ c.amount ≤ 100)) :
    parseAnnounce a.payload = some ⟨a.group, a.noisy, a.claim⟩ := by
  have station : ¬ ((byteOf a.station.code).toNat > 3 || (byteOf a.rail.code).toNat > 8) = true := by
    cases a.station <;> cases a.rail <;> decide
  have payload : ∃ b4 b5 b6 b7 b8 b9, a.payload = [(a.slot.setWidth 8) ||| ((a.group.setWidth 8) <<< 4),
      byteOf a.station.code,
      presence a.limitHold 0 ||| presence a.safeHold 1 ||| presence a.noisy 2 ||| presence a.lineLost 3,
      byteOf a.rail.code, b4, b5, b6, b7, b8, b9] ++ claimBytes a.claim := by
    unfold Announcement.payload claimBytes
    cases a.claim <;> exact ⟨_, _, _, _, _, _, rfl⟩
  obtain ⟨b4, b5, b6, b7, b8, b9, bytes⟩ := payload
  obtain ⟨r, ti, st, am, claim, reads⟩ := parseClaim_claimBytes h
  rw [bytes, claim]
  simp only [List.cons_append, List.nil_append, parseAnnounce, if_neg station, reads, group_of_first, noisy_of_bits,
    Option.map_some]

theorem payload_length (a : Announcement) : a.payload.length = 14 := by
  unfold Announcement.payload
  cases a.claim <;> rfl

end Sys2Proof.Machine

namespace Sys2Proof.Certificates

open Machine

/-- Settles O60: the filter over the characters sent, then the announcement payload field by field. -/
theorem framesReadBack : Obligations.FramesReadBack := by
  refine ⟨fun slot src dst kind payload short pass => ⟨?_, fun hi lo wrong => ?_⟩,
    fun a h => ⟨payload_length a, parseAnnounce_payload h⟩⟩
  · exact (rxFilter_received slot src dst kind short _ _).trans (if_pos ⟨rfl, pass⟩)
  · rw [rxFilter_received slot src dst kind short, if_neg]
    exact fun ⟨same, _⟩ => wrong (bytes_eq_iff_append_eq.mp same)

end Sys2Proof.Certificates
end
section
/-! What is taken of an order and of a configuration section: the copy of an order (R27), the adjusted sections (R38,
R39, R111, R115, R128, R140, R192), and the hold cleared (R35). -/

namespace Sys2Proof.Machine

/-! ## A message slot's definition (R115) -/

theorem getLsbD_keepBytes (p : Payload) (len i : Nat) :
    (keepBytes p len).getLsbD i = (p.getLsbD i && decide (i < 8 * len)) := by
  rw [keepBytes, BitVec.getLsbD_and, getLsbD_lowBits]
  by_cases h : i < 64
  · simp [h]
  · simp [BitVec.getLsbD_of_ge p i (by omega)]

theorem adjustMessage_checksum (m : MessageSection) :
    (adjustMessage m).checksum = m.checksum.bind fun k => if k < min m.len 8 then some k else none := rfl

theorem lt_of_adjusted_checksum {m : MessageSection} {k : Nat} (h : (adjustMessage m).checksum = some k) :
    k < (adjustMessage m).len := by
  rw [adjustMessage_checksum, Option.bind_eq_some_iff] at h
  obtain ⟨k', -, hk⟩ := h
  split at hk
  · next lt => exact Option.some.inj hk ▸ lt
  · cases hk

theorem overlaps_eq_false_iff {a l b n : Nat} : overlaps a l b n = false ↔ a + l ≤ b ∨ b + n ≤ a := by
  simp [overlaps]
  omega

/-- A counter is kept exactly when it lies within the payload and apart from the checksum kept. -/
theorem adjustMessage_counter {m : MessageSection} {a l : Nat} (h : m.counter = some (a, l)) :
    (adjustMessage m).counter = if a + clampTo 1 8 l ≤ 8 * min m.len 8 ∧
        ∀ k, (adjustMessage m).checksum = some k → a + clampTo 1 8 l ≤ 8 * k ∨ 8 * k + 8 ≤ a then
      some (a, clampTo 1 8 l) else none := by
  have counter : (adjustMessage m).counter =
      if a + clampTo 1 8 l > 8 * min m.len 8 then none
      else
        match (adjustMessage m).checksum with
        | some k => if overlaps a (clampTo 1 8 l) (8 * k) 8 then none else some (a, clampTo 1 8 l)
        | none => some (a, clampTo 1 8 l) := by
    simp only [adjustMessage, h]
    rfl
  rw [counter]
  by_cases within : a + clampTo 1 8 l ≤ 8 * min m.len 8
  · rw [if_neg (Nat.not_lt.mpr within)]
    cases hk : (adjustMessage m).checksum with
    | none => simp [within]
    | some k =>
      by_cases apart : overlaps a (clampTo 1 8 l) (8 * k) 8 = true
      · have := mt overlaps_eq_false_iff.mpr (ne_false_of_eq_true apart)
        simp [apart, this]
      · have := overlaps_eq_false_iff.mp (Bool.eq_false_of_not_eq_true apart)
        simp [apart, within, this]
  · rw [if_pos (Nat.lt_of_not_le within), if_neg fun h => within h.1]

/-! ## A light channel by its number -/

theorem updateChannel_fin (n : Fin 8) (f : LightChannel → LightChannel) (s : State) :
    updateChannel n f s = s.setLtu (s.ltu.setIfInBounds n (f s.ltu[n])) := by
  rw [updateChannel, entryAt_fin]
  rfl

/-! ## The copy of an order (R27) -/

/-- The copy but for its mark. -/
def clampedBody (s : State) (o : OrderRec) : OrderRec :=
  { o with
    actions := o.actions.map Action.clamp
    settle := min o.settle 60000
    meas := o.meas.map (clampMeasurement s)
    prompt := o.prompt.map fun p => { p with timeout := clampTo 1 120 p.timeout } }

theorem clampOrder_eq (s : State) (o : OrderRec) :
    clampOrder s o = { clampedBody s o with clamped := decide (clampedBody s o ≠ o) } := rfl

/-- The copy is CLAMPED exactly when it differs from the order. -/
theorem clampOrder_clamped_iff {s : State} {o : OrderRec} (h : o.clamped = false) :
    (clampOrder s o).clamped = false ↔ clampOrder s o = o := by
  rw [clampOrder_eq]
  constructor
  · intro same
    have body : clampedBody s o = o := by simpa using same
    rw [body]
    cases o
    simp_all
  · intro same
    rw [same]
    exact h

/-- A window count brought to a multiple of 16 between 16 and 4096. -/
theorem sixteen_dvd_clampedWindow (n : Nat) : 16 ∣ max 16 (min 4096 ((n + 15) / 16 * 16)) := by
  rcases le_total ((n + 15) / 16 * 16) 4096 with h | h
  · rw [min_eq_right h]
    rcases le_total 16 ((n + 15) / 16 * 16) with h' | h'
    · rw [max_eq_right h']
      exact Dvd.intro_left _ rfl
    · rw [max_eq_left h']
  · rw [min_eq_left h]
    decide

/-! ## The hold cleared (R35) -/

theorem exec_controlClearHold_of_ends {s : State} {f : RxFrame} {b : Bool} {p : List Byte}
    (h : Ends s f (.control b p)) (hp : parseControl p = some .clearHold) (key : Bool) :
    exec (.controlClearHold f key) s = .next (controlClearHold b (leadingHalf p) key (heardFrame s)) := by
  change execControlClearHold f key s = _
  unfold execControlClearHold
  exact act_frameEvent_of_ends _ h nofun (pickControl_of_parse b hp (by rfl))

theorem controlClearHold_of_inactive (reference : Half) (s : State) : controlClearHold false reference false s =
    handInReply (.receipt ⟨.control, reference, .held, freePlaces s⟩) s := rfl

theorem controlClearHold_of_active (reference : Half) (s : State) : controlClearHold false reference true s =
    settle (clearHold (handInReply (.receipt ⟨.control, reference, .accepted, freePlaces s⟩) s)) := rfl

/-- Of the OI, being still asks for the queue and the station state alone. -/
theorem Still.of_parts {s t : State} (h : Still s) (queue : t.oi.queue = s.oi.queue)
    (station : t.oi.station = s.oi.station) (ckr : t.ckr = s.ckr) : Still t := by
  rcases h with ⟨idle, empty, resting⟩ | ⟨k, hk, waits⟩
  · exact .inl ⟨ckr.trans idle, queue.trans empty, station ▸ resting⟩
  · exact .inr ⟨k, ckr.trans hk, waits⟩

/-- HOLD left for READY starts nothing. -/
theorem still_clearHold {s : State} (h : Still s) : Still (clearHold s) := by
  have ckr : (clearHold s).ckr = s.ckr := by simp [clearHold]
  have oi : (clearHold s).oi = { s.oi with
      limitHold := false, safeHold := false, station := if s.oi.station = .hold then .ready else s.oi.station } := by
    simp [clearHold]
  rcases h with ⟨idle, queue, station⟩ | ⟨k, hk, waits⟩
  · refine .inl ⟨ckr.trans idle, oi ▸ queue, ?_⟩
    rw [oi]
    dsimp only
    split
    · exact nofun
    · exact station
  · exact .inr ⟨k, ckr.trans hk, waits⟩

theorem leaveSafe_of_not_safe {s : State} (h : s.spu.rail ≠ .safe) : leaveSafe s = s := if_neg h

theorem leaveSafe_of_safe {s : State} (h : s.spu.rail = .safe) :
    leaveSafe s = s.setSpu { s.spu.sourceOff .off with retryCount := 0 } := by
  have held : s.spu.rail.transmits = false := by rw [h]; rfl
  rw [leaveSafe, if_pos h, railTo_of_not_transmits held, moved_of_off rfl]
  rfl

end Sys2Proof.Machine

namespace Sys2Proof.Certificates

open Machine

/-- Settles O35: field by field. -/
theorem messageSectionAdjusted : Obligations.MessageSectionAdjusted := by
  intro m d
  refine ⟨rfl, rfl, rfl, rfl, rfl, fun h => if_pos h, fun h => if_neg h, fun h => ?_, fun h => ?_, fun i hi => ?_,
    fun i hi => ?_, fun h => ?_, fun h => ?_, fun k h => ?_, fun a l h => ?_, fun k h => lt_of_adjusted_checksum h,
    fun a l h => ?_⟩
  · have phase : d.phase = if m.phase ≥ d.period then d.period - 1 else m.phase := rfl
    rw [phase, h]
    exact if_pos (Nat.zero_le _)
  · have phase : d.phase = if m.phase ≥ d.period then d.period - 1 else m.phase := rfl
    rw [phase]
    split <;> omega
  · rw [show d.payload = keepBytes m.payload d.len from rfl, getLsbD_keepBytes]
    simp [Nat.not_lt.mpr hi]
  · rw [show d.payload = keepBytes m.payload d.len from rfl, getLsbD_keepBytes]
    simp [hi]
  · simp [d, adjustMessage_checksum, h]
  · simp [d, adjustMessage, h]
  · simp only [d, adjustMessage_checksum, h, Option.bind_some]
    rfl
  · have kept := adjustMessage_counter h
    exact ⟨fun within apart => kept.trans (if_pos ⟨within, apart⟩),
      fun out => kept.trans (if_neg fun ⟨within, apart⟩ => out.elim (· within) (· apart))⟩
  · cases hc : m.counter with
    | none => simp [d, adjustMessage, hc] at h
    | some c =>
      have kept := adjustMessage_counter (m := m) (a := c.1) (l := c.2) hc
      rw [h] at kept
      split at kept
      · next inside => 
        obtain ⟨rfl, rfl⟩ : a = c.1 ∧ l = clampTo 1 8 c.2 := by simpa using kept
        obtain ⟨within, apart⟩ := inside
        exact ⟨Nat.le_max_left _ _, max_le (by decide) (Nat.min_le_left _ _), within, apart⟩
      · cases kept

/-- Settles O25: the clamps are maps over the parts of the order. -/
theorem orderCopyIsClamped : Obligations.OrderCopyIsClamped := by
  intro s o fresh c
  have actions : ∀ (i : Nat) (a : Action), o.actions[i]? = some a → c.actions[i]? = some a.clamp := by
    intro i a ha
    simp [c, clampOrder_eq, clampedBody, ha]
  have light : ∀ m, o.meas = some (.light m) → c.meas = some (clampMeasurement s (.light m)) := by
    intro m hm
    simp [c, clampOrder_eq, clampedBody, hm]
  refine ⟨rfl, rfl, rfl, rfl, rfl, fun i t r h => actions i _ h, fun i d t r h => actions i _ h, List.length_map _,
    fun i a h notSet notCrank => ?_, fun h => ?_, fun h => ?_, fun m n hm hn => ?_, fun p hp => ?_, fun m hm => ?_,
    clampOrder_clamped_iff fresh⟩
  · rw [actions i a h]
    cases a with
    | supplySet t r => exact absurd rfl (notSet t r)
    | crank d t r => exact absurd rfl (notCrank d t r)
    | _ => rfl
  · simp [c, clampOrder_eq, clampedBody, h]
  · cases hm : o.meas with
    | none => simp [c, clampOrder_eq, clampedBody, hm]
    | some m =>
      cases m with
      | light m => exact absurd hm (h m)
      | _ => simp [c, clampOrder_eq, clampedBody, hm, clampMeasurement]
  · have cal : entryAt s.ltu m.channel LightChannel.reset = s.ltu[n] := by rw [hn, entryAt_fin]
    exact ⟨_, light m hm, by rw [cal]; rfl⟩
  · simp [c, clampOrder_eq, clampedBody, hp, clampTo]
  · exact ⟨_, light m hm, rfl, rfl, rfl, sixteen_dvd_clampedWindow _⟩

/-- Settles O29: by the level of the key-switch and the rail. -/
theorem controlClearHold : Obligations.ControlClearHold := by
  intro s f p h hp answered cleared
  have taken := exec_controlClearHold_of_ends h hp
  have kept : Still s → exec (.controlClearHold f true) s = .next (clearHold (answered .accepted)) := fun still =>
    (taken true).trans (congrArg _ (settle_of_still (still_clearHold (still.of_parts rfl rfl rfl))))
  refine ⟨taken false, fun still notSafe => ?_, fun rest safe => ⟨_, kept (.inl rest), ?_⟩⟩
  · exact (kept still).trans (congrArg _ (leaveSafe_of_not_safe notSafe))
  · have left : clearHold (answered .accepted) = cleared.setSpu { s.spu.sourceOff .off with retryCount := 0 } :=
      leaveSafe_of_safe safe
    rw [left]
    exact ⟨rfl, rfl, rfl, rfl, rfl, rfl, rfl⟩

/-- Settles O34: each section at the heard state of an idle station. -/
theorem configureAccepted : Obligations.ConfigureAccepted := by
  intro s f p h station idle empty off answered within
  have can : canConfigure (heardFrame s) = true := canConfigure_iff.mpr ⟨station, idle, empty, off⟩
  have accepted : ∀ g : State → State, configure (leadingHalf p) g (heardFrame s) = g answered := by
    intro g
    rw [configure_of_idle can]
    refine congrArg g ?_
    have free : freePlaces (heardFrame s) = 8 := by simp [empty]
    rw [free]
    rfl
  refine ⟨fun b e w l i hp => ?_, fun c r o hp => ?_, fun n kc d g1 g2 sg bd sh ix hp => ?_,
    fun e l g n b hp few => ?_, fun n m hm hp => ?_, fun n i d hp => ?_⟩
  · exact (act_frameEvent_of_ends _ h nofun (pickConfigure_of_parse hp (by rfl))).trans (congrArg _ (accepted _))
  · exact (act_frameEvent_of_ends _ h nofun (pickConfigure_of_parse hp (by rfl))).trans (congrArg _ (accepted _))
  · refine (act_frameEvent_of_ends _ h nofun (pickConfigure_of_parse hp (by rfl))).trans
      (congrArg _ ((accepted _).trans ?_))
    exact updateChannel_fin n _ _
  · refine (act_frameEvent_of_ends _ h nofun (pickConfigure_of_parse hp (by rfl))).trans
      (congrArg _ ((accepted _).trans ?_))
    exact if_neg (fun above => Nat.not_lt.mpr few (of_decide_eq_true above))
  · refine (act_frameEvent_of_ends _ h nofun (pickConfigure_of_parse hp (by rfl))).trans
      (congrArg _ ((accepted _).trans ?_))
    rw [configureMessage, hm]
    rfl
  · refine (act_frameEvent_of_ends _ h nofun (pickConfigure_of_parse hp (by rfl))).trans
      (congrArg _ ((accepted _).trans ?_))
    rfl

end Sys2Proof.Certificates
end
section
/-! Writes into message slots (R118, R119, R122 to R125): what a write does to the bus and to the record of the check,
and the FIELD_WRITE with which a check's last action lands (R71, R75, R84). -/

namespace Sys2Proof.Machine

/-! ## Rounding half away from zero (section 5.3) -/

/-- Rounding half up is the one number within half a divisor. -/
theorem roundHalfUp_iff {n d q : Nat} (hd : 0 < d) :
    q = roundHalfUp n d ↔ 2 * n < (2 * q + 1) * d ∧ 2 * q * d ≤ 2 * n + d := by
  have split : d * (n / d) + n % d = n := Nat.div_add_mod n d
  have rest : n % d < d := Nat.mod_lt n hd
  have bounds : 2 * n < (2 * roundHalfUp n d + 1) * d ∧ 2 * roundHalfUp n d * d ≤ 2 * n + d := by
    unfold roundHalfUp
    generalize n / d = a at split
    generalize n % d = r at split rest
    subst split
    split_ifs with half
    · constructor <;> nlinarith
    · constructor <;> nlinarith
  refine ⟨fun h => h ▸ bounds, fun ⟨above, below⟩ => ?_⟩
  obtain ⟨above', below'⟩ := bounds
  have le : q ≤ roundHalfUp n d := by
    by_contra h
    nlinarith
  have ge : roundHalfUp n d ≤ q := by
    by_contra h
    nlinarith
  exact le_antisymm le ge

theorem roundsAway_iff {n d x : Int} (hd : d ≠ 0) : RoundsAway n d x ↔ x = roundHalfAway n d := by
  have pos : 0 < d.natAbs := Int.natAbs_pos.mpr hd
  have size : RoundsAway n d x ↔ x.natAbs = roundHalfUp n.natAbs d.natAbs ∧ 0 ≤ n * d * x := by
    rw [roundHalfUp_iff pos, RoundsAway, and_assoc]
  have zero : n = 0 → roundHalfUp n.natAbs d.natAbs = 0 := by
    rintro rfl
    exact ((roundHalfUp_iff pos).mpr ⟨by simpa using pos, by simp⟩).symm
  rw [size, roundHalfAway]
  generalize roundHalfUp n.natAbs d.natAbs = r at zero
  rcases lt_trichotomy (n * d) 0 with neg | none | pos
  · have signs : (decide (n < 0) == decide (d < 0)) = false := by
      rcases mul_neg_iff.mp neg with ⟨hn, hd⟩ | ⟨hn, hd⟩ <;> simp [hn, hd, hn.le, hd.le]
    have sign : 0 ≤ n * d * x ↔ x ≤ 0 := ⟨fun h => by nlinarith, fun h => by nlinarith⟩
    simp only [signs, sign, Bool.false_eq_true, if_false]
    omega
  · obtain rfl : n = 0 := (mul_eq_zero.mp none).resolve_right hd
    obtain rfl := zero rfl
    simp
  · have signs : (decide (n < 0) == decide (d < 0)) = true := by
      rcases mul_pos_iff.mp pos with ⟨hn, hd⟩ | ⟨hn, hd⟩
      · simp [hn.not_gt, hd.not_gt]
      · simp [hn, hd]
    have sign : 0 ≤ n * d * x ↔ 0 ≤ x := ⟨fun h => by nlinarith, fun h => by nlinarith⟩
    simp only [signs, sign, if_true]
    omega

/-! ## BUS_LATE on the record -/

theorem CheckRecord.noted_false (k : CheckRecord) : k.noted false = k := by simp [CheckRecord.noted]

theorem CheckRecord.noted_noted (k : CheckRecord) (a b : Bool) : (k.noted a).noted b = k.noted (a || b) := by
  simp [CheckRecord.noted, Bool.or_assoc]

/-- Of the record, a BUS_LATE report may have come. -/
def BusNoted (s t : State) : Prop := ∃ late : Bool, t.ckr = s.ckr.map (CheckRecord.noted late)

theorem BusNoted.of_eq {s t : State} (h : t.ckr = s.ckr) : BusNoted s t := by
  refine ⟨false, h.trans ?_⟩
  cases s.ckr <;> simp [CheckRecord.noted_false]

theorem BusNoted.trans {s t u : State} (h : BusNoted s t) (h' : BusNoted t u) : BusNoted s u := by
  obtain ⟨a, ha⟩ := h
  obtain ⟨b, hb⟩ := h'
  refine ⟨a || b, hb.trans ?_⟩
  rw [ha, Option.map_map]
  exact congrArg (Option.map · s.ckr) (funext fun k => k.noted_noted a b)

theorem enqueue_busNoted (x : TxInstance) (s : State) : BusNoted s (enqueue x s) := by
  by_cases h : waitsInQueue s x.slot = true
  · have set : CheckRecord.noted true = fun k => { k with flags := { k.flags with busLate := true } } := by
      funext k
      simp [CheckRecord.noted]
    rw [enqueue_of_waits h]
    exact ⟨true, set ▸ rfl⟩
  · rw [enqueue_of_not_waits h]
    exact .of_eq rfl

theorem fallDue_busNoted (n : Nat) (s : State) : BusNoted s (fallDue n s) := by
  unfold fallDue
  split
  · exact (BusNoted.of_eq (t := setSlot n _ s) rfl).trans (enqueue_busNoted _ _)
  · exact .of_eq rfl

theorem eventDue_busNoted (n : Nat) (s : State) : BusNoted s (eventDue n s) := by
  unfold eventDue
  split
  · exact fallDue_busNoted n s
  · exact .of_eq rfl

theorem writeSlot_busNoted (n start len : Nat) (p : Payload) (s : State) : BusNoted s (writeSlot n start len p s) := by
  unfold writeSlot
  dsimp only
  split
  · exact (BusNoted.of_eq (t := setSlot n _ s) rfl).trans (eventDue_busNoted _ _)
  · exact .of_eq rfl

/-! ## A write into a slot (R118, R123) -/

/-- Slot n is event-only and may transmit (R117, R118). -/
def MayTransmit (s : State) (n : Fin 24) : Prop := s.bem.slots[n].period = 0 ∧ canSnapshot s s.bem.slots[n] = true

theorem eventDue_of_may {s : State} {n : Fin 24} (h : MayTransmit s n) : eventDue n s = snapshot n s := by
  rw [eventDue, slotAt_fin, if_pos h.1, fallDue, slotAt_fin, if_pos h.2]

theorem eventDue_of_not_may {s : State} {n : Fin 24} (h : ¬ MayTransmit s n) : eventDue n s = s := by
  rw [eventDue, slotAt_fin]
  split
  · next eventOnly => rw [fallDue, slotAt_fin, if_neg fun can => h ⟨eventOnly, can⟩]
  · rfl

theorem writeSlot_of_defined {s : State} {n : Fin 24} (h : s.bem.slots[n].defined = true) (start len : Nat)
    (q : Payload) : writeSlot n start len q s = eventDue n (setSlot n { s.bem.slots[n] with
      payload := writeField s.bem.slots[n].payload start len q } s) := by
  rw [writeSlot, slotAt_fin, if_pos h]

theorem writeSlot_of_undefined {s : State} {n : Fin 24} (h : s.bem.slots[n].defined = false) (start len : Nat)
    (q : Payload) : writeSlot n start len q s = s := by
  rw [writeSlot, slotAt_fin, if_neg (ne_true_of_eq_false h)]

/-- A slot that is switched off, or not event-only, gives no snapshot. -/
theorem writeSlot_of_quiet {s : State} {n : Fin 24} (h : s.bem.slots[n].defined = true)
    (quiet : s.bem.slots[n].period ≠ 0 ∨ s.bem.slots[n].enabled = false) (start len : Nat) (q : Payload) :
    writeSlot n start len q s = setSlot n { s.bem.slots[n] with
      payload := writeField s.bem.slots[n].payload start len q } s := by
  rw [writeSlot_of_defined h, eventDue_of_not_may]
  rw [MayTransmit, setSlot_bem_slots, if_pos rfl, canSnapshot_iff]
  rintro ⟨eventOnly, -, enabled, -⟩
  exact quiet.elim (fun h => h eventOnly) fun h => nomatch h.symm.trans enabled

/-- A write into a defined slot, in the words of the claims. -/
theorem fieldWritten_writeSlot {s : State} {n : Fin 24} {start len : Nat} (q : Payload) {bit : Nat → Bool}
    (defined : s.bem.slots[n].defined = true) (fits : start + len ≤ 64) (bits : ∀ i, i < len → q.getLsbD i = bit i) :
    FieldWritten s (writeSlot n start len q s) n start len bit := by
  let p := writeField s.bem.slots[n].payload start len q
  let u := setSlot n { s.bem.slots[n] with payload := p } s
  have set (i : Fin 24) := setSlot_bem_slots n { s.bem.slots[n] with payload := p } s i
  have own : u.bem.slots[n] = { s.bem.slots[n] with payload := p } := (set n).trans (if_pos rfl)
  have other : ∀ i : Fin 24, i ≠ n → u.bem.slots[i] = s.bem.slots[i] := fun i hi =>
    (set i).trans (if_neg fun same => hi (Fin.ext same.symm))
  have may : MayTransmit u n ↔ s.bem.slots[n].period = 0 ∧ s.bem.slots[n].enabled = true ∧
      s.spu.rail.transmits = true ∧ s.bem.silent = false := by
    rw [MayTransmit, own, canSnapshot]
    have rail : u.spu = s.spu := rfl
    have silent : u.bem.silent = s.bem.silent := rfl
    simp only [defined, rail, silent, Bool.true_and, Bool.and_eq_true, Bool.not_eq_true', and_assoc]
  have written : ∀ i, i < 64 → p.getLsbD i =
      if start ≤ i ∧ i < start + len then bit (i - start) else s.bem.slots[n].payload.getLsbD i := by
    intro i _
    rw [getLsbD_writeField _ _ fits]
    split
    · next inField => exact bits _ (by omega)
    · rfl
  rw [writeSlot_of_defined defined]
  by_cases h : MayTransmit u n
  · rw [eventDue_of_may h]
    have slots := snapshot_bem_slots n u
    refine ⟨fun i hi => ?_, p, written, fun no => absurd (may.mp h) no, fun _ proper => ?_⟩
    · exact (slots i).trans ((if_neg hi.symm).trans (other i hi))
    · refine ⟨_, snapshotOf_snapshotPayload (m := { s.bem.slots[n] with payload := p }) proper, ?_, ?_⟩
      · rw [slots n, if_pos rfl, own]
      · exact mem_snapshot.mpr (.inl (by rw [snapshotInstance, own]))
  · rw [eventDue_of_not_may h]
    exact ⟨other, p, written, fun _ => ⟨rfl, own⟩, fun yes => absurd (may.mpr yes) h⟩

/-! ## A FIELD_WRITE of the check in flight (R75, R84, R122) -/

theorem rawExact_raw {w : FieldWrite} (h : w.den ≠ 0) : w.Raw (rawExact w) (rawClamped w) := by
  refine ⟨(roundsAway_iff (Int.ofNat_ne_zero.mpr h)).mpr rfl, ?_⟩
  unfold rawClamped fieldRange clampInt
  cases w.signed <;> rfl

theorem getLsbD_patternOf (raw : Int) {len i : Nat} (h : i < len) (hl : len ≤ 64) :
    (patternOf raw len).getLsbD i = (BitVec.ofInt 64 raw).getLsbD i := by
  rw [patternOf, BitVec.getLsbD_and, getLsbD_lowBits]
  simp [h, h.trans_le hl]

theorem hasEntry_iff {k : CheckRecord} {w : FieldWrite} : (w.restore && !k.hasEntry w) = true ↔
    w.restore = true ∧ ∀ e ∈ k.restore, ¬ (e.slot = w.slot ∧ e.start = w.start ∧ e.len = w.len) := by
  simp [CheckRecord.hasEntry, and_assoc]

/-- What the write leaves on the record, whatever the record waited for. -/
theorem afterWrite_eq (k : CheckRecord) (x : OpenRequest) (w : FieldWrite) (old : Payload) :
    CheckRecord.afterWrite { k with waitsOn := x } w old =
      k.finishAction.wrote w (decide (rawClamped w ≠ rawExact w)) old := by
  have clamped : decide (rawExact w ≠ rawClamped w) = decide (rawClamped w ≠ rawExact w) :=
    decide_eq_decide.mpr ne_comm
  have restore : k.hasEntry w = CheckRecord.hasEntry { k with waitsOn := x } w := rfl
  unfold CheckRecord.afterWrite CheckRecord.wrote
  rw [← restore]
  simp only [clamped, hasEntry_iff]
  rfl

/-- After its last action a check settles, where no claim is to be taken and no message is to be cleared at the entry
(R70, R71, R78, R79). -/
theorem settle_of_lastAction {s : State} {k : CheckRecord} (hk : s.ckr = some k) (stage : k.stage = .stimulating)
    (free : k.waitsOn = .none) (done : k.action = none) (time : k.order.settle ≠ 0)
    (bus : ∀ b, k.order.meas ≠ some (.busfield b)) (quiet : (k.order.isSound && !k.order.hasAudible) = false) :
    settle s = s.setCkr (some { k with stage := .settling, stageTimer := some k.order.settle }) := by
  have enters : micro s = some (s.setCkr (some { k with stage := .settling, stageTimer := some k.order.settle })) := by
    have enters : enterSettling k s =
        s.setCkr (some { k with stage := .settling, stageTimer := some k.order.settle, waitsOn := .none }) := by
      unfold enterSettling
      rw [if_neg (ne_true_of_eq_false quiet), if_neg time]
      split
      · next b hb => exact absurd hb (bus b)
      · rfl
    simp only [micro, hk, stage, free, done, if_true, enters]
  exact settle_of_one enters (micro_none_of_waits (by rfl) (.inr (.inr (.inr ⟨rfl, rfl⟩))))

/-- A FIELD_WRITE as a check's last action: the write lands and the check settles. -/
theorem settle_applyWrite {s u : State} {k : CheckRecord} {x : OpenRequest} {w : FieldWrite} {n : Fin 24}
    (fits : w.Fits s n) (bem : u.bem = s.bem) (spu : u.spu = s.spu) (hk : u.ckr = some { k with waitsOn := x })
    (stage : k.stage = .stimulating) (last : k.index + 1 = k.order.actions.length) (time : k.order.settle ≠ 0)
    (bus : ∀ b, k.order.meas ≠ some (.busfield b)) (quiet : (k.order.isSound && !k.order.hasAudible) = false) :
    ∃ c, settle (applyWrite w u) = (applyWrite w u).setCkr c ∧ Landed s ((applyWrite w u).setCkr c) k w n := by
  obtain ⟨slot, defined, positive, within, den⟩ := fits
  let old := readField s.bem.slots[n].payload w.start w.len
  let k1 := k.finishAction.wrote w (decide (rawClamped w ≠ rawExact w)) old
  let u1 := u.setCkr (some k1)
  have read : readSlot u w.slot w.start w.len = old := by rw [readSlot, slot, slotAt_fin, bem]
  have applied : applyWrite w u = writeSlot n w.start w.len (patternOf (rawClamped w) w.len) u1 := by
    rw [applyWrite, updateCheck, read, hk, Option.map_some, afterWrite_eq, slot]
  have written : FieldWritten s (applyWrite w u) n w.start w.len (BitVec.ofInt 64 (rawClamped w)).getLsbD := by
    have raw := fieldWritten_writeSlot (s := u1) (n := n) (start := w.start) (len := w.len)
      (patternOf (rawClamped w) w.len) (bit := (BitVec.ofInt 64 (rawClamped w)).getLsbD)
      (by simpa [u1, bem] using defined) within fun i hi => getLsbD_patternOf _ hi (by omega)
    unfold FieldWritten at raw ⊢
    rw [applied]
    simpa [u1, bem, spu] using raw
  obtain ⟨late, noted⟩ := writeSlot_busNoted n w.start w.len (patternOf (rawClamped w) w.len) u1
  have record : (applyWrite w u).ckr = some (k1.noted late) := applied ▸ noted
  have ends : (k1.noted late).action = none := by
    have : k.order.actions[k.index + 1]? = none := List.getElem?_eq_none (by omega)
    exact this
  have settles := settle_of_lastAction record stage rfl ends time bus quiet
  exact ⟨_, settles, _, _, rawExact_raw den, written, late, rfl⟩

end Sys2Proof.Machine
end
section
/-! The hold (R22, R89) and the operator's answers (R82, R185 to R190): what a raised hold leaves, what the report of a
prompt leaves of its check, and the keys of a prompt in hand. -/

namespace Sys2Proof.Machine

/-! ## NOISY under releases (R65) -/

@[simp] theorem setLastTicket_noisy (c : Clu) (r : Resource) (t : Byte) : (c.setLastTicket r t).noisy = c.noisy := by
  cases r <;> rfl

@[simp] theorem takeClaim_noisy (q : ClaimRequest) (s : State) : (takeClaim q s).clu.noisy = s.clu.noisy := by
  simp [takeClaim]

@[simp] theorem takeDeferred_noisy (s : State) : (takeDeferred s).clu.noisy = s.clu.noisy := by
  unfold takeDeferred
  split <;> simp

@[simp] theorem removeClaim_noisy (s : State) : (removeClaim s).clu.noisy = s.clu.noisy := by simp [removeClaim]

@[simp] theorem dropDeferred_noisy (w : Requester) (r : Resource) (s : State) :
    (dropDeferred w r s).clu.noisy = s.clu.noisy := by
  unfold dropDeferred
  split
  · split <;> rfl
  · rfl

@[simp] theorem releaseClaim_noisy (w : Requester) (r : Resource) (s : State) :
    (releaseClaim w r s).clu.noisy = s.clu.noisy := by
  unfold releaseClaim
  dsimp only
  split <;> simp

@[simp] theorem cancelRetry_noisy (s : State) : (cancelRetry s).clu.noisy = s.clu.noisy := by
  unfold cancelRetry
  split <;> simp

@[simp] theorem offRequest_noisy (s : State) : (offRequest s).clu.noisy = s.clu.noisy := by
  unfold offRequest
  split
  case h_2 => split <;> simp
  all_goals simp

/-! ## Nothing deferred (R51) -/

theorem releaseAllOf_deferred_of_none {s : State} (h : s.clu.deferred = none) (w : Requester) :
    (releaseAllOf w s).clu.deferred = none := by
  simp only [releaseAllOf, dropDeferred_of_none h]
  exact (releaseClaim_of_none (releaseClaim_of_none (releaseClaim_of_none h w .inrush).1 w .quiet).1 w .operator).1

theorem endCheck_deferred_of_none {s : State} (h : s.clu.deferred = none) (v : Option VerdictContent) :
    (endCheck v s).clu.deferred = none := by
  unfold endCheck
  split
  · exact h
  · next k _ =>
    have kept : (withdrawAudible (applyRestores k (stopWork k s))).clu.deferred = none := by simp [withdrawAudible, h]
    have released := releaseAllOf_deferred_of_none kept .ckr
    cases v <;> simp [clearNoisy_clu, released]

/-- With nothing deferred an off request changes nothing of the OPU. -/
theorem offRequest_opu_of_none {s : State} (h : s.clu.deferred = none) : (offRequest s).opu = s.opu := by
  have cancelled : (cancelRetry s).opu = s.opu := by
    unfold cancelRetry
    split
    · exact (releaseClaim_of_none h .spu .inrush).2
    · rfl
  unfold offRequest
  split
  case h_2 => split <;> simp [cancelled]
  all_goals simp [cancelled]

/-- A check that ends in PROMPTING has its prompt ended with it (R87). -/
theorem endCheck_opu_of_prompting {s : State} {k : CheckRecord} (h : s.ckr = some k) (stage : k.stage = .prompting)
    (hd : s.clu.deferred = none) (v : Option VerdictContent) : (endCheck v s).opu = (promptEnd s).opu := by
  have stopped : (stopWork k s).opu = (promptEnd s).opu := by
    simp [stopWork, stage, promptEnd]
    split <;> simp
  have kept : (withdrawAudible (applyRestores k (stopWork k s))).clu.deferred = none := by simp [withdrawAudible, hd]
  have released := releaseAllOf_opu_of_none kept .ckr
  simp only [endCheck, h]
  cases v <;> simp [released, stopped]

/-! ## A raised hold (R20, R22, R89) -/

theorem judged_of_vdu {s t : State} {x : VerdictContent} (ckr : t.ckr = none)
    (vdu : t.vdu = vduWith x s.bem.current s.vdu) (noisy : t.clu.noisy = false) : Judged s t x := by
  rw [Judged, vdu]
  exact ⟨ckr, rfl, rfl, rfl, rfl, noisy⟩

theorem flushQueue_vdu_of_empty {s : State} (h : s.oi.queue = []) (b : Bool) : (flushQueue b s).vdu = s.vdu := by
  have none : s.flushed b = [] := by simp [State.flushed, h]
  rw [flushQueue_eq]
  simp only [none, List.take_nil, List.length_nil, Nat.not_lt_zero, if_false]
  split <;> rfl

/-- The station with the cause set and in HOLD, its work not yet ended. -/
def holding (c : HoldCause) (s : State) : State := s.setOi { s.oi.setCause c with station := .hold }

theorem raiseHold_eq {s : State} (h : s.oi.station = .ready ∨ s.oi.station = .running) (c : HoldCause) :
    raiseHold c s = clearMessages (offRequest (flushQueue false (terminate c.outcome id (holding c s)))) := by
  rcases h with h | h <;> simp only [raiseHold, h] <;> rfl

theorem raiseHold_oi {s : State} (h : s.oi.station = .ready ∨ s.oi.station = .running) (c : HoldCause) :
    (raiseHold c s).oi = { s.oi.setCause c with station := .hold, queue := [] } := by
  simp [raiseHold_eq h, holding]

theorem raiseHold_ckr {s : State} (h : s.oi.station = .ready ∨ s.oi.station = .running) (c : HoldCause) :
    (raiseHold c s).ckr = none := by
  simp [raiseHold_eq h]

/-- Nothing comes about by itself in HOLD. -/
theorem settle_raiseHold {s : State} (h : s.oi.station = .ready ∨ s.oi.station = .running) (c : HoldCause) :
    settle (raiseHold c s) = raiseHold c s := by
  refine settle_of_still (.inl ⟨raiseHold_ckr h c, ?_, ?_⟩)
  · rw [raiseHold_oi h]
  · rw [raiseHold_oi h]
    exact nofun

@[simp] theorem terminate_errors (v : Verdict) (m : VerdictFlags → VerdictFlags) (s : State) :
    (terminate v m s).opu.errors = s.opu.errors := by
  unfold terminate
  split <;> simp

theorem raiseHold_errors {s : State} (h : s.oi.station = .ready ∨ s.oi.station = .running) (c : HoldCause) :
    (raiseHold c s).opu.errors = s.opu.errors := by
  simp [raiseHold_eq h, holding]

/-- With no check in flight and none queued no record is formed. -/
theorem raiseHold_vdu_of_none {s : State} (h : s.oi.station = .ready ∨ s.oi.station = .running) (c : HoldCause)
    (ckr : s.ckr = none) (queue : s.oi.queue = []) :
    (raiseHold c s).vdu = s.vdu ∧ (raiseHold c s).clu.noisy = s.clu.noisy := by
  have empty : (holding c s).oi.queue = [] := by cases c <;> exact queue
  rw [raiseHold_eq h, terminate_of_none (s := holding c s) ckr]
  simp only [clearMessages_vdu, offRequest_vdu, flushQueue_vdu_of_empty empty, clearMessages_clu, offRequest_noisy,
    flushQueue_clu]
  exact ⟨rfl, rfl⟩

theorem judged_raiseHold {s : State} {k : CheckRecord} (h : s.oi.station = .ready ∨ s.oi.station = .running)
    (c : HoldCause) (hk : s.ckr = some k) (queue : s.oi.queue = []) :
    Judged s (raiseHold c s) (k.contentEndedBy c.outcome k.flags) := by
  have empty : (terminate c.outcome id (holding c s)).oi.queue = [] := by
    rw [terminate_oi]
    cases c <;> exact queue
  have ended : (terminate c.outcome id (holding c s)) = endCheck (some (k.endedContent c.outcome)) (holding c s) := by
    simp [terminate, holding, hk]
  refine judged_of_vdu (raiseHold_ckr h c) ?_ ?_
  · rw [raiseHold_eq h]
    simp only [clearMessages_vdu, offRequest_vdu, flushQueue_vdu_of_empty empty]
    exact terminate_vdu (s := holding c s) hk _ _
  · rw [raiseHold_eq h, ended]
    simp only [clearMessages_clu, offRequest_noisy, flushQueue_clu]
    exact endCheck_noisy (s := holding c s) hk _

theorem raiseHold_opu_of_prompting {s : State} {k : CheckRecord}
    (h : s.oi.station = .ready ∨ s.oi.station = .running) (c : HoldCause) (hk : s.ckr = some k)
    (stage : k.stage = .prompting) (hd : s.clu.deferred = none) : (raiseHold c s).opu = (promptEnd s).opu := by
  have ended : (terminate c.outcome id (holding c s)) = endCheck (some (k.endedContent c.outcome)) (holding c s) := by
    simp [terminate, holding, hk]
  rw [raiseHold_eq h, ended, clearMessages_opu, offRequest_opu_of_none, flushQueue_opu,
    endCheck_opu_of_prompting (s := holding c s) hk stage hd]
  · unfold promptEnd
    split <;> simp_all [holding]
  · rw [flushQueue_clu]
    exact endCheck_deferred_of_none (s := holding c s) hd _

/-! ## The report of a prompt (R82) -/

/-- The record of a check whose prompt has been answered. -/
def CheckRecord.promptAnswered (k : CheckRecord) (r : Verdict × Option Nat) : CheckRecord :=
  { k with attempts := r.2, judged := r.1, waitsOn := .none, stage := .judging }

theorem promptResult_of_waiting {s : State} {k : CheckRecord} (hk : s.ckr = some k) (stage : k.stage = .prompting)
    (waits : k.waitsOn = .prompt) (r : Verdict × Option Nat) :
    promptResult r s = (releaseClaim .ckr .operator s).setCkr (some (k.promptAnswered r)) := by
  simp only [promptResult, hk, stage, waits, and_self, if_true]
  rfl

theorem promptResult_of_none {s : State} (h : s.ckr = none) (r : Verdict × Option Nat) : promptResult r s = s := by
  simp [promptResult, h]

theorem finishJudged_of_judging {s : State} {k : CheckRecord} (hk : s.ckr = some k) (stage : k.stage = .judging) :
    finishJudged s = endCheck (some k.judgedContent) s := by
  simp only [finishJudged, hk, stage, if_true]

/-- The verdict record is read off the records formed so far and the identity. -/
theorem Judged.of_same {s u t : State} {x : VerdictContent} (h : Judged u t x) (vdu : u.vdu = s.vdu)
    (identity : u.bem.current = s.bem.current) : Judged s t x := by
  rw [Judged, vdu, identity] at h
  exact h

/-- The verdict record is read off the units that a release does not touch. -/
theorem Judged.of_release {s t : State} {x : VerdictContent} {w : Requester} {r : Resource} {c : Option CheckRecord}
    (h : Judged ((releaseClaim w r s).setCkr c) t x) : Judged s t x := by
  simpa [Judged] using h

/-- What the OPU holds has no part in the verdict record. -/
theorem Judged.of_setOpu {s t : State} {o : Opu} {x : VerdictContent} (h : Judged (s.setOpu o) t x) : Judged s t x := h

/-- A result alone: the check is judged with it, and the station is READY. -/
theorem takeNews_of_result {s : State} {k : CheckRecord} (alone : RunsAlone s k) (stage : k.stage = .prompting)
    (waits : k.waitsOn = .prompt) (hd : s.clu.deferred = none) (o : Opu) (r : Verdict × Option Nat) :
    let t := takeNews (s.setOpu o, { result := some r })
    t.opu = o ∧ t.oi = s.oiReady ∧ Judged s t (k.contentAnswered r.1 r.2) := by
  obtain ⟨hk, queue, running⟩ := alone
  let u := (releaseClaim .ckr .operator (s.setOpu o)).setCkr (some (k.promptAnswered r))
  have released := releaseClaim_of_none (s := s.setOpu o) hd .ckr .operator
  have taken : takeNews (s.setOpu o, { result := some r }) = settle u :=
    congrArg settle (promptResult_of_waiting (s := s.setOpu o) hk stage waits r)
  have runs : RunsAlone u (k.promptAnswered r) := ⟨rfl, by simpa [u] using queue, by simpa [u] using running⟩
  obtain ⟨judged, oi, -, -, opu⟩ := settle_judging_leaves runs rfl
  rw [taken]
  exact ⟨(opu released.1).trans released.2, oi.trans (by simp [u, State.oiReady]),
    (judged.of_release (s := s.setOpu o)).of_setOpu⟩

theorem takeNews_of_nothing (s : State) : takeNews (s, {}) = s := rfl

/-- The hold alone: it ends the check with OPERATOR_FAIL. -/
theorem takeNews_of_limit {s : State} {k : CheckRecord} (alone : RunsAlone s k) (stage : k.stage = .prompting)
    (hd : s.clu.deferred = none) (o : Opu) :
    let t := takeNews (s.setOpu o, { limit := true })
    t.oi = { s.oi with station := .hold, limitHold := true } ∧ t.opu.state = .idle ∧ t.opu.errors = o.errors ∧
      Judged s t (k.contentEndedBy .operatorFail k.flags) := by
  obtain ⟨hk, queue, running⟩ := alone
  have working : (s.setOpu o).oi.station = .ready ∨ (s.setOpu o).oi.station = .running := .inr running
  have taken : takeNews (s.setOpu o, { limit := true }) = raiseHold .operatorLimit (s.setOpu o) :=
    settle_raiseHold working _
  rw [taken]
  refine ⟨?_, ?_, raiseHold_errors working _,
    (judged_raiseHold working .operatorLimit (s := s.setOpu o) hk queue).of_setOpu⟩
  · rw [raiseHold_oi working, ← queue]
    rfl
  · rw [raiseHold_opu_of_prompting working _ (s := s.setOpu o) hk stage hd]
    exact promptEnd_state _

/-- A result and the hold: which is taken first is free (log 9). -/
theorem takeNews_of_both {s : State} {k : CheckRecord} (alone : RunsAlone s k) (stage : k.stage = .prompting)
    (waits : k.waitsOn = .prompt) (o : Opu) (r : Verdict × Option Nat) :
    let t := takeNews (s.setOpu o, { result := some r, limit := true })
    t.oi = { s.oi with station := .hold, limitHold := true } ∧ t.opu.errors = o.errors ∧
      (Judged s t (k.contentAnswered r.1 r.2) ∨ Judged s t (k.contentEndedBy .operatorFail k.flags)) := by
  obtain ⟨hk, queue, running⟩ := alone
  let u := (s.setOpu o).setChoices (s.choices + 1)
  have taken : takeNews (s.setOpu o, { result := some r, limit := true }) =
      settle (if Config.firstTaken s.choices then raiseHold .operatorLimit (finishJudged (promptResult r u))
        else promptResult r (raiseHold .operatorLimit u)) := by
    simp only [takeNews, deliverNews, State.setOpu_ckr, hk, takeFirst]
    rfl
  have working : u.oi.station = .ready ∨ u.oi.station = .running := .inr running
  have oi : { u.oi.setCause .operatorLimit with station := .hold, queue := [] } =
      { s.oi with station := .hold, limitHold := true } := by
    rw [← queue]
    rfl
  rw [taken]
  by_cases first : Config.firstTaken s.choices = true
  · let w := (releaseClaim .ckr .operator u).setCkr (some (k.promptAnswered r))
    let e := endCheck (some (k.promptAnswered r).judgedContent) w
    have finished : finishJudged w = e := finishJudged_of_judging (by rfl) rfl
    have kept : e.oi = s.oi := by simp [e, w, u]
    have holds : e.oi.station = .ready ∨ e.oi.station = .running := kept ▸ .inr running
    obtain ⟨vdu, noisy⟩ := raiseHold_vdu_of_none holds .operatorLimit (by simp [e]) (kept ▸ queue)
    have judged : Judged w (raiseHold .operatorLimit e) (k.contentAnswered r.1 r.2) :=
      judged_of_vdu (raiseHold_ckr holds _) (vdu.trans (endCheck_vdu (by rfl) _))
        (noisy.trans (endCheck_noisy (s := w) (by rfl) _))
    rw [if_pos first, promptResult_of_waiting (s := u) hk stage waits, finished, settle_raiseHold holds]
    refine ⟨?_, ?_, .inl (judged.of_release (s := u))⟩
    · rw [raiseHold_oi holds, kept]
      exact oi
    · rw [raiseHold_errors holds]
      simp [e, w, u]
  · rw [if_neg first, promptResult_of_none (raiseHold_ckr working _), settle_raiseHold working]
    exact ⟨(raiseHold_oi working _).trans oi, raiseHold_errors working _,
      .inr (judged_raiseHold (s := u) working .operatorLimit hk queue)⟩

/-! ## The fifth place put back (R186) -/

/-- A right answer puts the challenge field back and touches nothing else but BUS_LATE. -/
theorem fifthRestored_leaves {s : State} {k : CheckRecord} (hk : s.ckr = some k) :
    let t := fifthRestored s
    t.oi = s.oi ∧ t.opu = s.opu ∧ t.vdu = s.vdu ∧ t.clu = s.clu ∧ t.bem.current = s.bem.current ∧
    (∃ late : Bool, t.ckr = some ({ k with fifth := none }.noted late) ∧ (k.fifth = none → late = false)) ∧
    (k.fifth = none → t.bem = s.bem) ∧
    ∀ e (m : Fin 24), k.fifth = some e → e.slot = m.val → s.bem.slots[m].defined = true →
      s.bem.slots[m].enabled = false →
      t.bem.slots[m].payload = writeField s.bem.slots[m].payload e.start e.len e.pattern := by
  intro t
  cases hf : k.fifth with
  | none =>
    have same : t = s := by simp only [t, fifthRestored, hk, hf]
    have record : { k with fifth := none }.noted false = k := by
      rw [CheckRecord.noted_false, ← hf]
    rw [same]
    exact ⟨rfl, rfl, rfl, rfl, rfl, ⟨false, hk.trans (congrArg some record.symm), fun _ => rfl⟩, fun _ => rfl, nofun⟩
  | some e =>
    let u := s.setCkr (some { k with fifth := none })
    have restored : t = applyRestore e u := by simp only [t, fifthRestored, hk, hf]; rfl
    obtain ⟨late, noted⟩ := writeSlot_busNoted e.slot e.start e.len e.pattern u
    rw [restored]
    refine ⟨by simp [u], by simp [u], by simp [u], by simp [u], by simp [u], ⟨late, noted, nofun⟩, nofun, ?_⟩
    rintro _ m ⟨⟩ slot defined off
    rw [applyRestore, slot, writeSlot_of_quiet (s := u) defined (.inr off), setSlot_bem_slots, if_pos rfl]
    rfl

/-! ## The keys (R185 to R188) -/

/-- The counts after a failed attempt (R187, R190). -/
def Opu.failedOnce (o : Opu) : Opu := { o with attempts := o.attempts + 1, errors := min (o.errors + 1) 16 }

theorem failedAttempt_of_first {s : State} (h : s.opu.attempts = 0) : failedAttempt s =
    (s.setOpu { s.opu.failedOnce with entry := [], lookTimer := some s.opu.cfg.lookMs },
      { limit := s.opu.failedOnce.overLimit }) := by
  have few : s.opu.attempts + 1 < 2 := by omega
  exact if_pos few

theorem failedAttempt_of_second {s : State} (h : s.opu.attempts = 1) : failedAttempt s =
    (s.setOpu (s.opu.failedOnce.reportedDone .operatorFail),
      { result := some (.operatorFail, some 2), limit := s.opu.failedOnce.overLimit }) := by
  have many : ¬ s.opu.attempts + 1 < 2 := by omega
  have count : s.opu.attempts + 1 = 2 := by omega
  rw [← count]
  exact if_neg many

/-- An attempt that fails, whether too soon or with a wrong code: the entry has no part in what follows. -/
theorem digitKey_of_fails {s : State} {d : Fin 10} (state : s.opu.state = .challenge) (fails : s.opu.Fails d) :
    ∃ entry, digitKey d s = failedAttempt (s.setOpu { s.opu with entry := entry }) := by
  rcases fails with early | ⟨late, three, wrong⟩
  · have failed : digitKey d s = failedAttempt s := by simp only [digitKey, state, early, if_true]
    exact ⟨s.opu.entry, failed⟩
  · refine ⟨s.opu.entry ++ [d.val], ?_⟩
    simp [digitKey, state, late, three, wrong]

theorem digitKey_of_firstFail {s : State} {d : Fin 10} (state : s.opu.state = .challenge) (fails : s.opu.Fails d)
    (first : s.opu.attempts = 0) : digitKey d s =
      (s.setOpu { s.opu.failedOnce with entry := [], lookTimer := some s.opu.cfg.lookMs },
        { limit := s.opu.failedOnce.overLimit }) := by
  obtain ⟨entry, failed⟩ := digitKey_of_fails state fails
  exact failed.trans (failedAttempt_of_first (s := s.setOpu { s.opu with entry := entry }) first)

theorem digitKey_of_secondFail {s : State} {d : Fin 10} (state : s.opu.state = .challenge) (fails : s.opu.Fails d)
    (second : s.opu.attempts = 1) : digitKey d s =
      (s.setOpu (s.opu.failedOnce.reportedDone .operatorFail),
        { result := some (.operatorFail, some 2), limit := s.opu.failedOnce.overLimit }) := by
  obtain ⟨entry, failed⟩ := digitKey_of_fails state fails
  exact failed.trans (failedAttempt_of_second (s := s.setOpu { s.opu with entry := entry }) second)

/-- The fourth digit of a right answer: the count is lowered and the challenge field put back (R186). -/
theorem digitKey_of_right {s : State} {d : Fin 10} (state : s.opu.state = .challenge)
    (right : s.opu.lookTimer = none ∧ s.opu.entry.length = 3 ∧ digitsToNat (s.opu.entry ++ [d.val]) = s.opu.code) :
    digitKey d s =
      let u := fifthRestored (s.setOpu s.opu.answered)
      if u.opu.asksAfterwards then (u.setOpu { u.opu with state := .yesNo }, {})
      else (u.setOpu (u.opu.toDone .pass), { result := some (.pass, some u.opu.attempts) }) := by
  obtain ⟨late, three, code⟩ := right
  have correct : digitKey d s = correctAnswer (s.setOpu { s.opu with entry := s.opu.entry ++ [d.val] }) := by
    simp [digitKey, state, late, three, code]
  rw [correct, correctAnswer_eq]
  rfl

theorem asksAfterwards_of_prompt {o : Opu} {p : Prompt} (h : o.prompt = some p) :
    o.asksAfterwards = (p.mode == .attendedYesNo) := by
  rw [Opu.asksAfterwards, h]

theorem digitKey_of_short {s : State} (d : Fin 10) (state : s.opu.state = .challenge) (late : s.opu.lookTimer = none)
    (few : s.opu.entry.length < 3) : digitKey d s = (s.setOpu { s.opu with entry := s.opu.entry ++ [d.val] }, {}) := by
  have short : s.opu.entry.length + 1 < 4 := by omega
  simp [digitKey, state, late, short]

/-- Outside CHALLENGE a digit is ignored, outside YESNO the key PASS, and outside both the key FAIL (R179). -/
theorem digitKey_of_not_challenge {s : State} (h : s.opu.state ≠ .challenge) (d : Nat) : digitKey d s = (s, {}) := by
  unfold digitKey
  split
  · contradiction
  · rfl

theorem passKey_of_not_yesNo {s : State} (h : s.opu.state ≠ .yesNo) : passKey s = (s, {}) := by
  unfold passKey
  split
  · contradiction
  · rfl

theorem failKey_of_neither {s : State} (h : s.opu.state ≠ .challenge) (h' : s.opu.state ≠ .yesNo) :
    failKey s = (s, {}) := by
  unfold failKey
  split
  · contradiction
  · contradiction
  · rfl

theorem clearKey_of_not_challenge {s : State} (h : s.opu.state ≠ .challenge) : clearKey s = s := by
  unfold clearKey
  split
  · contradiction
  · rfl

/-- The attempts that a report carries (R82, R188). -/
theorem reportedAttempts_of_prompt {o : Opu} {p : Prompt} (h : o.prompt = some p) :
    o.reportedAttempts = if p.mode = .yesNo then none else some o.attempts := by
  unfold Opu.reportedAttempts Opu.isAttended
  rw [h]
  by_cases mode : p.mode = .yesNo <;> simp [mode]

theorem exec_keyDigit {s : State} (running : s.resetHeld = false) (d : Fin 10) :
    exec (.keyDigit d) s = .next (takeNews (digitKey d s)) := by
  change execKeyDigit d s = _
  rw [execKeyDigit, act_of_running running]

theorem exec_keyPass {s : State} (running : s.resetHeld = false) :
    exec .keyPass s = .next (takeNews (passKey s)) := by
  change execKeyPass s = _
  rw [execKeyPass, act_of_running running]

theorem exec_keyFail {s : State} (running : s.resetHeld = false) :
    exec .keyFail s = .next (takeNews (failKey s)) := by
  change execKeyFail s = _
  rw [execKeyFail, act_of_running running]

theorem exec_keyClear {s : State} (running : s.resetHeld = false) : exec .keyClear s = .next (clearKey s) :=
  act_of_running running _

theorem exec_promptTimerExpiry {s : State} {n : Nat} (running : s.resetHeld = false)
    (timer : s.opu.promptTimer = some n) : exec .promptTimerExpiry s = .next (takeNews (promptTimeout s)) := by
  change execPromptTimerExpiry s = _
  rw [execPromptTimerExpiry, act_of_running running, timer]
  rfl

theorem overLimit_iff {o : Opu} : o.overLimit = true ↔ o.cfg.errorLimit < o.errors := decide_eq_true_iff

end Sys2Proof.Machine

namespace Sys2Proof.Certificates

open Machine

/-- Settles O53: each key by the state that it meets. -/
theorem otherKeys : Obligations.OtherKeys := by
  intro s running
  refine ⟨fun idle c hc => ?_, fun state => ⟨?_, ?_⟩, fun state => ⟨?_, fun d => ?_⟩, ?_,
    fun c v k p hp alone stage waits hd h => ?_⟩
  · have notChallenge : s.opu.state ≠ .challenge := by rcases idle with h | h | h <;> simp [h]
    have notYesNo : s.opu.state ≠ .yesNo := by rcases idle with h | h | h <;> simp [h]
    obtain rfl | rfl | rfl | ⟨d, rfl⟩ := hc
    · rw [exec_keyClear running, clearKey_of_not_challenge notChallenge]
    · rw [exec_keyPass running, passKey_of_not_yesNo notYesNo, takeNews_of_nothing]
    · rw [exec_keyFail running, failKey_of_neither notChallenge notYesNo, takeNews_of_nothing]
    · rw [exec_keyDigit running, digitKey_of_not_challenge notChallenge, takeNews_of_nothing]
  · rw [exec_keyClear running]
    simp only [clearKey, state]
  · rw [exec_keyPass running, passKey_of_not_yesNo (by simp [state]), takeNews_of_nothing]
  · rw [exec_keyClear running, clearKey_of_not_challenge (by simp [state])]
  · rw [exec_keyDigit running, digitKey_of_not_challenge (by simp [state]), takeNews_of_nothing]
  · change execLookTimerExpiry s = _
    rw [execLookTimerExpiry, act_of_running running]
  · obtain ⟨attempts, taken, reported⟩ : ∃ n, exec c s = .next (takeNews (s.setOpu (s.opu.reportedDone v),
        { result := some (v, n) })) ∧ n = if p.mode = .yesNo then none else some s.opu.attempts := by
      obtain ⟨state, rfl, rfl⟩ | ⟨state, rfl, rfl⟩ | ⟨state, mode, rfl, rfl⟩ := h
      · refine ⟨_, (exec_keyPass running).trans ?_, reportedAttempts_of_prompt hp⟩
        simp only [passKey, state]
        rfl
      · refine ⟨_, (exec_keyFail running).trans ?_, reportedAttempts_of_prompt hp⟩
        simp only [failKey, state]
        rfl
      · refine ⟨_, (exec_keyFail running).trans ?_, (if_neg mode).symm⟩
        simp only [failKey, state]
        rfl
    rw [taken, ← reported]
    exact ⟨_, rfl, takeNews_of_result alone stage waits hd _ (v, attempts)⟩

/-- Settles O54: in YESNO a result alone; in CHALLENGE the count is raised, and above the limit the hold comes with it.
-/
theorem promptTimerExpiry : Obligations.PromptTimerExpiry := by
  intro s n k p running timer hp alone stage waits hd e
  rw [exec_promptTimerExpiry running timer]
  have challenged : s.opu.state = .challenge → promptTimeout s = (s.setOpu ({ s.opu with errors := e }.reportedDone .timeout),
      { result := some (.timeout, some s.opu.attempts), limit := Opu.overLimit { s.opu with errors := e } }) := by
    intro state
    simp only [promptTimeout, state]
    rfl
  refine ⟨fun state => ?_, fun state below => ?_, fun state above => ?_⟩
  · have ended : promptTimeout s = (s.setOpu (s.opu.reportedDone .timeout),
        { result := some (.timeout, s.opu.reportedAttempts) }) := by
      simp only [promptTimeout, state]
      rfl
    rw [ended, reportedAttempts_of_prompt hp]
    exact ⟨_, rfl, takeNews_of_result alone stage waits hd _ _⟩
  · have kept : Opu.overLimit { s.opu with errors := e } = false := decide_eq_false (Nat.not_lt.mpr below)
    rw [challenged state, kept]
    exact ⟨_, rfl, takeNews_of_result alone stage waits hd _ _⟩
  · rw [challenged state, overLimit_iff.mpr above]
    exact ⟨_, rfl, takeNews_of_both alone stage waits _ _⟩

/-- Settles O52: by what the digit makes of the entry, and by the count that it leaves. -/
theorem digitKeys : Obligations.DigitKeys := by
  intro s d k p running state hp mode alone stage waits hd o right
  rw [exec_keyDigit running]
  obtain ⟨oi, opu, vdu, clu, identity, ⟨late, record, silent⟩, bem, field⟩ :=
    fifthRestored_leaves (s := s.setOpu s.opu.answered) alone.1
  have asks : (fifthRestored (s.setOpu s.opu.answered)).opu.asksAfterwards = (p.mode == .attendedYesNo) :=
    asksAfterwards_of_prompt (opu ▸ hp)
  refine ⟨fun late few => ?_, fun isRight attended => ?_, fun isRight asked => ?_, fun fails first below => ?_,
    fun fails second below => ?_, fun fails first above => ?_, fun fails second above => ?_⟩
  · rw [digitKey_of_short d state late few, takeNews_of_nothing]
  · have still : (p.mode == .attendedYesNo) = false := by rw [attended]; rfl
    rw [digitKey_of_right state isRight]
    simp only [asks, still, Bool.false_eq_true, if_false]
    obtain ⟨done, ready, judged⟩ := takeNews_of_result (s := fifthRestored (s.setOpu s.opu.answered))
      ⟨record, oi ▸ alone.2.1, oi ▸ alone.2.2⟩ stage waits (clu ▸ hd) (s.opu.answered.toDone .pass)
      (.pass, some s.opu.answered.attempts)
    rw [opu]
    refine ⟨_, rfl, done, ready.trans ?_, late, silent, ?_⟩
    · rw [State.oiReady, oi]
      rfl
    · exact judged.of_same vdu identity
  · rw [digitKey_of_right state isRight]
    simp only [asks, asked, beq_self_eq_true, if_true, takeNews_of_nothing]
    refine ⟨_, rfl, ?_, oi, vdu, ⟨_, record, rfl, waits⟩, bem, field⟩
    rw [State.setOpu_opu, opu]
    rfl
  · have within : s.opu.failedOnce.overLimit = false := decide_eq_false (Nat.not_lt.mpr below)
    rw [digitKey_of_firstFail state fails first, within]
    rfl
  · have within : s.opu.failedOnce.overLimit = false := decide_eq_false (Nat.not_lt.mpr below)
    rw [digitKey_of_secondFail state fails second, within]
    exact ⟨_, rfl, takeNews_of_result alone stage waits hd _ _⟩
  · rw [digitKey_of_firstFail state fails first, overLimit_iff.mpr (by exact above)]
    exact ⟨_, rfl, takeNews_of_limit alone stage hd _⟩
  · rw [digitKey_of_secondFail state fails second, overLimit_iff.mpr (by exact above)]
    exact ⟨_, rfl, takeNews_of_both alone stage waits _ _⟩

end Sys2Proof.Certificates
end
section
/-! Supply faults (R89, R90, R102 to R109): claims released with nothing deferred, the entries to FAULT_OFF and to SAFE,
the hold that SAFE raises, and the retry. -/

namespace Sys2Proof.Machine

/-! ## Releases with nothing deferred (R61) -/

theorem holdsClaim_iff {w : Requester} {r : Resource} {s : State} :
    holdsClaim w r s = true ↔ ∃ c, s.clu.claim = some c ∧ c.requester = w ∧ c.resource = r := by
  unfold holdsClaim
  cases s.clu.claim <;> simp

theorem releaseClaim_of_not_held {w : Requester} {r : Resource} {s : State} (hd : s.clu.deferred = none)
    (h : ∀ c, s.clu.claim = some c → c.requester = w → c.resource ≠ r) : releaseClaim w r s = s := by
  have free : ¬ holdsClaim w r s = true := fun held =>
    have ⟨c, hc, requester, resource⟩ := holdsClaim_iff.mp held
    h c hc requester resource
  simp only [releaseClaim, dropDeferred_of_none hd, if_neg free]

theorem releaseClaim_of_held {w : Requester} {r : Resource} {s : State} {c : OwnClaim} (hd : s.clu.deferred = none)
    (hc : s.clu.claim = some c) (requester : c.requester = w) (resource : c.resource = r) :
    releaseClaim w r s = removeClaim s := by
  have held : holdsClaim w r s = true := holdsClaim_iff.mpr ⟨c, hc, requester, resource⟩
  have removed : (removeClaim s).clu.deferred = none := by simp [removeClaim, hd]
  simp only [releaseClaim, dropDeferred_of_none hd, if_pos held, takeDeferred_of_none removed]

theorem removeClaim_clu (s : State) : (removeClaim s).clu = { s.clu with claim := none } := by simp [removeClaim]

/-- The removal is announced (R61). -/
theorem removeClaim_buffer {s : State} (h : s.rli.silent = false) :
    ∃ a cls, (removeClaim s).rli.buffer = some (a, cls) ∧ a.claim = none ∧ a.rail = s.spu.rail :=
  ⟨_, _, handIn_buffer (s := s.setClu { s.clu with claim := none }) h, rfl, rfl⟩

/-! ## No claim of the check is left at its end (R61, R86) -/

/-- Neither the own claim nor the deferred request is the Check Runner's on a resource of the list. -/
def FreeOf (rs : List Resource) (s : State) : Prop :=
  (∀ c, s.clu.claim = some c → c.requester = .ckr → c.resource ∉ rs) ∧
    ∀ d, s.clu.deferred = some d → d.requester ≠ .ckr

/-- A deferred request that is taken leaves none of the check where it was not the check's. -/
theorem takeDeferred_free {rs : List Resource} {s : State} (h : FreeOf rs s) : FreeOf rs (takeDeferred s) := by
  obtain ⟨claim, deferred⟩ := h
  unfold takeDeferred
  split
  · next q free taken =>
    refine ⟨fun c hc requester => ?_, fun d hd => ?_⟩
    · obtain rfl : c = _ := Option.some.inj (hc.symm.trans (by simp [takeClaim]; rfl))
      exact absurd requester (deferred q taken)
    · have : (takeClaim q (s.setClu { s.clu with deferred := none })).clu.deferred = none := by
        simp only [takeClaim, givePlace_clu, handIn_clu]
        cases q.resource <;> rfl
      exact nomatch this.symm.trans hd
  · exact ⟨claim, deferred⟩

/-- A release keeps what holds of the claim and of the deferred request; the check's own release frees the resource. -/
theorem dropDeferred_free {rs : List Resource} {s : State} (h : FreeOf rs s) (w : Requester) (r : Resource) :
    FreeOf rs (dropDeferred w r s) := by
  unfold dropDeferred
  split
  · split
    · exact ⟨h.1, fun d hd => nomatch hd⟩
    · exact h
  · exact h

theorem removeClaim_free (rs : List Resource) {s : State} (h : ∀ d, s.clu.deferred = some d → d.requester ≠ .ckr) :
    FreeOf rs (removeClaim s) := by
  rw [FreeOf, removeClaim_clu]
  exact ⟨fun c hc => (nomatch hc), h⟩

theorem releaseClaim_free {rs : List Resource} {s : State} (h : FreeOf rs s) (w : Requester) (r : Resource) :
    FreeOf rs (releaseClaim w r s) := by
  have dropped := dropDeferred_free h w r
  unfold releaseClaim
  dsimp only
  split
  · exact takeDeferred_free (removeClaim_free rs dropped.2)
  · exact dropped

theorem releaseClaim_frees {rs : List Resource} {s : State} (h : FreeOf rs s) (r : Resource) :
    FreeOf (r :: rs) (releaseClaim .ckr r s) := by
  have dropped := dropDeferred_free h .ckr r
  unfold releaseClaim
  dsimp only
  split
  · exact takeDeferred_free (removeClaim_free _ dropped.2)
  · next free =>
    refine ⟨fun c hc requester => ?_, dropped.2⟩
    have other : c.resource ≠ r := fun same => free (holdsClaim_iff.mpr ⟨c, hc, requester, same⟩)
    simp [other, dropped.1 c hc requester]

/-- A request of the check that waited as the deferred one is dropped first (R86 step 3). -/
theorem deferred_dropped (s : State) :
    FreeOf [] (dropDeferred .ckr .operator (dropDeferred .ckr .quiet (dropDeferred .ckr .inrush s))) := by
  refine ⟨fun c _ _ => List.not_mem_nil, fun d => ?_⟩
  unfold dropDeferred
  cases hd : s.clu.deferred with
  | none => simp [hd]
  | some q =>
    by_cases own : q.requester = .ckr
    · cases hr : q.resource <;> simp [hd, own, hr]
    · simp only [hd, own, false_and, if_false, Option.some.injEq]
      rintro rfl
      exact own

theorem releaseAllOf_frees (s : State) : FreeOf [.operator, .quiet, .inrush] (releaseAllOf .ckr s) :=
  releaseClaim_frees (releaseClaim_frees (releaseClaim_frees (deferred_dropped s) _) _) _

/-- No claim is left that is the check's. -/
theorem FreeOf.no_claim {s : State} (h : FreeOf [.operator, .quiet, .inrush] s) (q : OwnClaim)
    (hq : s.clu.claim = some q) : q.requester ≠ .ckr := fun requester =>
  h.1 q hq requester (by cases q.resource <;> decide)

theorem FreeOf.of_clu {rs : List Resource} {s t : State} (h : FreeOf rs s) (claim : t.clu.claim = s.clu.claim)
    (deferred : t.clu.deferred = s.clu.deferred) : FreeOf rs t := by
  rwa [FreeOf, claim, deferred]

theorem endCheck_frees {s : State} {k : CheckRecord} (h : s.ckr = some k) (v : Option VerdictContent) :
    FreeOf [.operator, .quiet, .inrush] (endCheck v s) := by
  have freed := releaseAllOf_frees (withdrawAudible (applyRestores k (stopWork k s)))
  simp only [endCheck, h]
  cases v <;> exact freed.of_clu (by simp [clearNoisy_clu]) (by simp [clearNoisy_clu])

/-! ## The bus of a rail that is not transmitting (R117, R121) -/

/-- Of the bus, nothing but message slots differs. -/
def SlotsAlone (s t : State) : Prop := t.bem = { s.bem with slots := t.bem.slots }

theorem SlotsAlone.trans {s t u : State} (h : SlotsAlone s t) (h' : SlotsAlone t u) : SlotsAlone s u := by
  unfold SlotsAlone at *
  rw [h', h]

theorem writeSlot_slotsAlone {s : State} (h : s.spu.rail.transmits = false) (n start len : Nat) (p : Payload) :
    SlotsAlone s (writeSlot n start len p s) := by
  have rail (m : MessageSlot) : canSnapshot (setSlot n m s) (slotAt (setSlot n m s) n) = false := by
    simp [canSnapshot, h]
  unfold writeSlot
  dsimp only
  split
  · rw [eventDue, fallDue, if_neg (ne_true_of_eq_false (rail _)), ite_self]
    rfl
  · rfl

theorem applyRestores_slotsAlone (k : CheckRecord) {s : State} (h : s.spu.rail.transmits = false) :
    SlotsAlone s (applyRestores k s) := by
  have fold : ∀ (l : List RestoreEntry) (u : State), u.spu.rail.transmits = false →
      SlotsAlone u (l.foldl (fun s e => applyRestore e s) u) := by
    intro l
    induction l with
    | nil => exact fun u _ => rfl
    | cons e l ih =>
      exact fun u hu => (writeSlot_slotsAlone hu _ _ _ _).trans (ih (applyRestore e u) (by rwa [applyRestore_spu]))
  unfold applyRestores
  cases k.fifth with
  | none => exact fold _ _ h
  | some e => exact (writeSlot_slotsAlone h _ _ _ _).trans (fold _ _ (by rwa [writeSlot_spu]))

/-- The rail leaves the transmitting states: the traffic is stopped. -/
theorem railTo_bem_of_leaves {s : State} {r : RailState} (on : s.spu.rail.transmits = true)
    (off : r.transmits = false) : (railTo r s).bem.queue = [] ∧ (railTo r s).bem.schedule = none := by
  rw [railTo_eq, if_pos (by simp [on, off])]
  exact ⟨rfl, rfl⟩

/-! ## FAULT_OFF (R105) -/

theorem enterFaultOff_spu (s : State) : (enterFaultOff s).spu = { s.spu.sourceOff .faultOff with
    recovery := none, offTimer := some s.spu.cfg.offMs, retry := true } := by
  simp only [enterFaultOff, State.setSpu_spu, railTo_spu_of_off (r := .faultOff) rfl]
  rfl

theorem enterFaultOff_bem {s : State} (on : s.spu.rail.outputOn = true) (h : s.spu.rail ≠ .ramping) :
    (enterFaultOff s).bem.queue = [] ∧ (enterFaultOff s).bem.schedule = none := by
  refine railTo_bem_of_leaves ?_ rfl
  revert on h
  cases s.spu.rail <;> simp [RailState.outputOn, RailState.transmits]

theorem powerUpCancel_of_retry {s : State} (h : s.spu.retry = true) : powerUpCancel s = s := by
  rw [powerUpCancel, if_pos h]

/-- What the end of a check stops beside its power-up does not touch the bus. -/
theorem stopWork_bem (k : CheckRecord) (s : State) : (stopWork k s).bem = (powerUpCancel s).bem := by
  unfold stopWork
  dsimp only
  split <;> split <;> simp

theorem endCheck_bem {s : State} {k : CheckRecord} (h : s.ckr = some k) (v : Option VerdictContent) :
    (endCheck v s).bem = (applyRestores k (stopWork k s)).bem := by
  simp only [endCheck, h]
  cases v <;> simp [withdrawAudible]

/-- A check that ends in a retry changes no more of the bus than the fields that it puts back. -/
theorem endCheck_slotsAlone {s : State} {k : CheckRecord} (h : s.ckr = some k) (retry : s.spu.retry = true)
    (rail : s.spu.rail.transmits = false) (v : Option VerdictContent) : SlotsAlone s (endCheck v s) := by
  have kept : (stopWork k s).bem = s.bem := by rw [stopWork_bem, powerUpCancel_of_retry retry]
  have spu : (stopWork k s).spu = s.spu := by rw [stopWork_spu, powerUpCancel_of_retry retry]
  have restored := applyRestores_slotsAlone k (s := stopWork k s) (by rwa [spu])
  rw [SlotsAlone, kept] at restored
  rwa [SlotsAlone, endCheck_bem h]

theorem terminate_of_some {s : State} {k : CheckRecord} (h : s.ckr = some k) (v : Verdict)
    (m : VerdictFlags → VerdictFlags) : terminate v m s = endCheck (some (k.contentEndedBy v (m k.flags))) s := by
  rw [terminate, h]
  rfl

/-- With no check in flight the rail keeps every order from starting. -/
theorem micro_none_of_blocked {s : State} (hc : s.ckr = none) (hb : s.spu.blocksStart = true)
    (hr : s.oi.station ≠ .running) : micro s = none := by
  cases hq : s.oi.queue <;> simp [micro, hc, hq, hr, mayStart, hb]

theorem shortPossible_of_two {u : Spu} (h : 2 ≤ u.effective) : u.shortPossible = true := by
  unfold Spu.shortPossible
  dsimp only
  split
  · exact decide_eq_true (by omega)
  · exact decide_eq_true (by omega)

theorem exec_fault {s : State} {c : Instr} (running : s.resetHeld = false)
    (h : c = .overcurrent ∨ (c = .short ∧ 2 ≤ s.spu.effective)) (on : s.spu.rail.outputOn = true) :
    exec c s = .next (supplyFault s) := by
  rcases h with rfl | ⟨rfl, level⟩
  · change execOvercurrent s = _
    rw [execOvercurrent, act_of_running running, if_pos on]
  · change execShort s = _
    rw [execShort, act_of_running running, on, shortPossible_of_two level]
    rfl

/-! ## SAFE and its hold (R108) -/

/-- The SPU in SAFE. -/
def Spu.safe (u : Spu) : Spu :=
  { u.sourceOff .safe with offTimer := none, recovery := none, dischargeTimer := none, retry := false }

theorem enterSafe_spu (s : State) : (enterSafe s).spu = s.spu.safe := by
  simp only [enterSafe, State.setSpu_spu, releaseClaim_spu, railTo_spu_of_off (r := .safe) rfl]
  rfl

@[simp] theorem enterSafe_errors (s : State) : (enterSafe s).opu.errors = s.opu.errors := by
  simp [enterSafe]

theorem raiseHold_spu_of_safe {s : State} (h : s.oi.station = .ready ∨ s.oi.station = .running) (c : HoldCause)
    (safe : s.spu.rail = .safe) : (raiseHold c s).spu = s.spu := by
  have asked : (holding c s).spu.OffAsked (offRequest (flushQueue false (terminate c.outcome id (holding c s)))).spu :=
    offAsked_of_terminate (flushQueue_spu _ _)
  rw [raiseHold_eq h, clearMessages_spu]
  exact asked.1 (.inr (.inr safe))

/-- The messages are cleared. -/
theorem raiseHold_bem {s : State} (h : s.oi.station = .ready ∨ s.oi.station = .running) (c : HoldCause) :
    (raiseHold c s).bem.queue = [] ∧ ∀ n : Fin 24, (raiseHold c s).bem.slots[n].enabled = false := by
  rw [raiseHold_eq h]
  refine ⟨rfl, fun n => ?_⟩
  rw [Fin.getElem_fin, clearMessages_slot _ _ n.isLt]

theorem Formed.congr {s t u v : State} {xs : List VerdictContent} (h : Formed s t xs) (vdu : u.vdu = s.vdu)
    (current : u.bem.current = s.bem.current) (pending : u.pending = s.pending) (formed : v.vdu = t.vdu) :
    Formed u v xs := by
  unfold Formed NoTakeNext at *
  rwa [vdu, current, pending, formed]

theorem flushQueue_formed_of_queue {s : State} {q : List OrderRec} (h : s.oi.queue = q) (b : Bool) :
    Formed s (flushQueue b s) (q.map (·.contentFlushed b)) := h ▸ flushQueue_formed b s

theorem raiseHold_formed_of_none {s : State} (h : s.oi.station = .ready ∨ s.oi.station = .running) (c : HoldCause)
    (hc : s.ckr = none) : Formed s (raiseHold c s) (s.flushed false) := by
  have queue : (holding c s).oi.queue = s.oi.queue := by cases c <;> rfl
  rw [raiseHold_eq h, terminate_of_none (s := holding c s) hc]
  exact (flushQueue_formed_of_queue queue false).congr rfl rfl rfl (by simp)

theorem raiseHold_formed_of_some {s : State} {k : CheckRecord} (h : s.oi.station = .ready ∨ s.oi.station = .running)
    (c : HoldCause) (hk : s.ckr = some k) :
    Formed s (raiseHold c s) (k.contentEndedBy c.outcome k.flags :: s.flushed false) := by
  have queue : (terminate c.outcome id (holding c s)).oi.queue = s.oi.queue := by
    rw [terminate_oi]
    cases c <;> rfl
  have ended := terminate_formed (s := holding c s) hk c.outcome id
  have flushed := ended.trans (flushQueue_formed_of_queue queue false) (by simp) (by simp)
  rw [raiseHold_eq h]
  exact flushed.congr rfl rfl rfl (by simp)

/-- The whole part in SAFE: the station in HOLD, nothing queued, nothing in flight, the messages cleared. -/
theorem retryToSafe_leaves {s : State} (h : s.oi.station = .ready ∨ s.oi.station = .running)
    (safe : s.spu.rail = .safe) : (raiseHold .supplySafe s).spu = s.spu ∧
      (raiseHold .supplySafe s).oi = { s.oi with queue := [], station := .hold, safeHold := true } ∧
      (raiseHold .supplySafe s).ckr = none ∧ (raiseHold .supplySafe s).bem.queue = [] ∧
      (∀ n : Fin 24, (raiseHold .supplySafe s).bem.slots[n].enabled = false) ∧
      (raiseHold .supplySafe s).opu.errors = s.opu.errors :=
  ⟨raiseHold_spu_of_safe h _ safe, raiseHold_oi h _, raiseHold_ckr h _, (raiseHold_bem h _).1, (raiseHold_bem h _).2,
    raiseHold_errors h _⟩

/-! ## Claims taken (R50, R52) -/

/-- The claim that a request becomes. -/
def ClaimRequest.taken (q : ClaimRequest) (s : State) : OwnClaim :=
  ⟨q.resource, newTicket s q.resource, false, q.amount, q.requester, .notBegun, some (s.oi.rack.claimWait * 1000)⟩

theorem takeClaim_clu (q : ClaimRequest) (s : State) : (takeClaim q s).clu =
    { s.clu.setLastTicket q.resource (newTicket s q.resource) with claim := some (q.taken s) } := by
  simp [takeClaim, ClaimRequest.taken]

/-- A ticket is drawn from the view, the own last ticket and the place on the line. -/
theorem newTicket_congr {s t : State} (clu : t.clu = s.clu) (rli : t.rli = s.rli) (r : Resource) :
    newTicket t r = newTicket s r := by
  simp only [newTicket, peerClaims, livePeers, clu, rli]

theorem requestClaim_of_none {s : State} (h : s.clu.claim = none) (q : ClaimRequest) :
    requestClaim q s = takeClaim q s := by
  rw [requestClaim, h]

end Sys2Proof.Machine

namespace Sys2Proof.Certificates

open Machine

/-- Settles O40: with no check the rail alone changes; a check ends in FAULT_OFF, whose retry keeps the queue. -/
theorem supplyFaultEntersFaultOff : Obligations.SupplyFaultEntersFaultOff := by
  intro s c running hc on fault
  have spu : (enterFaultOff s).spu = fault := enterFaultOff_spu s
  have blocks : (enterFaultOff s).spu.blocksStart = true := by rw [spu]; rfl
  rw [exec_fault running hc on]
  refine ⟨fun ckr station claim deferred => ⟨_, rfl, ?_⟩, fun q ckr station claim resource requester deferred =>
    ⟨_, rfl, ?_⟩, fun k hk station => ⟨_, rfl, ?_⟩, fun rail level => ?_⟩
  · have free : releaseClaim .spu .inrush (enterFaultOff s) = enterFaultOff s :=
      releaseClaim_of_not_held (by simpa using deferred) (by simp [claim])
    rw [supplyFault, terminate_of_none (by simpa using ckr), free,
      settle_of_micro_none (micro_none_of_blocked (by simpa using ckr) blocks (by simpa using station))]
    exact ⟨spu, by simpa using ckr, by simp, by simp, by simp, by simp, by simp, by simp, enterFaultOff_bem on⟩
  · have released : releaseClaim .spu .inrush (enterFaultOff s) = removeClaim (enterFaultOff s) :=
      releaseClaim_of_held (by simpa using deferred) (by simpa using claim) requester resource
    have still := micro_none_of_blocked (s := removeClaim (enterFaultOff s)) (by simpa using ckr)
      (by simpa using blocks)
      (by simpa using station)
    rw [supplyFault, terminate_of_none (by simpa using ckr), released, settle_of_micro_none still]
    exact ⟨by simpa using spu, by simp, by simp, by simp [removeClaim_clu]⟩
  · have inFlight : (enterFaultOff s).ckr = some k := by simpa using hk
    have ended := terminate_of_some inFlight .dutFault id
    have retry : (enterFaultOff s).spu.retry = true := by rw [spu]
    have rail : (endCheck (some (k.contentEndedBy .dutFault k.flags)) (enterFaultOff s)).spu = fault := by
      rw [endCheck_spu inFlight, powerUpCancel_of_retry retry, spu]
    have slots := endCheck_slotsAlone inFlight retry (by rw [spu]; rfl) (some (k.contentEndedBy .dutFault k.flags))
    rw [supplyFault, ended, id_eq,
      settle_of_blocked (by simp) (by rw [releaseClaim_spu, rail]; rfl) (by simpa using station)]
    refine ⟨by simpa using rail, ?_, by simp [State.oiReady], by simp, ?_, fun h => ?_⟩
    · exact judged_of_vdu (by simp) (by simpa using endCheck_vdu inFlight (k.contentEndedBy .dutFault k.flags))
        (by simpa using endCheck_noisy inFlight _)
    · exact (releaseClaim_free (endCheck_frees inFlight _) .spu .inrush).no_claim
    · rw [State.setOi_bem, releaseClaim_bem, slots]
      exact enterFaultOff_bem on h
  · change execShort s = _
    have never : s.spu.shortPossible = false := by
      simp only [Spu.shortPossible, rail]
      simp
      omega
    rw [execShort, act_of_running running, never, Bool.and_false]
    rfl

/-- Settles O41: SUPPLY_SAFE is raised behind the report of DUT_FAULT, or ends the check itself. -/
theorem overvoltageEntersSafe : Obligations.OvervoltageEntersSafe := by
  intro s running on station safe
  let u := enterSafe s
  have ready : u.oi.station = .ready ∨ u.oi.station = .running := by simpa [u] using station
  have spu : u.spu = s.spu.safe := enterSafe_spu s
  have formed {t : State} {xs : List VerdictContent} (h : Formed u t xs) : Formed s t xs :=
    h.congr (by simp [u]) (by simp [u]) (by simp [u]) rfl
  have flushed : u.flushed false = s.flushed false := by simp [State.flushed, u]
  have queue (h : s.oi.queue = []) : u.oi.queue = [] := by simpa [u] using h
  have safety (v : State) (hs : v.spu = u.spu) (ho : v.oi = u.oi) (he : v.opu.errors = u.opu.errors) :
      safe (raiseHold .supplySafe v) := by
    have rail : v.spu.rail = .safe := by rw [hs, spu]; rfl
    obtain ⟨rail, oi, ckr, sent, cleared, errors⟩ := retryToSafe_leaves (s := v) (by rwa [ho]) rail
    exact ⟨rail.trans (hs.trans spu), by rw [oi, ho, enterSafe_oi], ckr, sent, cleared,
      errors.trans (he.trans (enterSafe_errors s))⟩
  have noCheck (hc : s.ckr = none) : exec .overvoltage s = .next (raiseHold .supplySafe u) := by
    change execOvervoltage s = _
    rw [execOvervoltage, act_of_running running, if_pos on, if_neg (by simp [hc]), settle_raiseHold ready]
  have chosen (k : CheckRecord) (hk : s.ckr = some k) : exec .overvoltage s = .next (raiseHold .supplySafe
      (if Config.firstTaken u.choices then terminate .dutFault id (u.setChoices (u.choices + 1))
        else u.setChoices (u.choices + 1))) := by
    change execOvervoltage s = _
    rw [execOvervoltage, act_of_running running, if_pos on, if_pos (by simp [hk])]
    dsimp only [takeFirst]
    rw [settle_raiseHold]
    split <;> simpa [u] using ready
  let v := u.setChoices (u.choices + 1)
  have ended (k : CheckRecord) (hk : s.ckr = some k) : (terminate .dutFault id v).spu = u.spu := by
    have inFlight : v.ckr = some k := by simpa [v, u] using hk
    rw [terminate_of_some inFlight, endCheck_spu inFlight]
    exact (powerUpCancel_cancelled v).2.2 (.inr (by rw [State.setChoices_spu, spu]; exact ⟨nofun, nofun⟩))
  have readyEnded : (terminate .dutFault id v).oi.station = .ready ∨
      (terminate .dutFault id v).oi.station = .running := by simpa [v] using ready
  have inFlight (k : CheckRecord) (hk : s.ckr = some k) : v.ckr = some k := by simpa [v, u] using hk
  refine ⟨fun hc => ⟨_, noCheck hc, ?_⟩, fun k hk => ⟨_, chosen k hk, ?_⟩, fun k hk alone => ⟨_, chosen k hk, ?_⟩⟩
  · have none : u.ckr = none := by simpa [u] using hc
    exact ⟨safety u rfl rfl rfl, formed (flushed ▸ raiseHold_formed_of_none ready _ none), fun empty =>
      (raiseHold_vdu_of_none ready _ none (queue empty)).1.trans (by simp [u])⟩
  · split
    · have reported := terminate_formed (inFlight k hk) .dutFault id
      have left : (terminate .dutFault id v).flushed false = s.flushed false := by simp [State.flushed, v, u]
      have flushes := raiseHold_formed_of_none readyEnded .supplySafe (terminate_ckr _ _ _)
      rw [left] at flushes
      exact ⟨safety _ (ended k hk) (by simp) (by simp),
        .inl (formed ((reported.trans flushes (by simp) (by simp)).congr rfl rfl rfl rfl))⟩
    · have raised := raiseHold_formed_of_some (s := v) ready .supplySafe (inFlight k hk)
      exact ⟨safety v rfl rfl rfl, .inr (formed (flushed ▸ raised.congr rfl rfl rfl rfl))⟩
  · split
    · have silence := raiseHold_vdu_of_none readyEnded .supplySafe (terminate_ckr _ _ _)
        (by simpa [v] using queue alone)
      have reported := terminate_of_some (inFlight k hk) .dutFault id
      refine ⟨safety _ (ended k hk) (by simp) (by simp), .inl (judged_of_vdu (raiseHold_ckr readyEnded _) ?_ ?_)⟩
      · rw [silence.1, reported, endCheck_vdu (inFlight k hk)]
        simp [v, u]
      · rw [silence.2, reported, endCheck_noisy (inFlight k hk)]
    · have judged := judged_raiseHold (s := v) ready .supplySafe (inFlight k hk) (queue alone)
      exact ⟨safety v rfl rfl rfl, .inr (judged.of_same (by simp [v, u]) (by simp [v, u]))⟩

/-- Settles O42: below the limit the retry's own claim is taken, and the retry flag keeps the queue. -/
theorem retryTimersExpire : Obligations.RetryTimersExpire := by
  intro s running
  refine ⟨fun n rail timer retry ckr station claim => ?_, fun n hn => ?_⟩
  · have due : s.spu.rail = .faultOff ∧ s.spu.offTimer.isSome = true := ⟨rail, by simp [timer]⟩
    have quiet : s.spu.rail.transmits = false := by rw [rail]; rfl
    refine ⟨fun below => ?_, fun limit => ?_⟩
    · let u := railTo .waitInrush (s.setSpu { s.spu with offTimer := none, retryCount := s.spu.retryCount + 1 })
      let q : ClaimRequest := ⟨.inrush, u.oi.rack.inrush, .spu⟩
      have spu : u.spu = { s.spu.sourceOff .waitInrush with offTimer := none, retryCount := s.spu.retryCount + 1 } :=
        railTo_spu_of_off rfl _
      have bem : u.bem = s.bem := by
        simp only [u, railTo_of_not_transmits (s := s.setSpu { s.spu with
          offTimer := none, retryCount := s.spu.retryCount + 1 }) quiet, State.setSpu_bem]
      have blocked : micro (takeClaim q u) = none := by
        refine micro_none_of_blocked (by simpa [u] using ckr) ?_ (by simp [u, station])
        rw [takeClaim_spu, spu]
        simp [Spu.blocksStart, Spu.sourceOff, retry]
      have run : exec .offTimerExpiry s = .next (takeClaim q u) := by
        change execOffTimerExpiry s = _
        rw [execOffTimerExpiry, act_of_running running, if_pos due]
        refine congrArg _ ((if_pos below).trans ?_)
        rw [← settle_of_micro_none blocked, ← requestClaim_of_none (by simpa [u] using claim)]
        rfl
      have ticket : newTicket u .inrush = newTicket s .inrush := newTicket_congr (by simp [u]) (by simp [u]) .inrush
      refine ⟨_, run, by rw [takeClaim_spu, spu], ?_, ?_, by simp [u], by simp [u], by simpa [u] using ckr, by simp [u],
        by rw [takeClaim_bem, bem]⟩
      · simp [takeClaim_clu, ClaimRequest.taken, q, ticket, u]
      · simp [takeClaim_clu, q, ticket, Clu.setLastTicket]
    · let v := s.setSpu { s.spu with offTimer := none }
      have ready : (enterSafe v).oi.station = .ready ∨ (enterSafe v).oi.station = .running :=
        .inl (by simpa [v] using station)
      have spu : (enterSafe v).spu = s.spu.safe := enterSafe_spu v
      have run : exec .offTimerExpiry s = .next (raiseHold .supplySafe (enterSafe v)) := by
        change execOffTimerExpiry s = _
        rw [execOffTimerExpiry, act_of_running running, if_pos due]
        exact congrArg _ ((if_neg (Nat.not_lt.mpr limit)).trans (settle_raiseHold ready .supplySafe))
      obtain ⟨rail, oi, none, -, -, -⟩ := retryToSafe_leaves ready (by rw [spu]; rfl)
      have formed := raiseHold_formed_of_none ready .supplySafe (by simpa [v] using ckr)
      refine ⟨_, run, rail.trans spu, by rw [oi, enterSafe_oi]; rfl, none, ?_⟩
      have flushed : (enterSafe v).flushed false = s.flushed false := by simp [State.flushed, v]
      exact flushed ▸ formed.congr (by simp [v]) (by simp [v]) (by simp [v]) rfl
  · change execRecoveryTimerExpiry s = _
    rw [execRecoveryTimerExpiry, act_of_running running, if_pos (by simp [hn])]

end Sys2Proof.Certificates
end
section
/-! The range timer, and the current and sound windows (R81, R147, R156 to R159, R165). -/

namespace Sys2Proof.Machine

/-! ## The range timer (R147) -/

theorem discardBlock_of_takes {s : State} {n : Fin 8} (h : s.ltu[n].state.TakesBlocks) :
    discardBlock s n = s.setArrived (s.arrived.filter fun e => !Instr.ofChannel n e) := by
  have takes : takesBlocks s n = true := by
    rw [takesBlocks, channelAt_fin]
    rcases h with h | h <;> rw [h] <;> rfl
  rw [discardBlock, if_pos takes]
  rfl

/-- A channel at its range timer's expiry: the block and the samples of it that wait are gone. -/
theorem exec_rangeTimerExpiry {s : State} {n : Fin 8} {m : Nat} (running : s.resetHeld = false)
    (timer : s.ltu[n].rangeTimer = some m) (h : s.ltu[n].state.TakesBlocks) {c : LightChannel} {b : Bool}
    (expired : s.ltu[n].rangeExpiry = (c, b)) : exec (.rangeTimerExpiry n) s = .next
      (let s1 := (s.setLtu (s.ltu.setIfInBounds n c)).setArrived (s.arrived.filter fun e => !Instr.ofChannel n e)
      if b then settle (reportMeasurement (fun k => { k with gain := some s.ltu[n].gain }.unmeasured .unranged) s1)
      else s1) := by
  change execRangeTimerExpiry n s = _
  rw [execRangeTimerExpiry, act_of_running running]
  simp only [channelAt_fin, timer, expired, discardBlock_of_takes h, Option.isSome_some, if_true]
  rfl

/-- A prompt is asked of the OPU and of the claim unit alone. -/
theorem Prompted.of_same {s u t : State} {k : CheckRecord} {p : Prompt} (h : Prompted u t k p) (rli : u.rli = s.rli)
    (oi : u.oi = s.oi) (clu : u.clu = s.clu) (opu : u.opu = s.opu) (vdu : u.vdu = s.vdu) (spu : u.spu = s.spu)
    (bem : u.bem = s.bem) : Prompted s t k p := by
  have ticket := newTicket_congr clu rli .operator
  have claims : peerClaims u .operator = peerClaims s .operator := by simp only [peerClaims, livePeers, clu, rli]
  have order : ahead u = ahead s := by
    funext c p
    simp only [ahead, rli]
  rwa [Prompted, ticket, claims, order, rli, oi, clu, opu, vdu, spu, bem] at h

/-! ## A current window sample by sample (R156) -/

/-- Current samples taken into a window. -/
def Csu.tookCurrent (c : Csu) (xs : List Nat) : Csu :=
  { c with currentSum := c.currentSum + xs.sum, count := c.count + xs.length }

theorem Csu.tookCurrent_cons (c : Csu) (x : Nat) (xs : List Nat) :
    c.tookCurrent (x :: xs) = (c.tookCurrent [x]).tookCurrent xs := by
  simp [tookCurrent, Nat.add_assoc, Nat.add_comm xs.length]

theorem Csu.currentSample_of_partial {c : Csu} (h : c.window = .current) (more : c.count + 1 < c.length) (x : Nat) :
    c.currentSample x = (c.tookCurrent [x], none) := by
  simp [currentSample, h, tookCurrent, Nat.not_le.mpr more]

theorem Csu.currentSample_of_last {c : Csu} (h : c.window = .current) (last : c.count + 1 = c.length) (x : Nat) :
    c.currentSample x = (c.toIdle, some (roundHalfUp (c.currentSum + x) c.length)) := by
  simp [currentSample, h, mean, toIdle, last]

theorem Csu.currentSamples_of_partial {xs : List Nat} : ∀ {c : Csu}, c.window = .current →
    c.count + xs.length < c.length → c.currentSamples xs = (c.tookCurrent xs, none) := by
  induction xs with
  | nil => exact fun _ _ => rfl
  | cons x xs ih =>
    intro c h more
    rw [List.length_cons] at more
    rw [currentSamples, currentSample_of_partial h (by omega)]
    exact (ih (c := c.tookCurrent [x]) h (by simp only [tookCurrent, List.length_singleton]; omega)).trans
      (by rw [tookCurrent_cons c x xs])

theorem Csu.currentSamples_of_whole {xs : List Nat} (some_ : xs ≠ []) : ∀ {c : Csu}, c.window = .current →
    c.count + xs.length = c.length →
    c.currentSamples xs = (c.toIdle, some (roundHalfUp (c.currentSum + xs.sum) c.length)) := by
  induction xs with
  | nil => exact absurd rfl some_
  | cons x xs ih =>
    intro c h last
    rw [List.length_cons] at last
    rw [currentSamples]
    cases xs with
    | nil => rw [currentSample_of_last h last]; simp
    | cons y ys =>
      rw [List.length_cons] at last
      rw [currentSample_of_partial h (by omega)]
      refine (ih (List.cons_ne_nil y ys) (c := c.tookCurrent [x]) h ?_).trans ?_
      · simp only [tookCurrent, List.length_cons, List.length_nil]; omega
      · simp [tookCurrent, toIdle, Nat.add_assoc]

theorem exec_currentWindowComplete_of_none {s : State} {xs : List Nat} {c : Csu} (running : s.resetHeld = false)
    (h : s.csu.currentSamples xs = (c, none)) : exec (.currentWindowComplete xs) s = .next (s.setCsu c) := by
  change execCurrentWindowComplete xs s = _
  rw [execCurrentWindowComplete, act_of_running running]
  simp only [h]

theorem exec_currentWindowComplete_of_some {s : State} {xs : List Nat} {c : Csu} {v : Nat}
    (running : s.resetHeld = false) (h : s.csu.currentSamples xs = (c, some v)) :
    exec (.currentWindowComplete xs) s = .next (settle (reportMeasurement (·.measured v) (s.setCsu c))) := by
  change execCurrentWindowComplete xs s = _
  rw [execCurrentWindowComplete, act_of_running running]
  simp only [h]

/-! ## A sound sample (R157 to R159) -/

theorem Csu.detect_count (c : Csu) (x : Nat) : (c.detect x).count = c.count + 1 := by
  unfold detect
  dsimp only
  split
  · next first => rw [first]
  · split <;> split <;> rfl

theorem Csu.detect_idle (c : Csu) (x : Nat) : (c.detect x).toIdle = c.toIdle := by
  unfold detect toIdle
  dsimp only
  split
  · rfl
  · split <;> split <;> rfl

theorem Csu.detect_length (c : Csu) (x : Nat) : (c.detect x).length = c.length := by
  unfold detect
  dsimp only
  split
  · rfl
  · split <;> split <;> rfl

/-! The four cases of the detector (R157, R158). -/

theorem Csu.detect_of_first {c : Csu} (h : c.count = 0) (x : Nat) :
    c.detect x = { c with count := 1, armed := decide (x < c.rearm), peak := x } := if_pos h

theorem Csu.detect_of_counted {c : Csu} {x : Nat} (h : c.count ≠ 0) (armed : c.armed = true)
    (reached : c.threshold ≤ x) : c.detect x = { c with
      count := c.count + 1, peak := max c.peak x, tones := c.tones + 1, armed := false } :=
  (if_neg h).trans ((if_pos armed).trans (if_pos reached))

theorem Csu.detect_of_below {c : Csu} {x : Nat} (h : c.count ≠ 0) (armed : c.armed = true) (below : x < c.threshold) :
    c.detect x = { c with count := c.count + 1, peak := max c.peak x } :=
  (if_neg h).trans ((if_pos armed).trans (if_neg (Nat.not_le.mpr below)))

theorem Csu.detect_of_unarmed {c : Csu} (h : c.count ≠ 0) (unarmed : c.armed = false) (x : Nat) :
    c.detect x = { c with count := c.count + 1, peak := max c.peak x, armed := decide (x < c.rearm) } := by
  refine (if_neg h).trans ((if_neg (ne_true_of_eq_false unarmed)).trans ?_)
  split
  · next low => simp [low]
  · next high => simp [high, unarmed]

/-- The tones after a sample: one more where the armed detector reaches the threshold. -/
theorem Csu.detect_tones {c : Csu} {x tones : Nat}
    (h : ((c.count ≠ 0 ∧ c.armed = true ∧ c.threshold ≤ x) ∧ tones = c.tones + 1) ∨
      (¬ (c.count ≠ 0 ∧ c.armed = true ∧ c.threshold ≤ x) ∧ tones = c.tones)) : (c.detect x).tones = tones := by
  rcases h with ⟨⟨later, armed, reached⟩, rfl⟩ | ⟨uncounted, rfl⟩
  · rw [detect_of_counted later armed reached]
  · by_cases first : c.count = 0
    · rw [detect_of_first first]
    · cases armed : c.armed with
      | false => rw [detect_of_unarmed first armed]
      | true => rw [detect_of_below first armed (Nat.lt_of_not_le fun reached => uncounted ⟨first, armed, reached⟩)]

theorem Csu.detect_peak (c : Csu) (x : Nat) : (c.detect x).peak = if c.count = 0 then x else max c.peak x := by
  unfold detect
  dsimp only
  split
  · rfl
  · split <;> split <;> rfl

theorem Csu.soundSample_of_partial {c : Csu} (h : c.window = .sound) (more : c.count + 1 < c.length) (x : Code) :
    c.soundSample x = (c.detect x.toNat, none) := by
  simp [soundSample, h, detect_count, detect_length, Nat.not_le.mpr more]

theorem Csu.soundSample_of_last {c : Csu} (h : c.window = .sound) (last : c.count + 1 = c.length) (x : Code) :
    c.soundSample x = (c.toIdle, some ((c.detect x.toNat).tones, (c.detect x.toNat).peak)) := by
  simp [soundSample, h, detect_count, detect_length, detect_idle, last]

theorem Csu.soundSamples_singleton (c : Csu) (x : Code) : c.soundSamples [x] = c.soundSample x := by
  rw [soundSamples]
  rcases c.soundSample x with ⟨c1, _ | r⟩ <;> rfl

theorem exec_soundWindowComplete_of_none {s : State} {xs : List Code} {c : Csu} (running : s.resetHeld = false)
    (h : s.csu.soundSamples xs = (c, none)) : exec (.soundWindowComplete xs) s = .next (s.setCsu c) := by
  change execSoundWindowComplete xs s = _
  rw [execSoundWindowComplete, act_of_running running]
  simp only [h]

theorem exec_soundWindowComplete_of_some {s : State} {xs : List Code} {c : Csu} {v : Nat × Nat}
    (running : s.resetHeld = false) (h : s.csu.soundSamples xs = (c, some v)) :
    exec (.soundWindowComplete xs) s = .next (settle (soundReport v.1 v.2 (s.setCsu c))) := by
  change execSoundWindowComplete xs s = _
  rw [execSoundWindowComplete, act_of_running running]
  simp only [h]

end Sys2Proof.Machine

namespace Sys2Proof.Certificates

open Machine

/-- Settles O48: in RANGING the report ends the check, in LOCKED the window begins. -/
theorem rangeTimerExpiry : Obligations.RangeTimerExpiry := by
  intro s n m running timer c with_ unread held
  have unranged (ranging : c.state = .ranging) : c.rangeExpiry = (held, true) := by
    simp [LightChannel.rangeExpiry, ranging, LightChannel.newBlock, held]
  refine ⟨fun ranging rest => ?_, fun k ranging ⟨inFlight, alone, busy⟩ stage waits => ?_, fun locked => ?_⟩
  · rw [exec_rangeTimerExpiry running timer (.inl ranging) (unranged ranging)]
    have dropped (f : CheckRecord → CheckRecord) (t : State) (h : t.ckr = none) : reportMeasurement f t = t := by
      rw [reportMeasurement, updateCheck, h, Option.map_none, ← h, State.setCkr_self]
    obtain ⟨none, rest⟩ := rest
    rw [if_pos rfl, dropped _ _ (by exact none)]
    exact congrArg _ (settle_of_still (.inl ⟨none, rest⟩))
  · let t := (with_ held).setArrived unread
    let k1 := { k with gain := some c.gain }.unmeasured .unranged
    have runs : RunsAlone (t.setCkr (some k1)) k1 := ⟨rfl, alone, busy⟩
    obtain ⟨record, ready, channels, -, -⟩ := settle_judging_leaves runs rfl
    refine ⟨settle (t.setCkr (some k1)), ?_, channels, ready, ?_, record⟩
    · rw [exec_rangeTimerExpiry running timer (.inl ranging) (unranged ranging)]
      exact congrArg (fun u => Host.Outcome.next (settle u))
        (reportMeasurement_of_measures (s := t) _ inFlight ⟨stage, waits⟩)
    · rw [settle_of_judging runs rfl, endCheck_of_judging rfl rfl]
      simp [t]
  · have expired : c.rangeExpiry = ({ c with
        state := .window, rangeTimer := none, blockSum := 0, blockCount := 0, blockSaturated := false
        sum := 0, count := 0, saturated := false }, false) := by
      simp [LightChannel.rangeExpiry, locked, LightChannel.newBlock, LightChannel.newWindow]
    rw [exec_rangeTimerExpiry running timer (.inr locked) expired]
    rfl

/-- Settles O51: the samples by the cases of the detector and of the sum; the report leaves the check in JUDGING or in
PROMPTING. -/
theorem currentAndSoundWindows : Obligations.CurrentAndSoundWindows := by
  intro s running idle
  refine ⟨?_, ?_⟩
  · intro xs window some_ sum
    refine ⟨fun more => exec_currentWindowComplete_of_none running (Csu.currentSamples_of_partial window more), ?_⟩
    intro k q v whole ⟨inFlight, alone, busy⟩ measures hq verdict
    have report : s.csu.currentSamples xs = (idle, some q) :=
      (Csu.currentSamples_of_whole some_ window whole).trans (by rw [roundHalfUp_eq hq]; rfl)
    rw [exec_currentWindowComplete_of_some running report,
      reportMeasurement_of_measures (s := s.setCsu idle) _ inFlight measures]
    refine ⟨fun ⟨_, last⟩ => ?_, fun p asks passed => ?_⟩
    · rw [CheckRecord.measured_of_last verdict last]
      obtain ⟨record, ready, -, csu, opu⟩ := settle_judging_leaves
        (s := (s.setCsu idle).setCkr (some ({ k with value := some (q : Int) }.withVerdict v .judging)))
        ⟨rfl, alone, busy⟩ rfl
      exact ⟨_, rfl, csu, ready, opu, record⟩
    · subst passed
      rw [CheckRecord.measured_of_prompt verdict asks]
      let k1 := { k with value := some (q : Int) }.withVerdict .pass .prompting
      refine ⟨_, congrArg _ (settle_of_prompting (k := k1) rfl asks), ?_,
        (prompted_of_requested (k := k1) rfl p).of_same rfl rfl rfl rfl rfl rfl rfl⟩
      rw [promptHandover_csu, requestClaim_csu]
      rfl
  · intro x window next peak counted
    refine ⟨fun more => ?_, fun k tones v whole ⟨inFlight, alone, busy⟩ ⟨measures, last⟩ ht verdict => ?_⟩
    · have sampled {c : Csu} (h : s.csu.detect x.toNat = c) : next c := exec_soundWindowComplete_of_none running
        ((Csu.soundSamples_singleton s.csu x).trans ((Csu.soundSample_of_partial window more x).trans (by rw [h])))
      exact ⟨fun first => sampled (Csu.detect_of_first first _),
        fun ⟨later, armed, reached⟩ => sampled (Csu.detect_of_counted later armed reached),
        fun later armed below => sampled (Csu.detect_of_below later armed below),
        fun later unarmed => sampled (Csu.detect_of_unarmed later unarmed _)⟩
    · have report : s.csu.soundSamples [x] = (idle, some (tones, if s.csu.count = 0 then x.toNat else peak)) := by
        rw [Csu.soundSamples_singleton, Csu.soundSample_of_last window whole, Csu.detect_tones ht, Csu.detect_peak]
        rfl
      let u := releaseClaim .ckr .quiet (s.setCsu idle)
      let k1 := { k with
        aux := some (if s.csu.count = 0 then x.toNat else peak), value := some (tones : Int) }.withVerdict v .judging
      have runs : RunsAlone (u.setCkr (some k1)) k1 := ⟨rfl, by simpa [u] using alone, by simpa [u] using busy⟩
      have measured : reportMeasurement (fun c => { c with
          aux := some (if s.csu.count = 0 then x.toNat else peak) }.measured tones) u = u.setCkr (some k1) := by
        rw [reportMeasurement_of_measures (s := u) (k := k) _ (by simpa [u] using inFlight) measures]
        exact congrArg (fun c => u.setCkr (some c)) (CheckRecord.measured_of_last (k := { k with
          aux := some (if s.csu.count = 0 then x.toNat else peak) }) verdict last)
      obtain ⟨record, ready, -, csu, -⟩ := settle_judging_leaves runs rfl
      refine ⟨settle (u.setCkr (some k1)), ?_, csu.trans (by simp [u]), ready.trans (by simp [State.oiReady, u]), ?_,
        record.of_same (by simp [u]) (by simp [u])⟩
      · rw [exec_soundWindowComplete_of_some running report, soundReport, measured]
      · rw [settle_of_judging runs rfl]
        exact ((endCheck_frees (s := u.setCkr (some k1)) rfl (some k1.judgedContent)).of_clu rfl rfl).no_claim

end Sys2Proof.Certificates
end
section
/-! The rail's profiles and their ends (R71, R94 to R101, R107, R109), and the messages that fall due together when the
rail comes ON or the bus wakes (R117 to R119, R127). -/

namespace Sys2Proof.Machine

/-! ## Slots that fall due together (R117, R118) -/

/-- The slots of a list that the test picks fall due, in order. -/
def dueAll (test : MessageSlot → Bool) (l : List (Fin 24)) (s : State) : State :=
  l.foldl (fun s (n : Fin 24) => if test s.bem.slots[n] then fallDue n s else s) s

theorem dueAll_cons (test : MessageSlot → Bool) (n : Fin 24) (l : List (Fin 24)) (s : State) :
    dueAll test (n :: l) s = dueAll test l (if test s.bem.slots[n] then fallDue n s else s) := rfl

theorem foldl_slots (f : State → Nat → State) (s : State) :
    (List.range 24).foldl f s = (List.finRange 24).foldl (fun s (n : Fin 24) => f s n) s := by
  rw [← List.map_coe_finRange_eq_range, List.foldl_map]

theorem zeroDue_eq (s : State) : zeroDue s = dueAll (fun m => m.phase == 0) (List.finRange 24) s := by
  rw [zeroDue, foldl_slots, dueAll]
  simp only [slotAt_fin, beq_iff_eq]

theorem allEventDue_eq (s : State) : allEventDue s = dueAll (fun m => m.period == 0) (List.finRange 24) s := by
  rw [allEventDue, foldl_slots, dueAll]
  simp only [eventDue, slotAt_fin, beq_iff_eq]

theorem snapshot_bus (n : Fin 24) (s : State) : (snapshot n s).bem =
    { s.bem with queue := (snapshot n s).bem.queue, slots := (snapshot n s).bem.slots } := by
  rw [snapshot_eq_enqueue]
  by_cases h : waitsInQueue s n = true
  · rw [enqueue_of_waits h]
    rfl
  · rw [enqueue_of_not_waits h]
    rfl

/-- What slots of a list that fall due leave: each that may transmit gives a snapshot, everything else stays. -/
structure DueOf (test : MessageSlot → Bool) (l : List (Fin 24)) (s t : State) : Prop where
  bus : t.bem = { s.bem with queue := t.bem.queue, slots := t.bem.slots }
  spu : t.spu = s.spu
  noted : BusNoted s t
  others : ∀ n : Fin 24, n ∉ l → t.bem.slots[n] = s.bem.slots[n]
  waiting : ∀ x ∈ s.bem.queue, (∀ n ∈ l, x.slot ≠ n.val) → x ∈ t.bem.queue
  due : ∀ n ∈ l, test s.bem.slots[n] = true → canSnapshot s s.bem.slots[n] = true →
    snapshotInstance s n ∈ t.bem.queue ∧ t.bem.slots[n].payload = snapshotPayload s.bem.slots[n]

theorem DueOf.nil (test : MessageSlot → Bool) (s : State) : DueOf test [] s s where
  bus := rfl
  spu := rfl
  noted := .of_eq rfl
  others _ _ := rfl
  waiting _ hx _ := hx
  due _ hn := absurd hn List.not_mem_nil

/-- One slot falls due. -/
theorem dueOf_one (test : MessageSlot → Bool) (n : Fin 24) (s : State) :
    DueOf test [n] s (if test s.bem.slots[n] then fallDue n s else s) := by
  have still : ¬ (test s.bem.slots[n] = true ∧ canSnapshot s s.bem.slots[n] = true) → DueOf test [n] s s := fun not =>
    { DueOf.nil test s with
      others := fun _ _ => rfl
      waiting := fun _ hx _ => hx
      due := fun m hm chosen can => by
        obtain rfl := List.mem_singleton.mp hm
        exact absurd ⟨chosen, can⟩ not }
  by_cases chosen : test s.bem.slots[n] = true
  · by_cases can : canSnapshot s s.bem.slots[n] = true
    · rw [if_pos chosen, fallDue, slotAt_fin, if_pos can]
      have own : ∀ m ∈ [n], m = n := fun m hm => List.mem_singleton.mp hm
      refine ⟨snapshot_bus n s, snapshot_spu n s, ?_, fun m hm => ?_, fun x hx other => ?_, fun m hm _ _ => ?_⟩
      · rw [snapshot_eq_enqueue]
        exact (BusNoted.of_eq rfl).trans (enqueue_busNoted _ _)
      · rw [snapshot_bem_slots, if_neg (by rintro rfl; exact hm (List.mem_singleton_self _))]
      · exact mem_snapshot.mpr (.inr ⟨hx, other n (List.mem_singleton_self n)⟩)
      · obtain rfl := own m hm
        exact ⟨mem_snapshot.mpr (.inl rfl), by rw [snapshot_bem_slots, if_pos rfl]⟩
    · rw [if_pos chosen, fallDue, slotAt_fin, if_neg can]
      exact still fun h => can h.2
  · rw [if_neg chosen]
    exact still fun h => chosen h.1

theorem DueOf.trans {test : MessageSlot → Bool} {n : Fin 24} {l : List (Fin 24)} {s t u : State} (new : n ∉ l)
    (h : DueOf test [n] s t) (h' : DueOf test l t u) : DueOf test (n :: l) s u := by
  have other : ∀ m ∈ l, m ∉ [n] := fun m hm same => new (List.mem_singleton.mp same ▸ hm)
  have can (m : MessageSlot) : canSnapshot t m = canSnapshot s m := by
    rw [canSnapshot, canSnapshot, h.spu, h.bus]
  refine ⟨?_, h'.spu.trans h.spu, h.noted.trans h'.noted, fun m hm => ?_, fun x hx away => ?_,
    fun m hm chosen may => ?_⟩
  · rw [h'.bus, h.bus]
  · have ⟨first, rest⟩ : m ∉ [n] ∧ m ∉ l := by simpa using hm
    exact (h'.others m rest).trans (h.others m first)
  · exact h'.waiting x (h.waiting x hx fun m hm => away m (by simp [List.mem_singleton.mp hm])) fun m hm =>
      away m (List.mem_cons_of_mem _ hm)
  · rcases List.mem_cons.mp hm with rfl | later
    · obtain ⟨queued, payload⟩ := h.due m (List.mem_singleton_self m) chosen may
      refine ⟨h'.waiting _ queued fun i hi same => new (Fin.ext same ▸ hi), ?_⟩
      rw [h'.others m new, payload]
    · have same := h.others m (other m later)
      have result := h'.due m later (by rwa [same]) (by rwa [same, can])
      simp only [snapshotInstance, same] at result
      exact result

theorem dueOf_dueAll (test : MessageSlot → Bool) {l : List (Fin 24)} (h : l.Nodup) (s : State) :
    DueOf test l s (dueAll test l s) := by
  induction l generalizing s with
  | nil => exact DueOf.nil test s
  | cons n l ih =>
    obtain ⟨new, rest⟩ := List.nodup_cons.mp h
    exact (dueOf_one test n s).trans new (ih rest _)

/-- Where no slot may transmit, nothing falls due. -/
theorem dueAll_of_none {test : MessageSlot → Bool} {s : State} (h : ∀ n : Fin 24, canSnapshot s s.bem.slots[n] = false)
    (l : List (Fin 24)) : dueAll test l s = s := by
  induction l with
  | nil => rfl
  | cons n l ih =>
    have none : fallDue n s = s := by rw [fallDue, slotAt_fin, if_neg (ne_true_of_eq_false (h n))]
    rw [dueAll_cons, none, ite_self, ih]

/-! ## The arrival at ON (R95 to R97, R117) -/

theorem arriveOn_of_on {s : State} (h : s.spu.rail.outputOn = true) : arriveOn s = s.setSpu s.spu.arrived := by
  rw [← arriveOn_spu_of_on h, arriveOn_eq]
  rfl

/-- The part at the schedule's zero, no slot fallen due yet. -/
def busStarted (s : State) : State :=
  (s.setSpu { s.spu.arrived with recovery := some 1000 }).setBem
    { s.bem with schedule := some 0, silent := false, unacked := 0 }

theorem rampArrive_eq {s : State} (h : s.spu.rail.outputOn = true) :
    rampArrive s = dueAll (fun m => m.phase == 0) (List.finRange 24) (busStarted s) := by
  rw [← zeroDue_eq, rampArrive, arriveOn_of_on h]
  rfl

/-- What the arrival of a ramp leaves on the bus, in the words of the claims. -/
structure OnTheBus (s t : State) : Prop where
  schedule : t.bem.schedule = some 0
  silent : t.bem.silent = false
  unacked : t.bem.unacked = 0
  captures : t.bem.captures = s.bem.captures
  current : t.bem.current = s.bem.current
  sending : t.bem.sending = s.bem.sending
  quiet : (∀ n : Fin 24, s.bem.slots[n].enabled = false) → t.bem.queue = s.bem.queue ∧ t.bem.slots = s.bem.slots
  due : ∀ n : Fin 24, s.bem.slots[n].defined = true → s.bem.slots[n].enabled = true → s.bem.slots[n].phase = 0 →
    ∃ x ∈ t.bem.queue, x.slot = n.val ∧ x.id = s.bem.slots[n].id ∧ x.len = s.bem.slots[n].len ∧
      t.bem.slots[n].payload = x.payload ∧ (s.bem.slots[n].Proper → SnapshotOf s.bem.slots[n] x.payload)

theorem onTheBus_rampArrive {s t : State} (h : s.spu.rail.outputOn = true) (ht : t.bem = (rampArrive s).bem) :
    OnTheBus s t := by
  have all := dueOf_dueAll (fun m => m.phase == 0) (List.nodup_finRange 24) (busStarted s)
  rw [← rampArrive_eq h] at all
  have on (m : MessageSlot) (defined : m.defined = true) (enabled : m.enabled = true) :
      canSnapshot (busStarted s) m = true := canSnapshot_iff.mpr ⟨defined, enabled, rfl, .inl rfl⟩
  have bus := all.bus
  rw [← ht] at bus
  refine ⟨by rw [bus]; rfl, by rw [bus]; rfl, by rw [bus]; rfl, by rw [bus]; rfl, by rw [bus]; rfl, by rw [bus]; rfl,
    fun off => ?_, fun n defined enabled phase => ?_⟩
  · have none : ∀ n : Fin 24, canSnapshot (busStarted s) (busStarted s).bem.slots[n] = false := fun n =>
      Bool.eq_false_of_not_eq_true fun can => by
        obtain ⟨-, enabled, -⟩ := canSnapshot_iff.mp can
        exact nomatch (off n).symm.trans enabled
    rw [ht, rampArrive_eq h, dueAll_of_none none]
    exact ⟨rfl, rfl⟩
  · obtain ⟨queued, payload⟩ := all.due n (List.mem_finRange n) (beq_iff_eq.mpr phase) (on _ defined enabled)
    rw [ht]
    exact ⟨_, queued, rfl, rfl, rfl, payload, fun proper => snapshotOf_snapshotPayload proper⟩

theorem rampArrive_ckr {s : State} {k : CheckRecord} (h : s.spu.rail.outputOn = true) (hk : s.ckr = some k) :
    ∃ late, (rampArrive s).ckr = some (k.noted late) := by
  obtain ⟨late, noted⟩ :=
    (dueOf_dueAll (fun m => m.phase == 0) (List.nodup_finRange 24) (busStarted s)).noted
  rw [← rampArrive_eq h] at noted
  have same : (busStarted s).ckr = some k := hk
  exact ⟨late, noted.trans (by rw [same, Option.map_some])⟩

theorem rampArrive_ckr_of_none {s : State} (h : s.spu.rail.outputOn = true) (hc : s.ckr = none) :
    (rampArrive s).ckr = none := by
  obtain ⟨late, noted⟩ :=
    (dueOf_dueAll (fun m => m.phase == 0) (List.nodup_finRange 24) (busStarted s)).noted
  rw [← rampArrive_eq h] at noted
  have same : (busStarted s).ckr = none := hc
  exact noted.trans (by rw [same, Option.map_none])

theorem rampDone_of_check {s : State} (h : (rampArrive s).spu.retry = false) :
    rampDone s = reportOn true (rampArrive s) := by
  unfold rampDone
  dsimp only
  rw [if_neg (ne_true_of_eq_false h)]

theorem rampDone_of_retry {s : State} (h : (rampArrive s).spu.retry = true) : rampDone s =
    (releaseClaim .spu .inrush (rampArrive s)).setSpu { (rampArrive s).spu with retry := false } := by
  unfold rampDone
  dsimp only
  rw [if_pos h, releaseClaim_spu]

theorem exec_rampComplete {s : State} (running : s.resetHeld = false) (h : s.spu.rail = .ramping) :
    exec .rampComplete s = .next (settle (rampDone s)) := by
  change execRampComplete s = _
  rw [execRampComplete, act_of_running running, if_pos h]

theorem isSound_of_not {o : OrderRec} (h : ∀ n t y, o.meas ≠ some (.sound n t y)) : o.isSound = false := by
  unfold OrderRec.isSound OrderRec.kind
  cases hm : o.meas with
  | none => rfl
  | some m =>
    cases m with
    | sound n t y => exact absurd hm (h n t y)
    | _ => rfl

/-- The record of a check that waited for the rail with its last action settles, whatever else has come on it. -/
theorem settle_of_onLastRailAction {s : State} {k k1 : CheckRecord} (h : k.OnLastRailAction) (hk : s.ckr = some k1)
    (order : k1.order = k.order) (index : k1.index = k.index + 1) (free : k1.waitsOn = .none)
    (stage : k1.stage = .stimulating) :
    settle s = s.setCkr (some { k1 with stage := .settling, stageTimer := some k.order.settle }) := by
  obtain ⟨-, -, last, time, bus, sound⟩ := h
  have done : k1.action = none := by
    rw [CheckRecord.action, order, index]
    exact List.getElem?_eq_none (by omega)
  rw [← order] at time bus sound ⊢
  exact settle_of_lastAction hk stage free done time bus (by rw [isSound_of_not sound, Bool.false_and])

/-! ## A check's next action on a rail that is ON (R71, R97 to R99) -/

theorem micro_of_action {s : State} {k : CheckRecord} {a : Action} (hk : s.ckr = some k)
    (stage : k.stage = .stimulating) (free : k.waitsOn = .none) (ha : k.order.actions[k.index]? = some a) :
    micro s = performAction a k s := by
  have action : k.action = some a := ha
  simp only [micro, hk, stage, free, action, if_true]

theorem outputOn_of_transmits {r : RailState} (h : r.transmits = true) : r.outputOn = true := by
  cases r <;> first | rfl | exact nomatch h

theorem not_off_of_transmits {r : RailState} (h : r.transmits = true) : r ≠ .off := by
  rintro rfl
  exact nomatch h

/-- Between transmitting states the effective setpoint and the filters stay. -/
theorem moved_of_transmits {r : RailState} {u : Spu} (h : r.transmits = true) (on : u.rail.transmits = true) :
    u.moved r = { u with rail := r, crank := if r = .cranking then u.crank else none } := by
  simp [Spu.moved, outputOn_of_transmits h, outputOn_of_transmits on]

/-- A slew begun. -/
def Spu.slewsTo (target rate : Nat) (u : Spu) : Spu :=
  { u with rail := .slewing, setpoint := target / 10 * 10, rate := rate, crank := none }

theorem slewTo_eq {s : State} (h : s.spu.rail.transmits = true) (target rate : Nat) : slewTo target rate s =
    if s.spu.effective = target / 10 * 10 then arriveOn (s.setSpu (s.spu.slewsTo target rate))
    else s.setSpu (s.spu.slewsTo target rate) := by
  have begun : railTo .slewing (s.setSpu { s.spu with setpoint := roundTo10 target, rate := rate }) =
      s.setSpu (s.spu.slewsTo target rate) := by
    rw [railTo_of_transmits rfl]
    exact congrArg s.setSpu (moved_of_transmits (r := .slewing) rfl h)
  rw [slewTo, begun]
  rfl

/-- A slew to another setpoint: the check waits for the rail. -/
theorem settle_of_supplySet {s : State} {k : CheckRecord} {target rate : Nat} (hk : s.ckr = some k)
    (stage : k.stage = .stimulating) (free : k.waitsOn = .none)
    (ha : k.order.actions[k.index]? = some (.supplySet target rate)) (on : s.spu.rail.transmits = true)
    (away : s.spu.effective ≠ target / 10 * 10) :
    settle s = (s.setSpu (s.spu.slewsTo target rate)).setCkr (some { k with waitsOn := .rail }) := by
  have begun := (slewTo_eq (s := s.setCkr (some { k with waitsOn := .rail })) on target rate).trans (if_neg away)
  have performed : micro s =
      some ((s.setSpu (s.spu.slewsTo target rate)).setCkr (some { k with waitsOn := .rail })) := by
    rw [micro_of_action hk stage free ha, performAction]
    simp only [if_neg (not_off_of_transmits on), if_pos on, begun]
    rfl
  exact settle_of_one performed
    (micro_none_of_waits (c := { k with waitsOn := .rail }) rfl (.inr (.inl ⟨stage, nofun⟩)))

/-- A crank's dip begun. -/
def Spu.dipsTo (dip time rate : Nat) (u : Spu) : Spu :=
  let level := min (dip / 10 * 10) u.setpoint
  { u with rail := .cranking, effective := level, crank := some ⟨level, some time, rate⟩ }

/-- A crank: the check waits for the rail. -/
theorem settle_of_crank {s : State} {k : CheckRecord} {dip time rate : Nat} (hk : s.ckr = some k)
    (stage : k.stage = .stimulating) (free : k.waitsOn = .none)
    (ha : k.order.actions[k.index]? = some (.crank dip time rate)) (on : s.spu.rail.transmits = true) :
    settle s = (s.setSpu (s.spu.dipsTo dip time rate)).setCkr (some { k with waitsOn := .rail }) := by
  have moved := moved_of_transmits (r := .cranking) rfl on
  have performed : micro s =
      some ((s.setSpu (s.spu.dipsTo dip time rate)).setCkr (some { k with waitsOn := .rail })) := by
    rw [micro_of_action hk stage free ha, performAction]
    simp only [if_neg (not_off_of_transmits on), if_pos on, crankTo, railTo_of_transmits (r := .cranking) rfl,
      State.setCkr_spu, moved]
    rfl
  exact settle_of_one performed
    (micro_none_of_waits (c := { k with waitsOn := .rail }) rfl (.inr (.inl ⟨stage, nofun⟩)))

theorem dischargeBegun_of_high {u : Spu} (h : 500 ≤ u.outputMv) : u.dischargeBegun = { u.sourceOff .discharging with
    offTimer := none, recovery := none, retry := false, dischargeTimer := some 20 } :=
  if_neg (Nat.not_lt.mpr h)

theorem arriveOff_bem {s : State} (h : s.spu.rail.transmits = false) : (arriveOff s).bem = s.bem := by
  rw [arriveOff, State.setSpu_bem, railTo_of_not_transmits h]
  rfl

/-- A SUPPLY_OFF of a rail that transmits and reads 500 mV or more: the check waits for the rail. -/
theorem settle_of_supplyOff {s : State} {k : CheckRecord} (hk : s.ckr = some k) (stage : k.stage = .stimulating)
    (free : k.waitsOn = .none) (ha : k.order.actions[k.index]? = some .supplyOff) (on : s.spu.rail.transmits = true)
    (retry : s.spu.retry = false) (high : 500 ≤ s.spu.outputMv) :
    settle s = beginDischarge (s.setCkr (some { k with waitsOn := .rail })) := by
  let u := s.setCkr (some { k with waitsOn := .rail })
  have asked : offRequest u = beginDischarge u := by
    have kept : cancelRetry u = u := if_neg (ne_true_of_eq_false retry)
    have rail : u.spu.rail = s.spu.rail := rfl
    unfold offRequest
    rw [kept, rail]
    revert on
    cases s.spu.rail <;> simp [RailState.transmits]
  have spu : (beginDischarge u).spu.rail = .discharging := by
    rw [beginDischarge_spu_of_no_retry (s := u) retry, dischargeBegun_of_high (u := u.spu) high]
    rfl
  have performed : micro s = some (beginDischarge u) := by
    rw [micro_of_action hk stage free ha, performAction, if_neg (not_off_of_transmits on)]
    change some (if (offRequest u).spu.rail = .off then reportOff (offRequest u) else offRequest u) = _
    rw [asked, spu]
    rfl
  exact settle_of_one performed (micro_none_of_waits (c := { k with waitsOn := .rail }) (by simp)
    (.inr (.inl ⟨stage, nofun⟩)))

/-- The discharge stops the traffic of a rail that transmits. -/
theorem beginDischarge_bem_of_transmits {s : State} (on : s.spu.rail.transmits = true) :
    (beginDischarge s).bem.queue = [] ∧ (beginDischarge s).bem.schedule = none := by
  have left := railTo_bem_of_leaves (r := .discharging) on rfl
  have rail : (railTo .discharging s).spu.rail.transmits = false := by rw [railTo_spu]; rfl
  unfold beginDischarge
  dsimp only
  split
  · rw [arriveOff_bem (by exact rail)]
    exact left
  · exact left

/-! ## Reports of the rail -/

/-- An arrival at the setpoint told to the check. -/
theorem exec_profileEnd {s : State} {c : Instr} (running : s.resetHeld = false)
    (h : (c = .slewComplete ∧ s.spu.rail = .slewing) ∨ (c = .crankRecoveryComplete ∧
        s.spu.rail = .cranking ∧ ∃ p, s.spu.crank = some p ∧ p.hold = none) ∨ (c = .crankDipEnd ∧
        s.spu.rail = .cranking ∧ s.spu.effective = s.spu.setpoint ∧ ∃ p m, s.spu.crank = some p ∧ p.hold = some m)) :
    exec c s = .next (settle (reportOn false (s.setSpu s.spu.arrived))) := by
  rcases h with ⟨rfl, rail⟩ | ⟨rfl, rail, p, crank, hold⟩ | ⟨rfl, rail, there, p, m, crank, hold⟩
  · change execSlewComplete s = _
    rw [execSlewComplete, act_of_running running, if_pos rail, arriveOn_of_on (by rw [rail]; rfl)]
  · change execCrankRecoveryComplete s = _
    have recovers : s.spu.crankRecovers = true := by simp [Spu.crankRecovers, rail, crank, hold]
    rw [execCrankRecoveryComplete, act_of_running running, if_pos recovers, arriveOn_of_on (by rw [rail]; rfl)]
  · change execCrankDipEnd s = _
    have holds : s.spu.crankHolds = true := by simp [Spu.crankHolds, rail, crank, hold]
    have arrives : arriveOn (crankRecovery s) = s.setSpu s.spu.arrived := by
      rw [arriveOn_of_on (by rw [crankRecovery, State.setSpu_spu, rail]; rfl)]
      rfl
    rw [execCrankDipEnd, act_of_running running, if_pos holds]
    refine congrArg _ ((if_pos there).trans ?_)
    rw [arrives]

theorem reportOn_of_not_waiting {s : State} (h : NoneWaitsForRail s) (b : Bool) : reportOn b s = s := by
  unfold reportOn
  split
  · next k hk => rw [if_neg (h k hk)]
  · rfl

theorem reportOn_of_waiting {s : State} {k : CheckRecord} (hk : s.ckr = some k) (waits : k.waitsOn = .rail) (b : Bool) :
    reportOn b s = s.setCkr (some { k.finishAction with
      holdTimer := if b then some Config.inrushHoldMs else k.holdTimer }) := by
  rw [reportOn, hk]
  exact if_pos waits

theorem reportOff_of_not_waiting {s : State} (h : NoneWaitsForRail s) : reportOff s = s := by
  unfold reportOff
  split
  · next k hk => rw [if_neg fun both => h k hk both.1]
  · rfl

theorem reportOff_of_waiting {s : State} {k : CheckRecord} (hk : s.ckr = some k) (waits : k.waitsOn = .rail)
    (action : k.action = some .supplyOff) : reportOff s = s.setCkr (some k.finishAction) := by
  rw [reportOff, hk]
  exact if_pos ⟨waits, action⟩

theorem arriveOff_of_not_transmits {s : State} (h : s.spu.rail.transmits = false) :
    arriveOff s = s.setSpu { s.spu.sourceOff .off with dischargeTimer := none } := by
  rw [← arriveOff_spu, arriveOff, railTo_of_not_transmits h]
  rfl

/-- The end of DISCHARGING, told to the check: the output reads mv. -/
theorem exec_dischargeEnd {s : State} {c : Instr} {mv : Nat} (running : s.resetHeld = false)
    (rail : s.spu.rail = .discharging) (h : (c = .dischargeBelowThreshold mv ∧ mv < 500) ∨
        (c = .dischargeTimerExpiry ∧ mv = s.spu.outputMv)) : exec c s = .next (settle (reportOff
      (s.setSpu { s.spu.sourceOff .off with dischargeTimer := none, outputMv := mv }))) := by
  have quiet : s.spu.rail.transmits = false := by rw [rail]; rfl
  rcases h with ⟨rfl, low⟩ | ⟨rfl, rfl⟩
  · change execDischargeBelowThreshold mv s = _
    rw [execDischargeBelowThreshold, act_of_running running, if_pos rail]
    refine congrArg _ ((if_pos low).trans ?_)
    rw [arriveOff_of_not_transmits (by exact quiet)]
    rfl
  · change execDischargeTimerExpiry s = _
    rw [execDischargeTimerExpiry, act_of_running running, if_pos rail, arriveOff_of_not_transmits quiet]
    rfl

/-! ## A check that starts (R21, R68, R70) -/

theorem newRecord_eq (o : OrderRec) (s : State) : newRecord o s = o.newCheck (s.bem.slots.toList.any (·.late)) := rfl

/-- The head of the queue starts where nothing keeps it. -/
theorem micro_of_start {s : State} {o : OrderRec} {rest : List OrderRec} (hc : s.ckr = none)
    (station : s.oi.station = .ready) (queue : s.oi.queue = o :: rest) (free : s.spu.blocksStart = false) :
    micro s = some (startCheck o rest s) := by
  have may : mayStart s = true := by simp [mayStart, hc, station, free]
  simp [micro, hc, queue, may]

theorem micro_of_noAction {s : State} {k : CheckRecord} (hk : s.ckr = some k) (stage : k.stage = .stimulating)
    (free : k.waitsOn = .none) (done : k.action = none) : micro s = some (enterSettling k s) := by
  simp only [micro, hk, stage, free, done, if_true]

/-- The settling of an order with a settle time, no claim to take and no message to clear at the entry. -/
theorem enterSettling_of_time {k : CheckRecord} (s : State) (time : k.order.settle ≠ 0)
    (bus : ∀ b, k.order.meas ≠ some (.busfield b)) (quiet : (k.order.isSound && !k.order.hasAudible) = false) :
    enterSettling k s = s.setCkr (some { k with
      stage := .settling, stageTimer := some k.order.settle, waitsOn := .none }) := by
  unfold enterSettling
  rw [if_neg (ne_true_of_eq_false quiet), if_neg time]
  split
  · next b hb => exact absurd hb (bus b)
  · rfl

end Sys2Proof.Machine

namespace Sys2Proof.Certificates

open Machine

/-- Settles O38: the arrival is one update of the rail; its report finishes the action of the check that waits for it,
which settles or carries out its next action. -/
theorem railProfilesArrive : Obligations.RailProfilesArrive := by
  intro s running arrived finished
  refine ⟨fun c hc => ?_, fun p m rail crank hold away => ?_⟩
  · rw [exec_profileEnd running hc]
    refine ⟨fun still none => ?_, fun k hk last => ?_, ?_⟩
    · rw [reportOn_of_not_waiting (s := arrived) none, settle_of_still (s := arrived) still]
    · obtain ⟨stage, waits, -⟩ := id last
      rw [reportOn_of_waiting (s := arrived) hk waits]
      exact congrArg _ (settle_of_onLastRailAction (k1 := k.finishAction) last rfl rfl rfl rfl stage)
    · intro k hk stage waits next
      rw [reportOn_of_waiting (s := arrived) hk waits]
      refine ⟨fun target rate ha away => ?_, fun dip time rate ha => ?_, fun ha retry high => ?_⟩
      · exact congrArg _ (settle_of_supplySet (s := arrived.setCkr (some k.finishAction)) rfl stage rfl ha rfl
          away.symm)
      · exact congrArg _ (settle_of_crank (s := arrived.setCkr (some k.finishAction)) rfl stage rfl ha rfl)
      · refine ⟨_, congrArg _ (settle_of_supplyOff (s := arrived.setCkr (some k.finishAction)) rfl stage rfl ha rfl
          retry high), ?_, by simp [next, CheckRecord.finishAction], by simp [arrived], by simp [arrived],
          beginDischarge_bem_of_transmits rfl⟩
        exact beginDischarge_spu_of_no_retry retry
  · change execCrankDipEnd s = _
    have holds : s.spu.crankHolds = true := by simp [Spu.crankHolds, rail, crank, hold]
    rw [execCrankDipEnd, act_of_running running, if_pos holds]
    exact congrArg _ ((if_neg away).trans (by rw [crankRecovery, crank]; rfl))

/-- Settles O39: OFF is one update of the rail, told to the check that waits for it; where none is in flight the head
of the queue starts. -/
theorem dischargeEndsInOff : Obligations.DischargeEndsInOff := by
  intro s running rail
  refine ⟨fun mv high => ?_, ?_⟩
  · change execDischargeBelowThreshold mv s = _
    rw [execDischargeBelowThreshold, act_of_running running, if_pos rail]
    exact congrArg _ (if_neg (Nat.not_lt.mpr high))
  · intro c mv hc off
    rw [exec_dischargeEnd running rail hc]
    refine ⟨fun still none => ?_, fun k hk last action => ?_,
      fun o rest hc retry ready queue actions time meas => ?_,
      fun u => ⟨fun on => ?_, fun low => ?_, fun released => ?_⟩⟩
    · rw [reportOff_of_not_waiting (s := off) none]
      exact congrArg _ (settle_of_still (s := off) still)
    · obtain ⟨stage, waits, -⟩ := id last
      rw [reportOff_of_waiting (s := off) hk waits action]
      exact congrArg _ (settle_of_onLastRailAction (k1 := k.finishAction) last rfl rfl rfl rfl stage)
    · have unasked : NoneWaitsForRail off := fun k hk => nomatch hc.symm.trans hk
      have starts : micro off = some (startCheck o rest off) := micro_of_start hc ready queue (by
        simp [off, Spu.blocksStart, Spu.sourceOff, retry])
      let k := newRecord o off
      have none : k.action = none := by simp [CheckRecord.action, k, newRecord, actions]
      have settles := (micro_of_noAction (s := startCheck o rest off) (k := k) rfl rfl rfl none).trans
        (congrArg some (enterSettling_of_time (k := k) _ time (by simp [k, newRecord, meas]) (by
          simp [k, newRecord, OrderRec.isSound, OrderRec.kind, meas])))
      rw [reportOff_of_not_waiting unasked, settle_of_two starts settles
        (micro_none_of_waits rfl (.inr (.inr (.inr ⟨rfl, rfl⟩))))]
      exact ⟨_, rfl, rfl, rfl, _, rfl, rfl, rfl, rfl⟩
    · rcases on with h | h | h | h <;> simp [Spu.drive, h, RailState.outputOn]
    · rcases low with h | h | h <;> simp [Spu.drive, h, RailState.outputOn, RailState.pulledLow]
    · rcases released with h | h <;> simp [Spu.drive, h, RailState.outputOn, RailState.pulledLow]

/-- Settles O37: the traffic starts with the arrival; the check settles or slews on, and a retry returns its claim. -/
theorem rampComplete : Obligations.RampComplete := by
  intro s running rail onTheBus
  have on : s.spu.rail.outputOn = true := by rw [rail]; rfl
  have bus {t : State} (h : t.bem = (rampArrive s).bem) : onTheBus t :=
    have ⟨schedule, silent, unacked, captures, current, sending, quiet, due⟩ := onTheBus_rampArrive on h
    ⟨schedule, silent, unacked, captures, current, sending, quiet, due⟩
  have spu : (rampArrive s).spu = { s.spu.arrived with recovery := some 1000 } := rampArrive_spu_of_on on
  rw [exec_rampComplete running rail]
  have frames : (rampArrive s).clu = s.clu ∧ (rampArrive s).oi = s.oi ∧ (rampArrive s).rli = s.rli ∧
      (rampArrive s).vdu = s.vdu ∧ (rampArrive s).opu = s.opu ∧ (rampArrive s).ltu = s.ltu ∧
      (rampArrive s).csu = s.csu := by simp
  have noted {k : CheckRecord} := rampArrive_ckr (k := k) on
  have idle := rampArrive_ckr_of_none on
  have single : s.spu.retry = false → rampDone s = reportOn true (rampArrive s) := fun retry =>
    rampDone_of_check (by rw [spu]; exact retry)
  have again : s.spu.retry = true → rampDone s =
      (releaseClaim .spu .inrush (rampArrive s)).setSpu { (rampArrive s).spu with retry := false } := fun retry =>
    rampDone_of_retry (by rw [spu]; exact retry)
  generalize rampArrive s = u at bus spu frames noted idle single again
  obtain ⟨clu, oi, rli, vdu, opu, ltu, csu⟩ := frames
  have told {k : CheckRecord} (retry : s.spu.retry = false) (hk : s.ckr = some k) (waits : k.waitsOn = .rail) :
      ∃ late, rampDone s = u.setCkr (some { (k.noted late).finishAction with holdTimer := some 50 }) := by
    obtain ⟨late, record⟩ := noted hk
    exact ⟨late, (single retry).trans (reportOn_of_waiting record waits true)⟩
  refine ⟨fun k retry hk last => ?_, fun k target rate retry hk stage waits ha away => ?_,
    fun c retry rest hc resource requester deferred => ?_⟩
  · obtain ⟨stage, waits, -⟩ := id last
    obtain ⟨late, done⟩ := told retry hk waits
    rw [done]
    exact ⟨_, congrArg _ (settle_of_onLastRailAction last rfl rfl rfl rfl stage), spu, bus rfl, clu, oi, rli, vdu, opu,
      ltu, csu, late, rfl⟩
  · obtain ⟨late, done⟩ := told retry hk waits
    have transmits : u.spu.rail.transmits = true := by rw [spu]; rfl
    have other : u.spu.effective ≠ target / 10 * 10 := by rw [spu]; exact away.symm
    rw [done]
    refine ⟨_, congrArg _ (settle_of_supplySet (target := target) (rate := rate) rfl stage rfl ha transmits other), ?_,
      bus rfl, clu, oi, late, rfl⟩
    rw [State.setCkr_spu, State.setSpu_spu, State.setCkr_spu, spu]
    rfl
  · obtain ⟨none, queue, station⟩ := rest
    have released : releaseClaim .spu .inrush u = removeClaim u :=
      releaseClaim_of_held (by rw [clu, deferred]) (by rw [clu, hc]) requester resource
    have ckr : u.ckr = .none := idle none
    rw [again retry, released, spu]
    refine ⟨_, congrArg _ (settle_of_still (.inl ⟨by simpa using ckr, by simpa [oi] using queue,
      by simpa [oi] using station⟩)), rfl, bus (by simp), by simp [removeClaim_clu, clu], by simp [oi],
      by simpa using ckr, by simp [vdu], by simp [opu], fun loud => ?_⟩
    obtain ⟨a, cls, buffer, claim, railAt⟩ := removeClaim_buffer (s := u) (by rw [rli, loud])
    exact ⟨a, cls, buffer, claim, by rw [railAt, spu]; rfl⟩

end Sys2Proof.Certificates
end
section
/-! The waits of a check on the rack (R60, R64, R73, R76), its start from a rail that is OFF (R72), and the end of the
work that the silence of the line brings (R40). -/

namespace Sys2Proof.Machine

/-! ## A waiting audible request (R63, R64) -/

@[simp] theorem setLastTicket_audible (c : Clu) (r : Resource) (t : Byte) :
    (c.setLastTicket r t).audible = c.audible := by
  cases r <;> rfl

@[simp] theorem takeDeferred_audible (s : State) : (takeDeferred s).clu.audible = s.clu.audible := by
  unfold takeDeferred
  split
  · simp [takeClaim_clu]
  · rfl

@[simp] theorem dropDeferred_audible (w : Requester) (r : Resource) (s : State) :
    (dropDeferred w r s).clu.audible = s.clu.audible := by
  unfold dropDeferred
  split
  · split <;> rfl
  · rfl

@[simp] theorem releaseClaim_audible (w : Requester) (r : Resource) (s : State) :
    (releaseClaim w r s).clu.audible = s.clu.audible := by
  unfold releaseClaim
  dsimp only
  split
  · simp [removeClaim_clu]
  · simp

@[simp] theorem releaseAllOf_audible (w : Requester) (s : State) :
    (releaseAllOf w s).clu.audible = s.clu.audible := by
  simp [releaseAllOf]

/-- The end of a check withdraws its audible request (R64, R86). -/
theorem endCheck_audible {s : State} {k : CheckRecord} (h : s.ckr = some k) (v : Option VerdictContent) :
    (endCheck v s).clu.audible = none := by
  simp only [endCheck, h]
  cases v <;> simp [clearNoisy_clu, withdrawAudible]

/-! ## The end of a check that holds no claim -/

theorem releaseClaim_of_free {s : State} (hd : s.clu.deferred = none) (hc : s.clu.claim = none) (w : Requester)
    (r : Resource) : releaseClaim w r s = s :=
  releaseClaim_of_not_held hd fun _ hq => nomatch hc.symm.trans hq

theorem releaseAllOf_of_free {s : State} (hd : s.clu.deferred = none) (hc : s.clu.claim = none) (w : Requester) :
    releaseAllOf w s = s := by
  simp only [releaseAllOf, dropDeferred_of_none hd, releaseClaim_of_free hd hc]

theorem endCheck_clu_of_free {s : State} {k : CheckRecord} (h : s.ckr = some k) (hd : s.clu.deferred = none)
    (hc : s.clu.claim = none) (v : Option VerdictContent) :
    (endCheck v s).clu = { s.clu with audible := none, noisy := false } := by
  have free : releaseAllOf .ckr (withdrawAudible (applyRestores k (stopWork k s))) =
      withdrawAudible (applyRestores k (stopWork k s)) :=
    releaseAllOf_of_free (by simpa [withdrawAudible] using hd) (by simpa [withdrawAudible] using hc) .ckr
  simp only [endCheck, h, free]
  cases v <;> simp [clearNoisy_clu, withdrawAudible]

/-- An event ends a check that stands alone: its verdict, and the station READY. -/
theorem settle_terminate {s : State} {k : CheckRecord} (h : RunsAlone s k) (v : Verdict)
    (m : VerdictFlags → VerdictFlags) : settle (terminate v m s) = (terminate v m s).setOi s.oiReady := by
  obtain ⟨-, alone, busy⟩ := h
  rw [settle_of_idle (terminate_ckr v m s) (by rw [terminate_oi, alone]) (by rw [terminate_oi, busy]), terminate_oi]
  rfl

theorem judged_terminate {s : State} {k : CheckRecord} (h : s.ckr = some k) (v : Verdict)
    (m : VerdictFlags → VerdictFlags) (o : Oi) :
    Judged s ((terminate v m s).setOi o) (k.contentEndedBy v (m k.flags)) := by
  rw [terminate_of_some h]
  exact judged_endCheck h _ o

/-! ## Buffers of the line interface (R15, R16) -/

theorem handInReply_buffer (r : Reply) (s : State) : (handInReply r s).rli.buffer = s.rli.buffer := by
  unfold handInReply Rli.handInReply
  split <;> rfl

theorem formVerdict_buffer (c : VerdictContent) (s : State) : (formVerdict c s).rli.buffer = s.rli.buffer :=
  handInReply_buffer _ _

theorem formAll_buffer (xs : List VerdictContent) (s : State) : (formAll xs s).rli.buffer = s.rli.buffer :=
  foldl_keeps (fun s => s.rli.buffer) _ (fun s c => formVerdict_buffer c s) xs s

theorem takeSummary_buffer (s : State) : (takeSummary s).rli.buffer = s.rli.buffer := by
  unfold takeSummary
  dsimp only
  split <;> exact handInReply_buffer _ _

/-- The records of a flush join the reply queue alone. -/
theorem flushQueue_buffer (b : Bool) (s : State) : (flushQueue b s).rli.buffer = s.rli.buffer := by
  rw [flushQueue_eq]
  dsimp only
  split
  · split
    · rw [formAll_buffer, State.setTaken_rli, takeSummary_buffer, formAll_buffer]
      rfl
    · rw [formAll_buffer]
      rfl
  · rw [formAll_buffer]
    rfl

/-- A hold raised on a rail in SAFE with no check in flight: the queue is flushed, the messages are cleared. -/
theorem raiseHold_of_safe {s : State} (h : s.oi.station = .ready ∨ s.oi.station = .running) (c : HoldCause)
    (hc : s.ckr = none) (safe : s.spu.rail = .safe) :
    raiseHold c s = clearMessages (flushQueue false (holding c s)) := by
  have stays : offRequest (flushQueue false (holding c s)) = flushQueue false (holding c s) := by
    have rail : (flushQueue false (holding c s)).spu.rail = .safe := by rw [flushQueue_spu]; exact safe
    unfold offRequest
    rw [rail]
  rw [raiseHold_eq h, terminate_of_none (s := holding c s) hc, stays]

/-- SAFE entered with no own claim and nothing deferred: the claim unit and the line hear nothing of it. -/
theorem enterSafe_of_free {s : State} (hd : s.clu.deferred = none) (hc : s.clu.claim = none) :
    (enterSafe s).clu = s.clu ∧ (enterSafe s).rli = s.rli := by
  unfold enterSafe
  dsimp only
  rw [releaseClaim_of_free (by simpa using hd) (by simpa using hc)]
  exact ⟨by simp, by simp⟩

theorem promptEnd_opu (s : State) : (promptEnd s).opu = if s.opu.state = .idle then s.opu else s.opu.toIdle := by
  unfold promptEnd
  split <;> rfl

/-! ## Tickets of a view (R52) -/

@[simp] theorem removeClaim_slot (s : State) : (removeClaim s).rli.slot = s.rli.slot := handIn_slot _

@[simp] theorem removeClaim_group (s : State) : (removeClaim s).rli.group = s.rli.group := handIn_group _

/-- A ticket depends on the own slot and group, the peers and the last ticket for the resource. -/
theorem newTicket_of_view {s t : State} {r : Resource} (slot : t.rli.slot = s.rli.slot)
    (group : t.rli.group = s.rli.group) (peers : t.clu.peers = s.clu.peers)
    (last : t.clu.lastTicket r = s.clu.lastTicket r) : newTicket t r = newTicket s r := by
  simp only [newTicket, peerClaims, livePeers, slot, group, peers, last]

theorem setLastTicket_lastTicket (c : Clu) (r : Resource) (b : Byte) : (c.setLastTicket r b).lastTicket r = b := by
  cases r <;> rfl

/-! ## The events (R60, R64, R73) -/

theorem exec_claimWaitExpiry {s : State} {c : OwnClaim} {n : Nat} (running : s.resetHeld = false)
    (hc : s.clu.claim = some c) (pending : c.granted = false) (wait : c.wait = some n) :
    exec .claimWaitExpiry s = .next (settle (takeDeferred (tellBusy c.resource c.requester (removeClaim s)))) := by
  change execClaimWaitExpiry s = _
  rw [execClaimWaitExpiry, act_of_running running]
  simp only [hc, wait, pending, Option.isSome_some, and_self, if_true, withdrawClaim, Bool.false_eq_true, if_false]

theorem exec_audibleWaitExpiry {s : State} {n : Nat} (running : s.resetHeld = false) (h : s.clu.audible = some n) :
    exec .audibleWaitExpiry s = .next
      (let s1 := s.setClu { s.clu with audible := none }
      if (s1.ckr.map fun c => c.waitsOn == .audible).getD false then settle (terminate .rackBusy id s1) else s1) := by
  change execAudibleWaitExpiry s = _
  rw [execAudibleWaitExpiry, act_of_running running, if_pos (by simp [h])]

theorem exec_inrushHoldExpiry {s : State} {k : CheckRecord} {n : Nat} (running : s.resetHeld = false)
    (hk : s.ckr = some k) (hold : k.holdTimer = some n) : exec .inrushHoldExpiry s =
      .next (settle (releaseClaim .ckr .inrush (s.setCkr (some { k with holdTimer := none })))) := by
  change execInrushHoldExpiry s = _
  rw [execInrushHoldExpiry, act_of_running running]
  simp only [hk, hold, Option.isSome_some, if_true]

/-! ## A check that starts (R21, R72) -/

theorem exec_checkStart {s : State} {o : OrderRec} {rest : List OrderRec} (running : s.resetHeld = false)
    (queue : s.oi.queue = o :: rest) (station : s.oi.station = .ready) (hc : s.ckr = none)
    (free : s.spu.blocksStart = false) : exec .checkStart s = .next (settle (startCheck o rest s)) := by
  change execCheckStart s = _
  have may : mayStart s = true := by simp [mayStart, hc, station, free]
  rw [execCheckStart, act_of_running running]
  simp only [queue, may, if_true]

theorem powerUp_of_off {s : State} (h : s.spu.rail = .off) (target rate : Nat) : powerUp target rate s =
    s.setSpu (Spu.sourceOff { s.spu with setpoint := target / 10 * 10, rate := rate } .waitInrush) := by
  have quiet : (s.setSpu { s.spu with setpoint := roundTo10 target, rate := rate }).spu.rail.transmits = false := by
    rw [State.setSpu_spu, h]
    rfl
  rw [powerUp, railTo_of_not_transmits quiet, moved_of_off rfl]
  rfl

/-- A SUPPLY_SET from OFF: the check waits for INRUSH. -/
theorem settle_of_powerUp {s : State} {k : CheckRecord} {target rate : Nat} (hk : s.ckr = some k)
    (stage : k.stage = .stimulating) (free : k.waitsOn = .none) (hold : k.holdTimer = none)
    (ha : k.order.actions[k.index]? = some (.supplySet target rate)) (off : s.spu.rail = .off)
    (unclaimed : s.clu.claim = none) : settle s = takeClaim ⟨.inrush, inrushAmount k s, .ckr⟩
      ((s.setCkr (some { k with waitsOn := .claim .inrush })).setSpu
        (Spu.sourceOff { s.spu with setpoint := target / 10 * 10, rate := rate } .waitInrush)) := by
  let waiting := s.setCkr (some { k with holdTimer := none, waitsOn := .claim .inrush })
  have same : { k with holdTimer := none, waitsOn := .claim .inrush } = { k with waitsOn := .claim .inrush } := by
    rw [← hold]
  have performed : micro s = some (requestClaim ⟨.inrush, inrushAmount k s, .ckr⟩ (powerUp target rate waiting)) := by
    rw [micro_of_action hk stage free ha, performAction, if_pos off]
    simp only [startPowerUp, hold, Option.isSome_none, Bool.false_eq_true, if_false]
    rfl
  have claimed := requestClaim_of_none (s := powerUp target rate waiting) (by simpa [waiting] using unclaimed)
    ⟨.inrush, inrushAmount k s, .ckr⟩
  rw [claimed, powerUp_of_off (s := waiting) off, show waiting = s.setCkr _ from congrArg (s.setCkr <| some ·) same]
    at performed
  exact settle_of_one performed (micro_none_of_waits (c := { k with waitsOn := .claim .inrush }) (by simp)
    (.inr (.inl ⟨stage, nofun⟩)))

/-! ## The work ended from outside (R34, R40) -/

theorem stationIdle_oi_of_idle {s : State} (h : s.ckr = none) : (stationIdle s).oi =
    { s.oi with station := if s.oi.station = .running then .ready else s.oi.station } := by
  unfold stationIdle
  by_cases busy : s.oi.station = .running
  · simp [h, busy]
  · simp [busy]

/-- The check ended and the queue flushed, the rail and the messages as they are. -/
def workEnded (lineLost : Bool) (s : State) : State :=
  flushQueue lineLost (terminate .aborted (fun f => if lineLost then { f with lineLost := true } else f) s)

theorem endDut_eq (b : Bool) (s : State) : endDut b s = clearMessages (offRequest (stationIdle (workEnded b s))) := rfl

theorem endDut_ckr (b : Bool) (s : State) : (endDut b s).ckr = none := by simp [endDut_eq, workEnded]

theorem endDut_oi (b : Bool) (s : State) : (endDut b s).oi = { s.oi with
    queue := [], station := if s.oi.station = .running then .ready else s.oi.station } := by
  rw [endDut_eq, clearMessages_oi, offRequest_oi, stationIdle_oi_of_idle (by simp [workEnded])]
  simp [workEnded]

theorem settle_endDut (b : Bool) (s : State) : settle (endDut b s) = endDut b s := by
  refine settle_of_still (.inl ⟨endDut_ckr b s, ?_, ?_⟩)
  · rw [endDut_oi]
  · rw [endDut_oi]
    by_cases busy : s.oi.station = .running
    · simp [busy]
    · simp [busy]

theorem endDut_offAsked (b : Bool) (s : State) : s.spu.OffAsked (endDut b s).spu := by
  rw [endDut_eq, clearMessages_spu]
  exact offAsked_of_terminate (v := .aborted) (m := fun f => if b then { f with lineLost := true } else f)
    (by simp [workEnded])

theorem workEnded_formed_of_none {s : State} (h : s.ckr = none) (b : Bool) :
    Formed s (workEnded b s) (s.flushed b) := by
  rw [workEnded, terminate_of_none h]
  exact flushQueue_formed b s

theorem workEnded_formed_of_some {s : State} {k : CheckRecord} (h : s.ckr = some k) (b : Bool) :
    Formed s (workEnded b s)
      (k.contentEndedBy .aborted (if b then { k.flags with lineLost := true } else k.flags) :: s.flushed b) := by
  have ended := terminate_formed h .aborted fun f => if b then { f with lineLost := true } else f
  exact ended.trans (flushQueue_formed_of_queue (terminate_oi _ _ s ▸ rfl) b) (by simp) (by simp)

theorem endDut_vdu (b : Bool) (s : State) : (endDut b s).vdu = (workEnded b s).vdu := by simp [endDut_eq]

theorem endDut_formed {s : State} {b : Bool} {xs : List VerdictContent} (h : Formed s (workEnded b s) xs) :
    Formed s (endDut b s) xs := h.congr rfl rfl rfl (endDut_vdu b s)

theorem endDut_noisy (b : Bool) (s : State) : (endDut b s).clu.noisy = (workEnded b s).clu.noisy := by
  simp [endDut_eq]

theorem workEnded_noisy {s : State} {k : CheckRecord} (h : s.ckr = some k) (b : Bool) :
    (workEnded b s).clu.noisy = false := by
  rw [workEnded, terminate_of_some h, flushQueue_clu]
  exact endCheck_noisy h _

theorem exec_linePresenceExpiry {s : State} {n : Nat} (running : s.resetHeld = false) (h : s.oi.presence = some n) :
    exec .linePresenceExpiry s = .next (if s.spu.rail ≠ .off ∨ s.ckr.isSome = true ∨ s.oi.queue ≠ [] then
      endDut true (s.setOi { s.oi with presence := none, lineLost := true })
      else s.setOi { s.oi with presence := none }) := by
  change execLinePresenceExpiry s = _
  rw [execLinePresenceExpiry, act_of_running running, if_pos (by simp [h]), ← settle_endDut]
  rfl

end Sys2Proof.Machine

namespace Sys2Proof.Certificates

open Machine

/-- Settles O18: the end of the check, where one sent the request. -/
theorem audibleWaitExpiryEndsCheck : Obligations.AudibleWaitExpiryEndsCheck := by
  intro s n running waits
  rw [exec_audibleWaitExpiry running waits]
  refine ⟨fun none => ?_, fun k hk asks alone busy => ?_⟩
  · simp [none]
  · let u := s.setClu { s.clu with audible := none }
    have asked : (u.ckr.map fun c => c.waitsOn == .audible).getD false = true := by simp [u, hk, asks]
    refine ⟨_, congrArg _ ((if_pos asked).trans (settle_terminate (s := u) ⟨hk, alone, busy⟩ .rackBusy id)),
      judged_terminate (s := u) hk .rackBusy id _, ?_, rfl⟩
    rw [State.setOi_clu, terminate_of_some (s := u) hk]
    exact endCheck_audible (s := u) hk _

/-- Settles O19: the release removes the claim, and the request that it held back is taken with a ticket of its own. -/
theorem inrushHoldExpiryReleases : Obligations.InrushHoldExpiryReleases := by
  intro s c k n running claim resource requester hk hold waits
  let u := s.setCkr (some { k with holdTimer := none })
  have still {t : State} (ht : t.ckr = u.ckr) : settle t = t :=
    settle_of_micro_none (micro_none_of_waits (c := { k with holdTimer := none }) ht waits)
  rw [exec_inrushHoldExpiry running hk hold]
  refine ⟨fun deferred => ?_, fun q deferred other => ?_⟩
  · have released := releaseClaim_of_held (s := u) deferred claim requester resource
    rw [released, still (removeClaim_ckr u)]
    exact ⟨_, rfl, removeClaim_clu u, by simp [u], by simp [u], by simp [u], by simp [u], by simp [u], by simp [u],
      by simp [u], fun loud =>
        (removeClaim_buffer (s := u) loud).imp fun a ⟨cls, buffer, gone, _⟩ => ⟨cls, buffer, gone⟩⟩
  · have kept : dropDeferred .ckr .inrush u = u := by
      rw [dropDeferred, show u.clu.deferred = some q from deferred]
      exact if_neg fun ⟨own, inrush⟩ => other.elim (· own) (· inrush)
    have held : holdsClaim .ckr .inrush u = true := holdsClaim_iff.mpr ⟨c, claim, requester, resource⟩
    have free : (removeClaim u).clu = { s.clu with claim := none } := removeClaim_clu u
    let v := (removeClaim u).setClu { (removeClaim u).clu with deferred := none }
    have taken : releaseClaim .ckr .inrush u = takeClaim q v := by
      simp only [releaseClaim, kept, if_pos held, takeDeferred, free, deferred]
      rfl
    have ticket : newTicket v q.resource = newTicket s q.resource :=
      newTicket_of_view (by simp [v, u]) (by simp [v, u]) (by simp [v, u, free]) (by
        simp only [v, free, State.setClu_clu]
        cases q.resource <;> rfl)
    have clu := takeClaim_clu q v
    rw [taken, still (by simp [v])]
    refine ⟨_, rfl, ?_, by simp [v, u], ?_, ?_⟩
    · rw [clu]
      cases q.resource <;> rfl
    · rw [clu, ClaimRequest.taken, ticket]
      simp [v, u]
    · rw [clu, ← ticket]
      exact setLastTicket_lastTicket v.clu q.resource _

/-- Settles O17: the claim is gone and its removal announced before its requester hears of it. -/
theorem claimWaitExpiryEndsCheck : Obligations.ClaimWaitExpiryEndsCheck := by
  intro s c n running claim pending wait deferred
  let u := removeClaim s
  have free : u.clu = { s.clu with claim := none } := removeClaim_clu s
  have gone : u.clu.claim = none := by rw [free]
  have undeferred : u.clu.deferred = none := by rw [free, deferred]
  rw [exec_claimWaitExpiry running claim pending wait]
  refine ⟨fun k requester hk waits stage alone busy => ?_, fun k resource requester ⟨hk, alone, busy⟩ stage waits => ?_,
    fun requester retry rail none ready => ?_⟩
  · have inFlight : u.ckr = some k := by simpa [u] using hk
    have told : tellBusy c.resource c.requester u = terminate .rackBusy id u := by
      simp only [requester, tellBusy, inFlight, if_pos waits, if_neg stage]
    have ended := terminate_of_some inFlight .rackBusy id
    have clu := endCheck_clu_of_free inFlight undeferred gone (some (k.contentEndedBy .rackBusy (id k.flags)))
    rw [← ended] at clu
    rw [told, takeDeferred_of_none (by rw [clu, undeferred]),
      settle_terminate ⟨inFlight, by simpa [u] using alone, by simpa [u] using busy⟩]
    refine ⟨_, rfl, (judged_terminate inFlight .rackBusy id _).of_same (by simp [u]) (by simp [u]), ?_, ?_,
      by simp [State.oiReady, u], fun waiting retry => ?_⟩
    · rw [State.setOi_clu, clu, gone]
    · rw [State.setOi_clu, clu, free]
    · have cancelled := (powerUpCancel_cancelled u).1 (by simpa [u] using retry) (by simpa [u] using waiting)
      rw [State.setOi_spu, ended, endCheck_spu inFlight, cancelled]
      rfl
  · have inFlight : u.ckr = some k := by simpa [u] using hk
    let k1 := { k with stage := .judging, waitsOn := .none, judged := .rackBusy }
    let v := promptEnd (u.setCkr (some k1))
    have told : tellBusy c.resource c.requester u = v := by
      simp only [requester, tellBusy, inFlight, resource, if_pos waits, if_pos stage]
      rfl
    have runs : RunsAlone v k1 := ⟨by simp [v], by simpa [v, u] using alone, by simpa [v, u] using busy⟩
    have clu := endCheck_clu_of_free runs.1 (by simpa [v] using undeferred) (by simpa [v] using gone)
      (some k1.judgedContent)
    obtain ⟨record, ready, -, -, operator⟩ := settle_judging_leaves runs rfl
    have opu : (settle v).opu = (promptEnd s).opu := by
      rw [operator (by simpa [v] using undeferred)]
      simp only [v, promptEnd_opu, u, State.setCkr_opu, removeClaim_opu]
    rw [told, takeDeferred_of_none (by simpa [v] using undeferred)]
    refine ⟨settle v, rfl, record.of_same (by simp [v, u]) (by simp [v, u]), ?_, ?_,
      ready.trans (by simp [State.oiReady, v, u]), by simp [opu], ?_, ?_, by rw [opu, promptEnd_state], fun shown => ?_⟩
    · rw [settle_of_judging runs rfl, State.setOi_clu, clu]
      simpa [v] using gone
    · rw [settle_of_judging runs rfl, State.setOi_clu, clu]
      simp [v, u, free]
    · rw [opu, promptEnd_opu]
      split <;> rfl
    · rw [opu, promptEnd_opu]
      split <;> rfl
    · rw [opu, promptEnd_opu, if_neg shown]
      exact ⟨rfl, rfl, rfl, rfl, rfl, rfl, rfl, rfl⟩
  · let w := enterSafe u
    have safe : w.spu = s.spu.safe := (enterSafe_spu u).trans (by rw [removeClaim_spu])
    have inFlight : w.ckr = .none := by simpa [w, u] using none
    have station : w.oi.station = .ready ∨ w.oi.station = .running := .inl (by simpa [w, u] using ready)
    have told : tellBusy c.resource c.requester u = raiseHold .supplySafe w := by
      simp only [requester, tellBusy]
      exact if_pos ⟨by simpa [u] using retry, by simpa [u] using rail⟩
    obtain ⟨clu, rli⟩ := enterSafe_of_free undeferred gone
    have raised := raiseHold_of_safe station .supplySafe inFlight (by rw [safe]; rfl)
    have claims : (raiseHold .supplySafe w).clu = u.clu := by
      rw [raised]
      simpa [holding] using clu
    have formed := raiseHold_formed_of_none station .supplySafe inFlight
    have flushed : w.flushed false = s.flushed false := by simp [State.flushed, w, u]
    obtain ⟨spu, oi, ckr, sent, cleared, -⟩ := retryToSafe_leaves station (by rw [safe]; rfl)
    rw [told, takeDeferred_of_none (by rw [claims, undeferred]), settle_raiseHold station]
    refine ⟨_, rfl, spu.trans safe, claims.trans free, by rw [oi]; simp [w, u], ckr,
      flushed ▸ formed.congr (by simp [w, u]) (by simp [w, u]) (by simp [w, u]) rfl, sent, cleared, fun loud => ?_⟩
    obtain ⟨a, cls, buffer, gone, -⟩ := removeClaim_buffer loud
    refine ⟨a, cls, ?_, gone⟩
    rw [raised, clearMessages_rli, flushQueue_buffer, holding, State.setOi_rli, rli, buffer]

/-- Settles O21: the start and the power-up are two things that come about at once. -/
theorem checkStartRequestsInrush : Obligations.CheckStartRequestsInrush := by
  intro s o rest target rate as running queue ready idle off retry unclaimed actions
  let u := startCheck o rest s
  let k := newRecord o s
  have action : k.order.actions[k.index]? = some (.supplySet target rate) := by simp [k, newRecord, actions]
  rw [exec_checkStart running queue ready idle (by simp [Spu.blocksStart, off, retry]),
    settle_of_powerUp (s := u) (k := k) rfl rfl rfl rfl action off unclaimed]
  refine ⟨_, rfl, by simp [u, startCheck], by rw [takeClaim_spu]; rfl, ?_, ?_, by simp [u, startCheck],
    by simp [u, startCheck], by simp [u, startCheck], by simp [u, startCheck], _, takeClaim_ckr _ _, rfl, rfl, rfl, rfl,
    rfl, rfl⟩
  · rw [takeClaim_clu]
    rfl
  · rw [takeClaim_clu]
    rfl

/-- Settles O36: END_DUT with LINE_LOST, or nothing beyond the timer. -/
theorem linePresenceExpiry : Obligations.LinePresenceExpiry := by
  intro s n running timer
  rw [exec_linePresenceExpiry running timer]
  refine ⟨fun off idle empty => ?_, fun works => ?_⟩
  · rw [if_neg (by simp [off, idle, empty])]
  let u := s.setOi { s.oi with presence := none, lineLost := true }
  rw [if_pos works]
  have none (h : s.ckr = .none) := workEnded_formed_of_none (s := u) h true
  refine ⟨_, rfl, endDut_oi true u, endDut_ckr true u, endDut_offAsked true u, fun n => ?_, rfl, fun idle empty => ?_,
    fun k hk empty => ?_, fun idle => endDut_formed (none idle), fun k hk =>
    endDut_formed (workEnded_formed_of_some (s := u) hk true)⟩
  · rw [endDut_eq, Fin.getElem_fin, clearMessages_slot _ _ n.isLt]
  · rw [endDut_vdu, workEnded, terminate_of_none (s := u) idle, flushQueue_vdu_of_empty (s := u) empty]
    rfl
  · refine judged_of_vdu (endDut_ckr true u) ?_ ((endDut_noisy true u).trans (workEnded_noisy (s := u) hk true))
    rw [endDut_vdu, workEnded, flushQueue_vdu_of_empty (by simpa [u] using empty), terminate_of_some (s := u) hk]
    exact endCheck_vdu (s := u) hk _

end Sys2Proof.Certificates
end
section
/-! The tests of an ORDER (R24 to R26), and what an accepted one brings about (R21, R27, R28). -/

namespace Sys2Proof.Machine

/-! ## The faults of an order (R25) -/

theorem badRun_iff {start len : Nat} :
    badRun start len = true ↔ 63 < start ∨ len = 0 ∨ 32 < len ∨ 64 < start + len := by
  simp [badRun, or_assoc]

theorem actions_malformed_iff {as : List Action} : as.any Action.malformed = true ↔
    (∃ d t r, .crank d t r ∈ as ∧ (t = 0 ∨ 10000 < t)) ∨
    (∃ w, .fieldWrite w ∈ as ∧ (23 < w.slot ∨ badRun w.start w.len = true ∨ w.num = 0 ∨ w.den = 0 ∨
      (w.audible = true ∧ w.restore = false))) ∨
    ∃ n, (.messageOn n ∈ as ∨ .messageOff n ∈ as) ∧ 23 < n := by
  rw [List.any_eq_true]
  constructor
  · rintro ⟨a, ha, bad⟩
    cases a with
    | supplySet t r => exact nomatch bad
    | supplyOff => exact nomatch bad
    | crank d t r => exact .inl ⟨d, t, r, ha, by simpa [Action.malformed] using bad⟩
    | fieldWrite w => exact .inr (.inl ⟨w, ha, by simpa [Action.malformed, or_assoc] using bad⟩)
    | messageOn n => exact .inr (.inr ⟨n, .inl ha, by simpa [Action.malformed] using bad⟩)
    | messageOff n => exact .inr (.inr ⟨n, .inr ha, by simpa [Action.malformed] using bad⟩)
  · rintro (⟨d, t, r, ha, bad⟩ | ⟨w, ha, bad⟩ | ⟨n, ha | ha, bad⟩)
    · exact ⟨_, ha, by simpa [Action.malformed] using bad⟩
    · exact ⟨_, ha, by simpa [Action.malformed, or_assoc] using bad⟩
    · exact ⟨_, ha, by simpa [Action.malformed] using bad⟩
    · exact ⟨_, ha, by simpa [Action.malformed] using bad⟩

theorem meas_malformed_iff {meas : Option Measurement} : (meas.map Measurement.malformed).getD false = true ↔
    (∃ m, meas = some (.light m) ∧ (7 < m.channel ∨ m.target = some 0 ∨ ∃ t, m.target = some t ∧ 4094 < t)) ∨
    (∃ n, meas = some (.current n) ∧ (n = 0 ∨ 10000 < n)) ∨
    (∃ n t h, meas = some (.sound n t h) ∧ (n = 0 ∨ 60000 < n ∨ 4095 < t ∨ 4095 < h)) ∨
    ∃ m, meas = some (.busfield m) ∧ (7 < m.slot ∨ badRun m.start m.len = true ∨ m.num = 0 ∨ m.den = 0) := by
  cases meas with
  | none => simp
  | some m =>
    cases m with
    | light m =>
      have target : (m.target.map fun t => t == 0 || decide (t > 4094)).getD false = true ↔
          m.target = some 0 ∨ ∃ t, m.target = some t ∧ 4094 < t := by
        cases m.target <;> simp
      simp [Measurement.malformed, target]
    | current n => simp [Measurement.malformed]
    | sound n t h => simp [Measurement.malformed, or_assoc]
    | busfield m => simp [Measurement.malformed, or_assoc]

theorem isSound_iff {o : OrderRec} : o.isSound = true ↔ ∃ n t h, o.meas = some (.sound n t h) := by
  unfold OrderRec.isSound OrderRec.kind
  cases o.meas with
  | none => simp
  | some m => cases m <;> simp [Measurement.kind]

/-- A SUPPLY_SET stands behind an audible FIELD_WRITE. -/
theorem supplyAfterAudible_iff {as : List Action} : supplyAfterAudible as = true ↔
    ∃ (i j : Nat) (w : FieldWrite) (t r : Nat), i < j ∧ as[i]? = some (.fieldWrite w) ∧ w.audible = true ∧
      as[j]? = some (.supplySet t r) := by
  induction as with
  | nil => simp [supplyAfterAudible]
  | cons a as ih =>
    have audible : a.isAudible = true ↔ ∃ w, a = .fieldWrite w ∧ w.audible = true := by
      cases a <;> simp [Action.isAudible]
    have sets : as.any Action.isSupplySet = true ↔ ∃ (j : Nat) (t r : Nat), as[j]? = some (.supplySet t r) := by
      rw [List.any_eq_true]
      constructor
      · rintro ⟨b, hb, set⟩
        obtain ⟨j, hj⟩ := List.getElem?_of_mem hb
        cases b with
        | supplySet t r => exact ⟨j, t, r, hj⟩
        | _ => exact nomatch set
      · rintro ⟨j, t, r, hj⟩
        exact ⟨_, List.mem_of_getElem? hj, rfl⟩
    rw [supplyAfterAudible, Bool.or_eq_true, Bool.and_eq_true, ih, audible, sets]
    constructor
    · rintro (⟨⟨w, rfl, loud⟩, j, t, r, hj⟩ | ⟨i, j, w, t, r, order, hi, loud, hj⟩)
      · exact ⟨0, j + 1, w, t, r, Nat.zero_lt_succ j, rfl, loud, hj⟩
      · exact ⟨i + 1, j + 1, w, t, r, Nat.succ_lt_succ order, hi, loud, hj⟩
    · rintro ⟨i, j, w, t, r, order, hi, loud, hj⟩
      cases j with
      | zero => exact absurd order (Nat.not_lt_zero i)
      | succ j =>
        cases i with
        | zero => exact .inl ⟨⟨w, Option.some.inj hi, loud⟩, j, t, r, hj⟩
        | succ i => exact .inr ⟨i, j, w, t, r, Nat.lt_of_succ_lt_succ order, hi, loud, hj⟩

/-- The lower limit lies above the higher one. -/
def OrderRec.limitsCrossed (o : OrderRec) : Bool :=
  (o.low.map fun l => (o.high.map fun h => decide (l > h)).getD false).getD false

theorem OrderRec.limitsCrossed_iff {o : OrderRec} : o.limitsCrossed = true ↔
    ∃ l h, o.low = some l ∧ o.high = some h ∧ h < l := by
  unfold limitsCrossed
  cases o.low <;> cases o.high <;> simp

theorem OrderRec.malformed_eq (o : OrderRec) : o.malformed = (o.checkId == 0 || decide (o.actions.length > 4) ||
    o.actions.any Action.malformed || (o.meas.map Measurement.malformed).getD false ||
    (o.inrush.map fun n => n == 0 || decide (n > 100)).getD false ||
    (o.prompt.map fun p => decide (p.text.length > 40)).getD false || (o.isSound && o.prompt.isSome) ||
    (o.isSound && supplyAfterAudible o.actions) || o.limitsCrossed) := by
  unfold malformed limitsCrossed
  cases o.low <;> cases o.high <;> rfl

/-! ## What the configuration makes impossible (R26) -/

/-- No write may touch the field in the slot: it is not defined, the field runs beyond the payload, or shares a bit with
the counter or the checksum byte. -/
def FieldBarred (m : MessageSlot) (start len : Nat) : Prop :=
  m.defined = false ∨ 8 * m.len < start + len ∨ (∃ a l, m.counter = some (a, l) ∧ start < a + l ∧ a < start + len) ∨
    ∃ k, m.checksum = some k ∧ start < 8 * k + 8 ∧ 8 * k < start + len

theorem fieldBarred_iff {m : MessageSlot} {start len : Nat} :
    (!m.defined || fieldForbidden m start len) = true ↔ FieldBarred m start len := by
  have counter : (m.counter.map fun c => overlaps start len c.1 c.2).getD false = true ↔
      ∃ a l, m.counter = some (a, l) ∧ start < a + l ∧ a < start + len := by
    rcases m.counter with _ | ⟨a, l⟩ <;> simp [overlaps]
  have checksum : (m.checksum.map fun k => overlaps start len (8 * k) 8).getD false = true ↔
      ∃ k, m.checksum = some k ∧ start < 8 * k + 8 ∧ 8 * k < start + len := by
    cases m.checksum <;> simp [overlaps]
  rw [fieldForbidden, Bool.or_eq_true, Bool.or_eq_true, Bool.or_eq_true, counter, checksum, Bool.not_eq_true',
    decide_eq_true_iff, or_assoc]
  rfl

theorem actions_impossible_iff {s : State} {as : List Action} : as.any (actionImpossible s) = true ↔
    (∃ w, .fieldWrite w ∈ as ∧ FieldBarred (slotAt s w.slot) w.start w.len) ∨
    ∃ n, (.messageOn n ∈ as ∨ .messageOff n ∈ as) ∧ (slotAt s n).defined = false := by
  rw [List.any_eq_true]
  constructor
  · rintro ⟨a, ha, bad⟩
    cases a with
    | supplySet t r => exact nomatch bad
    | supplyOff => exact nomatch bad
    | crank d t r => exact nomatch bad
    | fieldWrite w => exact .inl ⟨w, ha, fieldBarred_iff.mp bad⟩
    | messageOn n => exact .inr ⟨n, .inl ha, by simpa [actionImpossible] using bad⟩
    | messageOff n => exact .inr ⟨n, .inr ha, by simpa [actionImpossible] using bad⟩
  · rintro (⟨w, ha, bad⟩ | ⟨n, ha | ha, bad⟩)
    · exact ⟨_, ha, fieldBarred_iff.mpr bad⟩
    · exact ⟨_, ha, by simpa [actionImpossible] using bad⟩
    · exact ⟨_, ha, by simpa [actionImpossible] using bad⟩

/-! ## The tests in their order (R24) -/

/-- An order that no layout, limit or configuration lets pass. -/
def BadOrder (s : State) (p : List Byte) : Prop :=
  parseOrder p = none ∨ ∃ o, parseOrder p = some o ∧ (o.malformed = true ∨ orderImpossible s o = true)

theorem good_of_not_bad {s : State} {p : List Byte} (h : ¬ BadOrder s p) :
    ∃ o, parseOrder p = some o ∧ o.malformed = false ∧ orderImpossible s o = false := by
  unfold BadOrder at h
  cases ho : parseOrder p with
  | none => exact absurd (.inl ho) h
  | some o =>
    have sound : ¬ (o.malformed = true ∨ orderImpossible s o = true) := fun bad => h (.inr ⟨o, ho, bad⟩)
    simpa using sound

theorem orderTests_of_full {s : State} (h : 8 ≤ s.oi.queue.length) (p : List Byte) :
    orderTests s p = (.queueFull, none) := if_pos h

theorem orderTests_of_taken {s : State} {p : List Byte} (room : ¬ 8 ≤ s.oi.queue.length)
    (h : idTaken s (leadingHalf p) = true) : orderTests s p = (.duplicate, none) :=
  (if_neg room).trans (if_pos h)

theorem orderTests_of_bad {s : State} {p : List Byte} (room : ¬ 8 ≤ s.oi.queue.length)
    (new : ¬ idTaken s (leadingHalf p) = true) (h : BadOrder s p) : orderTests s p = (.invalid, none) := by
  refine (if_neg room).trans ((if_neg new).trans ?_)
  rcases h with unread | ⟨o, read, bad⟩
  · rw [unread]
  · rw [read]
    exact if_pos (by simpa using bad)

/-- A good order meets the tests of the station state. -/
theorem orderTests_of_good {s : State} {p : List Byte} {o : OrderRec} (room : ¬ 8 ≤ s.oi.queue.length)
    (new : ¬ idTaken s (leadingHalf p) = true) (read : parseOrder p = some o) (formed : o.malformed = false)
    (possible : orderImpossible s o = false) : orderTests s p =
      if s.oi.station = .hold then (.held, none)
      else if s.oi.station = .unconfigured then (.unconfigured, none)
      else (.accepted, some (clampOrder s o)) := by
  refine (if_neg room).trans ((if_neg new).trans ?_)
  rw [read]
  exact if_neg (by simp [formed, possible])

theorem exec_order {s : State} {f : RxFrame} {p : List Byte} (h : Ends s f (.order p)) :
    exec (.order f) s = .next (takeOrder p (heardFrame s)) :=
  act_frameEvent_of_ends (fun p s => takeOrder p (heard s)) h nofun rfl

theorem takeOrder_of_refused {s : State} {p : List Byte} {code : ReceiptCode} (h : orderTests s p = (code, none)) :
    takeOrder p s = receipt .order (leadingHalf p) code (freePlaces s) s := by
  simp only [takeOrder, h]

/-- An accepted order joins the queue before its RECEIPT counts the free places. -/
theorem takeOrder_of_accepted {s : State} {p : List Byte} {o : OrderRec}
    (h : orderTests s p = (.accepted, some o)) : takeOrder p s =
      settle (receipt .order (leadingHalf p) .accepted (8 - (s.oi.queue.length + 1))
        (s.setOi { s.oi with queue := s.oi.queue ++ [o] })) := by
  have places : freePlaces (s.setOi { s.oi with queue := s.oi.queue ++ [o] }) = 8 - (s.oi.queue.length + 1) := by
    rw [freePlaces, State.setOi_oi, List.length_append]
    rfl
  rw [← places]
  simp only [takeOrder, h]

/-- The copy measures what the order measures. -/
theorem clampOrder_meas {s : State} {o : OrderRec} {m : Measurement} (h : (clampOrder s o).meas = some m) :
    o.meas = some m ∨ ∃ l, m = .light l := by
  have mapped : o.meas.map (clampMeasurement s) = some m := h
  obtain ⟨m0, read, rfl⟩ := Option.map_eq_some_iff.mp mapped
  cases m0 with
  | light l => exact .inr ⟨_, rfl⟩
  | _ => exact .inl read

/-- The order reads a capture slot that is not defined. -/
def OrderRec.readsUndefined (s : State) (o : OrderRec) : Bool :=
  match o.meas with
  | some (.busfield m) => !(captureAt s m.slot).defined
  | _ => false

theorem OrderRec.readsUndefined_iff {s : State} {o : OrderRec} : o.readsUndefined s = true ↔
    ∃ m, o.meas = some (.busfield m) ∧ (captureAt s m.slot).defined = false := by
  unfold readsUndefined
  cases o.meas with
  | none => simp
  | some m => cases m <;> simp

/-- The order asks for a challenge that cannot be written. -/
def OrderRec.asksImpossible (s : State) (o : OrderRec) : Bool :=
  (o.prompt.map fun p => p.mode != .yesNo && challengeImpossible s).getD false

theorem OrderRec.asksImpossible_iff {s : State} {o : OrderRec} : o.asksImpossible s = true ↔
    ∃ q, o.prompt = some q ∧ q.mode ≠ .yesNo ∧ FieldBarred (slotAt s s.opu.cfg.slot) s.opu.cfg.start 14 := by
  have challenge : challengeImpossible s = true ↔ FieldBarred (slotAt s s.opu.cfg.slot) s.opu.cfg.start 14 :=
    fieldBarred_iff
  rw [asksImpossible, ← challenge]
  cases o.prompt <;> simp

theorem orderImpossible_eq (s : State) (o : OrderRec) : orderImpossible s o =
    (o.actions.any (actionImpossible s) || o.readsUndefined s || o.asksImpossible s) := by
  unfold orderImpossible OrderRec.readsUndefined OrderRec.asksImpossible
  cases o.prompt <;> rfl

end Sys2Proof.Machine

namespace Sys2Proof.Certificates

open Machine

/-- Settles O23: the tests in their order, and each list of faults by what it names. -/
theorem orderRefusedByFirstTest : Obligations.OrderRefusedByFirstTest := by
  intro s f p code ends full taken bad
  refine ⟨fun tests => ?_, fun o => ?_, fun o => ?_⟩
  · have refused : orderTests (heardFrame s) p = (code, none) := by
      rcases tests with ⟨h, rfl⟩ | ⟨room, h, rfl⟩ | ⟨room, new, h, rfl⟩ | ⟨room, new, good, hold, rfl⟩ |
        ⟨room, new, good, fresh, rfl⟩
      · exact orderTests_of_full h p
      · exact orderTests_of_taken room h
      · exact orderTests_of_bad room new h
      · obtain ⟨o, read, formed, possible⟩ := good_of_not_bad (s := s) good
        exact (orderTests_of_good (s := heardFrame s) room new read formed possible).trans (if_pos hold)
      · obtain ⟨o, read, formed, possible⟩ := good_of_not_bad (s := s) good
        have unheld : ¬ s.oi.station = .hold := by rw [fresh]; exact nofun
        exact (orderTests_of_good (s := heardFrame s) room new read formed possible).trans
          ((if_neg unheld).trans (if_pos fresh))
    rw [exec_order ends, takeOrder_of_refused refused, freePlaces_heardFrame]
    rfl
  · have inrush : (o.inrush.map fun n => n == 0 || decide (n > 100)).getD false = true ↔
        ∃ n, o.inrush = some n ∧ (n = 0 ∨ 100 < n) := by
      cases o.inrush <;> simp
    have prompt : (o.prompt.map fun p => decide (p.text.length > 40)).getD false = true ↔
        ∃ q, o.prompt = some q ∧ 40 < q.text.length := by
      cases o.prompt <;> simp
    have asks : o.prompt.isSome = true ↔ o.prompt ≠ none := by
      cases o.prompt <;> simp
    simp only [OrderRec.malformed_eq, Bool.or_eq_true, Bool.and_eq_true, actions_malformed_iff, meas_malformed_iff,
      inrush, prompt, asks, isSound_iff, supplyAfterAudible_iff, OrderRec.limitsCrossed_iff, badRun_iff, or_assoc,
      beq_iff_eq, decide_eq_true_iff, gt_iff_lt]
  · rw [orderImpossible_eq, Bool.or_eq_true, Bool.or_eq_true, actions_impossible_iff, OrderRec.readsUndefined_iff,
      OrderRec.asksImpossible_iff, or_assoc, or_assoc]
    rfl

/-- Settles O24: the copy joins the queue; the check in flight or the rail holds it there, or it starts and settles. -/
theorem orderAcceptedJoinsQueue : Obligations.OrderAcceptedJoinsQueue := by
  intro s f p o ends room new read formed possible copy joined
  have accepted (station : s.oi.station = .ready ∨ s.oi.station = .running) :
      exec (.order f) s = .next (settle joined) := by
    have unheld : ¬ s.oi.station = .hold := by rcases station with h | h <;> rw [h] <;> exact nofun
    have configured : ¬ s.oi.station = .unconfigured := by rcases station with h | h <;> rw [h] <;> exact nofun
    have tests : orderTests (heardFrame s) p = (.accepted, some copy) :=
      (orderTests_of_good (s := heardFrame s) (Nat.not_le.mpr room) (ne_true_of_eq_false new) read formed
        possible).trans ((if_neg unheld).trans (if_neg configured))
    rw [exec_order ends, takeOrder_of_accepted tests]
    rfl
  refine ⟨fun k busy hk waits => ?_, fun ready idle held => ?_,
    fun ready idle empty rail retry actions time bus sound => ?_⟩
  · rw [accepted (.inr busy), settle_of_still (s := joined) (.inr ⟨k, hk, waits⟩)]
  · have blocks : joined.spu.blocksStart = true := by
      change s.spu.blocksStart = true
      rcases held with h | h <;> simp [Spu.blocksStart, h]
    have settled : ¬ joined.oi.station = .running := by
      change ¬ s.oi.station = .running
      rw [ready]
      exact nofun
    rw [accepted (.inl ready), settle_of_micro_none (micro_none_of_blocked (s := joined) idle blocks settled)]
  · have free : joined.spu.blocksStart = false := by
      change s.spu.blocksStart = false
      simp [Spu.blocksStart, rail, retry]
    have queue : joined.oi.queue = [copy] := by
      change s.oi.queue ++ [copy] = _
      rw [empty]
      rfl
    let k := newRecord copy joined
    have none : k.action = .none := by
      simp [CheckRecord.action, k, newRecord, copy, clampOrder_eq, clampedBody, actions]
    have unread : ∀ b, k.order.meas ≠ some (.busfield b) := fun b h =>
      (clampOrder_meas h).elim (bus b) fun ⟨_, light⟩ => nomatch light
    have silent : k.order.isSound = false := isSound_of_not fun n t y h =>
      (clampOrder_meas h).elim (sound n t y) fun ⟨_, light⟩ => nomatch light
    have starts := micro_of_start (s := joined) idle ready queue free
    have settles := (micro_of_noAction (s := startCheck copy [] joined) (k := k) rfl rfl rfl none).trans
      (congrArg some (enterSettling_of_time (k := k) _ time unread (by rw [silent, Bool.false_and])))
    rw [accepted (.inl ready), settle_of_two starts settles
      (micro_none_of_waits rfl (.inr (.inr (.inr ⟨rfl, rfl⟩))))]
    rfl

end Sys2Proof.Certificates
end
section
/-! What the end of a check puts back and stops (R84, R85, R87), and the controls that end the work: ABORT, END_DUT and
RESTART (R31, R32, R34). -/

namespace Sys2Proof.Machine

/-! ## The bus at the end of a check (R84, R85, R100) -/

theorem beginDischarge_bem_eq (s : State) : (beginDischarge s).bem = (railTo .discharging s).bem := by
  have rail : (railTo .discharging s).spu.rail.transmits = false := by rw [railTo_spu]; rfl
  unfold beginDischarge
  dsimp only
  split
  · rw [arriveOff_bem (by exact rail)]
    rfl
  · rfl

theorem beginDischarge_bem {s : State} (h : s.spu.rail.transmits = false) : (beginDischarge s).bem = s.bem := by
  rw [beginDischarge_bem_eq, railTo_of_not_transmits h]
  rfl

/-- A power-up cancelled before its arrival leaves the bus alone. -/
theorem powerUpCancel_bem {s : State} (h : ¬ s.ArrivalMeets) : (powerUpCancel s).bem = s.bem := by
  unfold powerUpCancel
  split
  · rfl
  · next retry =>
    split
    · next rail => rw [railTo_of_not_transmits (by rw [rail]; rfl)]; rfl
    · next rail =>
      rw [if_neg fun there => h ⟨Bool.eq_false_of_not_eq_true retry, rail, there⟩,
        beginDischarge_bem (by rw [rail]; rfl)]
    · rfl

/-- No slot gives a snapshot when a field of it is written. -/
def EventsQuiet (s : State) : Prop := ∀ n : Fin 24, s.bem.slots[n].period ≠ 0 ∨ s.bem.slots[n].enabled = false

/-- A payload with a restore entry put back, where the entry is of slot n. -/
def restoredIn (n : Nat) (p : Payload) (e : RestoreEntry) : Payload :=
  if e.slot = n then writeField p e.start e.len e.pattern else p

/-- From s to t nothing of the slots but payloads has changed. -/
def PayloadsAlone (s t : State) : Prop :=
  ∀ n : Fin 24, t.bem.slots[n] = { s.bem.slots[n] with payload := t.bem.slots[n].payload }

theorem applyRestore_of_quiet {s : State} (quiet : EventsQuiet s) (e : RestoreEntry) :
    PayloadsAlone s (applyRestore e s) ∧ ∀ n : Fin 24, s.bem.slots[n].defined = true →
      (applyRestore e s).bem.slots[n].payload = restoredIn n s.bem.slots[n].payload e := by
  have same (h : applyRestore e s = s) (other : ∀ n : Fin 24, s.bem.slots[n].defined = true → e.slot ≠ n.val) :
      PayloadsAlone s (applyRestore e s) ∧ ∀ n : Fin 24, s.bem.slots[n].defined = true →
        (applyRestore e s).bem.slots[n].payload = restoredIn n s.bem.slots[n].payload e := by
    rw [h]
    exact ⟨fun _ => rfl, fun n defined => (if_neg (other n defined)).symm⟩
  by_cases inTable : e.slot < 24
  · let m : Fin 24 := ⟨e.slot, inTable⟩
    cases defined : s.bem.slots[m].defined with
    | false =>
      refine same (writeSlot_of_undefined (n := m) defined e.start e.len e.pattern) fun n hn at_ => ?_
      obtain rfl : m = n := Fin.ext at_
      exact nomatch defined.symm.trans hn
    | true =>
      have written : applyRestore e s = setSlot m { s.bem.slots[m] with
          payload := writeField s.bem.slots[m].payload e.start e.len e.pattern } s :=
        writeSlot_of_quiet (n := m) defined (quiet m) e.start e.len e.pattern
      refine ⟨fun n => ?_, fun n _ => ?_⟩
      · rw [written, setSlot_bem_slots]
        split
        · next own => rw [show n = m from Fin.ext own.symm]
        · rfl
      · rw [written, setSlot_bem_slots, restoredIn]
        split
        · next own => rw [show n = m from Fin.ext own.symm]
        · rfl
  · have none : applyRestore e s = s := by
      have undefined : (slotAt s e.slot).defined = false := by
        rw [slotAt, entryAt, List.getD_eq_default _ _ (by simpa using inTable)]
        rfl
      rw [applyRestore, writeSlot, if_neg (ne_true_of_eq_false undefined)]
    exact same none fun n _ at_ => inTable (at_ ▸ n.isLt)

theorem applyRestores_eq (k : CheckRecord) (s : State) :
    applyRestores k s = (k.fifth.toList ++ k.restore).foldl (fun s e => applyRestore e s) s := by
  unfold applyRestores
  cases k.fifth <;> rfl

/-- The entries put back one after another, where no event-only slot transmits. -/
theorem restoring_payload (l : List RestoreEntry) : ∀ {s : State}, EventsQuiet s → ∀ n : Fin 24,
    s.bem.slots[n].defined = true → (l.foldl (fun s e => applyRestore e s) s).bem.slots[n].payload =
      l.foldl (restoredIn n) s.bem.slots[n].payload := by
  induction l with
  | nil => exact fun _ _ _ => rfl
  | cons e l ih =>
    intro s quiet n defined
    obtain ⟨alone, payload⟩ := applyRestore_of_quiet quiet e
    have still : EventsQuiet (applyRestore e s) := fun i => by rw [alone i]; exact quiet i
    rw [List.foldl_cons, List.foldl_cons, ih still n (by rw [alone n]; exact defined), payload n defined]

/-- The fifth place and the restore list have been put back at the end of a check. -/
theorem restored_endCheck {s t : State} {k : CheckRecord} (h : s.ckr = some k) (v : Option VerdictContent)
    (ht : ∀ n : Fin 24, t.bem.slots[n].payload = (endCheck v s).bem.slots[n].payload) : Restored k s t := by
  intro away quiet n defined
  have kept : (stopWork k s).bem = s.bem := by rw [stopWork_bem, powerUpCancel_bem away]
  have still : EventsQuiet (stopWork k s) := fun i => by rw [kept]; exact quiet i
  rw [ht, endCheck_bem h, applyRestores_eq, restoring_payload _ still n (by rw [kept]; exact defined), kept]
  rfl

theorem Restored.congr {s t u v : State} {k : CheckRecord} (h : Restored k u v) (spu : u.spu = s.spu)
    (bem : u.bem = s.bem) (after : t.bem = v.bem) : Restored k s t := by
  unfold Restored State.ArrivalMeets at *
  rwa [spu, bem, ← after] at h

theorem Restored.of_payload {s t v : State} {k : CheckRecord} (h : Restored k s v)
    (payload : ∀ n : Fin 24, t.bem.slots[n].payload = v.bem.slots[n].payload) : Restored k s t :=
  fun away quiet n defined => (payload n).trans (h away quiet n defined)

/-! ## The measurement at the end of a check (R87, R152, R162) -/

theorem endCheck_units {s : State} {k : CheckRecord} (h : s.ckr = some k) (v : Option VerdictContent) :
    (endCheck v s).ltu = (stopWork k s).ltu ∧ (endCheck v s).csu = (stopWork k s).csu ∧
      (endCheck v s).arrived = (stopWork k s).arrived := by
  simp only [endCheck, h]
  cases v <;> simp [withdrawAudible]

theorem LightChannel.stop_leaves (c : LightChannel) : c.stop.state = .held ∧ c.stop.gain = c.gain ∧ c.stop.cal = c.cal ∧
    (c.state ≠ .held → c.stop.rangeTimer = none) := by
  unfold LightChannel.stop
  split
  · next held => exact ⟨held, rfl, rfl, fun other => absurd held other⟩
  · exact ⟨rfl, rfl, rfl, fun _ => rfl⟩

theorem measurementStopped_stopWork {s t : State} {k : CheckRecord} (ltu : t.ltu = (stopWork k s).ltu)
    (csu : t.csu = (stopWork k s).csu) (arrived : t.arrived = (stopWork k s).arrived) : MeasurementStopped k s t := by
  intro stage
  have stopped {m : Measurement} (hm : k.order.meas = some m) := stopWork_of_measuring stage hm s
  refine ⟨fun l n light channel => ?_, fun window => ?_⟩
  · rw [stopped light] at ltu csu arrived
    have channels : t.ltu = (updateChannel n LightChannel.stop (powerUpCancel s)).ltu := by
      rw [ltu, ← channel]
      rfl
    rw [updateChannel_fin, State.setLtu_ltu, powerUpCancel_ltu] at channels
    obtain ⟨held, gain, cal, timer⟩ := s.ltu[n].stop_leaves
    have own : t.ltu[n] = s.ltu[n].stop := by simp [channels]
    refine ⟨by rw [own, held], by rw [own, gain], by rw [own, cal], fun measuring => by rw [own, timer measuring],
      fun i hi => ?_, csu.trans (powerUpCancel_csu s), arrived.trans ?_⟩
    · have other : n.val ≠ i.val := fun same => hi (Fin.ext same.symm)
      simp [channels, other]
    · rw [← channel]
      simp [stopMeasurement, dropArrived]
  · have idle : stopWork k s = stopWindow (powerUpCancel s) := by
      rcases window with ⟨n, hm⟩ | ⟨n, th, hy, hm⟩
      · rw [stopped hm]
        rfl
      · rw [stopped hm]
        rfl
    rw [idle] at ltu csu arrived
    exact ⟨csu.trans (by simp [stopWindow, dropArrived, Csu.toIdle]), ltu.trans (by simp [stopWindow, dropArrived]),
      arrived.trans (by simp [stopWindow, dropArrived])⟩

theorem MeasurementStopped.congr {s t u v : State} {k : CheckRecord} (h : MeasurementStopped k u v)
    (ltu : u.ltu = s.ltu) (csu : u.csu = s.csu) (arrived : u.arrived = s.arrived) (ltu' : t.ltu = v.ltu)
    (csu' : t.csu = v.csu) (arrived' : t.arrived = v.arrived) : MeasurementStopped k s t := by
  unfold MeasurementStopped at *
  rwa [ltu, csu, arrived, ← ltu', ← csu', ← arrived'] at h

/-! ## A control answered (R28) -/

/-- The blocks behind the rack line and the OI are the same. -/
structure SameBlocks (s t : State) : Prop where
  clu : t.clu = s.clu
  ckr : t.ckr = s.ckr
  spu : t.spu = s.spu
  bem : t.bem = s.bem
  ltu : t.ltu = s.ltu
  csu : t.csu = s.csu
  vdu : t.vdu = s.vdu
  opu : t.opu = s.opu
  arrived : t.arrived = s.arrived
  pending : t.pending = s.pending

theorem answerControl_same (b : Bool) (reference : Half) (code : ReceiptCode) (free : Nat) (s : State) :
    SameBlocks s (answerControl b reference code free (heardFrame s)) := by
  cases b <;> constructor <;> rfl

theorem answerControl_oi (b : Bool) (reference : Half) (code : ReceiptCode) (free : Nat) (s : State) :
    (answerControl b reference code free s).oi = s.oi := by
  cases b <;> rfl

theorem answerControl_replies (b : Bool) (reference : Half) (code : ReceiptCode) (free : Nat) (s : State) :
    (answerControl b reference code free s).rli.replies = s.rli.replies ++
      if b = false ∧ s.rli.hasRoom = true then [.receipt ⟨.control, reference, code, free⟩] else [] := by
  cases b with
  | true => simp [answerControl]
  | false =>
    change (s.rli.handInReply _).replies = _
    unfold Rli.handInReply
    split
    · next room => rw [if_pos ⟨rfl, room⟩]
    · next room => rw [if_neg fun h => room h.2, List.append_nil]

theorem answered_first {s t : State} {b : Bool} {reference : Half} {code : ReceiptCode} {free : Nat}
    (h : Grows (answerControl b reference code free (heardFrame s)) t) : ∃ l, t.rli.replies = s.rli.replies ++
      (if b = false ∧ s.rli.hasRoom = true then [.receipt ⟨.control, reference, code, free⟩] else []) ++ l := by
  obtain ⟨l, grown⟩ := h
  exact ⟨l, grown.trans (congrArg (· ++ l) (answerControl_replies b reference code free (heardFrame s)))⟩

/-! ## ABORT (R31) -/

theorem exec_controlAbort {s : State} {f : RxFrame} {b : Bool} {p : List Byte} {flush : Bool} {target : Option Half}
    (h : Ends s f (.control b p)) (hp : parseControl p = some (.abort flush target)) :
    exec (.controlAbort f) s = .next (controlAbort b (leadingHalf p) flush target (heardFrame s)) := by
  change execControlAbort f s = _
  unfold execControlAbort
  exact act_frameEvent_of_ends (a := (b, leadingHalf p, flush, target)) _ h nofun (pickControl_of_parse b hp rfl)

/-- The check that the target names, or any without one. -/
def Named (target : Option Half) (k : CheckRecord) : Prop := target = none ∨ target = some k.order.checkId

theorem controlAbort_of_named {s : State} {k : CheckRecord} {target : Option Half} (h : s.ckr = some k)
    (named : Named target k) (b : Bool) (reference : Half) (flush : Bool) :
    controlAbort b reference flush target (heardFrame s) =
      let u := terminate .aborted id (answerControl b reference .accepted
        (if flush then 8 else 8 - s.oi.queue.length) (heardFrame s))
      settle (if flush then flushQueue false u else u) := by
  have same := (answerControl_same b reference .accepted (if flush then 8 else 8 - s.oi.queue.length) s).ckr.trans h
  unfold controlAbort
  rcases named with rfl | rfl
  · simp only [freePlaces_heardFrame, Config.queueSize, same, if_true]
  · simp only [freePlaces_heardFrame, Config.queueSize, same, beq_self_eq_true, if_true]

theorem controlAbort_of_unnamed {s : State} {target : Option Half} (other : ∀ k, s.ckr = some k → ¬ Named target k)
    (b : Bool) (reference : Half) (flush : Bool) : controlAbort b reference flush target (heardFrame s) =
      let u := answerControl b reference .accepted (if flush then 8 else 8 - s.oi.queue.length) (heardFrame s)
      settle (if flush then flushQueue false u else u) := by
  have same := (answerControl_same b reference .accepted (if flush then 8 else 8 - s.oi.queue.length) s).ckr
  unfold controlAbort
  cases h : s.ckr with
  | none =>
    rw [h] at same
    simp only [freePlaces_heardFrame, Config.queueSize, same, Bool.false_eq_true, if_false]
  | some k =>
    rw [h] at same
    cases target with
    | none => exact absurd (.inl rfl) (other k h)
    | some x =>
      have differs : (k.order.checkId == x) = false := by
        refine beq_eq_false_iff_ne.mpr fun e => other k h (.inr (by rw [e]))
      simp only [freePlaces_heardFrame, Config.queueSize, same, differs, Bool.false_eq_true, if_false]

/-- What the check ended from A, the answered s, has left at T, where the records xs have been formed. -/
structure AbortedFrom (s A T : State) (k : CheckRecord) (xs : List VerdictContent) : Prop where
  formed : Formed s T xs
  idle : T.ckr = none
  noisy : T.clu.noisy = false
  peers : T.clu.peers = s.clu.peers
  rail : s.spu.PowerUpCancelled T.spu
  restored : Restored k s T
  stopped : MeasurementStopped k s T
  grows : Grows A T
  current : T.bem.current = s.bem.current
  pending : T.pending = s.pending

theorem abortedFrom {s A : State} {k : CheckRecord} (h : s.ckr = some k) (same : SameBlocks s A) :
    AbortedFrom s A (terminate .aborted id A) k [k.contentEndedBy .aborted k.flags] := by
  have hA : A.ckr = some k := same.ckr.trans h
  have eq := terminate_of_some hA .aborted id
  obtain ⟨ltu, csu, arrived⟩ := endCheck_units hA (some (k.contentEndedBy .aborted (id k.flags)))
  constructor
  case formed => exact (terminate_formed hA .aborted id).congr same.vdu.symm (by rw [same.bem]) same.pending.symm rfl
  case idle => simp
  case noisy => rw [eq]; exact endCheck_noisy hA _
  case peers => rw [eq, endCheck_peers, same.clu]
  case rail =>
    rw [eq, endCheck_spu hA, ← same.spu]
    exact powerUpCancel_cancelled A
  case restored => exact (restored_endCheck hA _ fun _ => rfl).congr same.spu same.bem (by rw [eq])
  case stopped =>
    exact (measurementStopped_stopWork ltu csu arrived).congr same.ltu same.csu same.arrived (by rw [eq]) (by rw [eq])
      (by rw [eq])
  case grows => exact terminate_grows _ _ _
  case current => rw [terminate_current, same.bem]
  case pending => rw [terminate_pending, same.pending]

/-- With the flush the records of the queue follow that of the check. -/
theorem AbortedFrom.flush {s A T : State} {k : CheckRecord} {xs : List VerdictContent} (h : AbortedFrom s A T k xs)
    (queue : T.oi.queue = s.oi.queue) : AbortedFrom s A (flushQueue false T) k (xs ++ s.flushed false) where
  formed := h.formed.trans (flushQueue_formed_of_queue queue false) h.current h.pending
  idle := (flushQueue_ckr false T).trans h.idle
  noisy := (congrArg (·.noisy) (flushQueue_clu false T)).trans h.noisy
  peers := (congrArg (·.peers) (flushQueue_clu false T)).trans h.peers
  rail := (flushQueue_spu false T).symm ▸ h.rail
  restored := h.restored.congr rfl rfl (flushQueue_bem false T)
  stopped := h.stopped.congr rfl rfl rfl (flushQueue_ltu false T) (flushQueue_csu false T) (flushQueue_arrived false T)
  grows := h.grows.trans (flushQueue_grows false T)
  current := (congrArg (·.current) (flushQueue_bem false T)).trans h.current
  pending := (flushQueue_pending false T).trans h.pending

theorem abortedFrom_flushed {s A : State} {k : CheckRecord} (h : s.ckr = some k) (same : SameBlocks s A)
    (queue : A.oi.queue = s.oi.queue) {flush : Bool} (ended : flush = true ∨ s.oi.queue = []) :
    let u := terminate .aborted id A
    let t := if flush then flushQueue false u else u
    AbortedFrom s A t k (k.contentEndedBy .aborted k.flags :: s.flushed false) ∧ t.oi = { A.oi with queue := [] } := by
  have left := abortedFrom h same
  have oi := terminate_oi .aborted id A
  cases flush with
  | true => exact ⟨left.flush (by rw [oi, queue]), by simp⟩
  | false =>
    have empty : s.oi.queue = [] := ended.resolve_left nofun
    have none : s.flushed false = [] := by simp [State.flushed, empty]
    rw [none]
    refine ⟨left, ?_⟩
    dsimp only
    rw [if_neg Bool.false_ne_true, oi, ← queue.trans empty]

theorem Spu.PowerUpCancelled.blocksStart_of_away {u t : Spu} (h : u.PowerUpCancelled t) (retry : u.retry = false)
    (rail : u.rail ≠ .discharging) (ramp : u.rail ≠ .ramping) : t.blocksStart = false := by
  obtain ⟨waiting, _, other⟩ := h
  by_cases off : u.rail = .waitInrush
  · rw [waiting retry off]
    simp [Spu.blocksStart, Spu.sourceOff, retry]
  · rw [other (.inr ⟨off, ramp⟩)]
    simp [Spu.blocksStart, retry, rail]

theorem Spu.PowerUpCancelled.blocksStart_of_discharging {u t : Spu} (h : u.PowerUpCancelled t)
    (rail : u.rail = .discharging) : t.blocksStart = true := by
  obtain ⟨_, _, other⟩ := h
  rw [other (.inr ⟨rail ▸ nofun, rail ▸ nofun⟩)]
  simp [Spu.blocksStart, rail]

theorem micro_of_next {s : State} {o : OrderRec} {rest : List OrderRec} (hc : s.ckr = none)
    (station : s.oi.station = .running) (queue : s.oi.queue = o :: rest) (free : s.spu.blocksStart = false) :
    micro s = some (startCheck o rest s) := by
  have may : mayStart s = true := by simp [mayStart, hc, station, free]
  simp [micro, hc, queue, may]

/-- The next order, without actions, started by the check that ended. -/
theorem settle_of_next {s : State} {o : OrderRec} {rest : List OrderRec} (hc : s.ckr = none)
    (station : s.oi.station = .running) (queue : s.oi.queue = o :: rest) (free : s.spu.blocksStart = false)
    (actions : o.actions = []) (time : o.settle ≠ 0) (meas : o.meas = none) :
    settle s = (startCheck o rest s).setCkr (some { newRecord o s with
      stage := .settling, stageTimer := some o.settle }) := by
  let k := newRecord o s
  have done : k.action = none := by simp [CheckRecord.action, k, newRecord, actions]
  have unread : ∀ b, k.order.meas ≠ some (.busfield b) := fun b h => nomatch meas.symm.trans h
  have silent : k.order.isSound = false := isSound_of_not fun n t y h => nomatch meas.symm.trans h
  have starts := micro_of_next hc station queue free
  have settles := (micro_of_noAction (s := startCheck o rest s) (k := k) rfl rfl rfl done).trans
    (congrArg some (enterSettling_of_time (k := k) _ time unread (by rw [silent, Bool.false_and])))
  rw [settle_of_two starts settles (micro_none_of_waits rfl (.inr (.inr (.inr ⟨rfl, rfl⟩))))]
  rfl

/-! ## END_DUT (R34) -/

theorem exec_controlEndDut {s : State} {f : RxFrame} {b : Bool} {p : List Byte}
    (h : Ends s f (.control b p)) (hp : parseControl p = some .endDut) :
    exec (.controlEndDut f) s = .next (endDut false (answerControl b (leadingHalf p) .accepted 8 (heardFrame s))) := by
  change execControlEndDut f s = _
  unfold execControlEndDut
  rw [act_frameEvent_of_ends (a := (b, leadingHalf p, ())) _ h nofun (pickControl_of_parse b hp rfl)]
  exact congrArg _ (settle_endDut false _)

theorem stopTraffic_payload (s : State) (n : Fin 24) :
    (stopTraffic s).bem.slots[n].payload = s.bem.slots[n].payload := by
  change (mapEntries _ s.bem.slots)[n.val].payload = _
  rw [getElem_mapEntries]
  rfl

theorem railTo_payload (r : RailState) (s : State) (n : Fin 24) :
    (railTo r s).bem.slots[n].payload = s.bem.slots[n].payload := by
  rw [railTo_eq]
  split
  · exact stopTraffic_payload _ n
  · rfl

theorem beginDischarge_payload (s : State) (n : Fin 24) :
    (beginDischarge s).bem.slots[n].payload = s.bem.slots[n].payload := by
  rw [beginDischarge_bem_eq]
  exact railTo_payload .discharging s n

theorem offRequest_payload (s : State) (n : Fin 24) :
    (offRequest s).bem.slots[n].payload = s.bem.slots[n].payload := by
  have cancelled : (beginDischarge (cancelRetry s)).bem.slots[n].payload = s.bem.slots[n].payload := by
    rw [beginDischarge_payload, cancelRetry_bem]
  unfold offRequest
  split
  case h_2 =>
    split
    · exact cancelled
    · exact railTo_payload .off s n
  case h_1 | h_7 | h_9 => rfl
  all_goals exact cancelled

theorem clearMessages_payload (s : State) (n : Fin 24) :
    (clearMessages s).bem.slots[n].payload = s.bem.slots[n].payload := by
  simp only [Fin.getElem_fin, clearMessages_slot]

theorem MessageSlot.eq_of_definition {m x : MessageSlot} (h : m.definition = x.definition) (enabled : m.enabled = false)
    (late : m.late = false) : m = { x with payload := m.payload, enabled := false, late := false } := by
  cases m
  cases x
  simp_all [MessageSlot.definition]

/-- The slots that keep their definitions through work that ends with the messages cleared. -/
theorem cleared_slot {s u : State} {n : Fin 24}
    (h : (clearMessages u).bem.slots[n].definition = s.bem.slots[n].definition) :
    (clearMessages u).bem.slots[n] = { s.bem.slots[n] with
      payload := (clearMessages u).bem.slots[n].payload, enabled := false, late := false } :=
  MessageSlot.eq_of_definition h (by simp only [Fin.getElem_fin, clearMessages_slot])
    (by simp only [Fin.getElem_fin, clearMessages_slot])

theorem endDut_slot {s : State} (b : Bool) (n : Fin 24) : (endDut b s).bem.slots[n] = { s.bem.slots[n] with
    payload := (endDut b s).bem.slots[n].payload, enabled := false, late := false } :=
  cleared_slot (((Kept.refl {} s).endDut b).bus.slots rfl n)

theorem terminate_peers (v : Verdict) (m : VerdictFlags → VerdictFlags) (s : State) :
    (terminate v m s).clu.peers = s.clu.peers := by
  unfold terminate
  split
  · rfl
  · exact endCheck_peers _ s

theorem workEnded_false (s : State) : workEnded false s = flushQueue false (terminate .aborted id s) := rfl

theorem endDut_payload (b : Bool) (s : State) (n : Fin 24) :
    (endDut b s).bem.slots[n].payload = (workEnded b s).bem.slots[n].payload := by
  rw [endDut_eq, clearMessages_payload, offRequest_payload, stationIdle_bem]

theorem endDut_grows (b : Bool) (s : State) : Grows s (endDut b s) := by
  obtain ⟨l, grown⟩ := ((terminate_grows .aborted _ s).trans (flushQueue_grows b _) : Grows s (workEnded b s))
  exact ⟨l, by simpa [endDut_eq] using grown⟩

end Sys2Proof.Machine

namespace Sys2Proof.Certificates

open Machine

/-- Settles O26: the check ended and the queue flushed behind the RECEIPT, then what still may start. -/
theorem controlAbortAndEndDut : Obligations.ControlAbortAndEndDut := by
  intro s f b p ends
  refine ⟨fun flush target hp => ⟨?_, ?_, ?_, ?_⟩, ?_⟩
  · rintro rfl still other
    have oi := answerControl_oi b (leadingHalf p) .accepted (8 - s.oi.queue.length) (heardFrame s)
    have same := answerControl_same b (leadingHalf p) .accepted (8 - s.oi.queue.length) s
    rw [exec_controlAbort ends hp, controlAbort_of_unnamed other]
    exact congrArg _ (settle_of_still (still.of_parts (by simp [oi]) (by simp [oi]) same.ckr))
  · intro k hk named running ended
    rw [exec_controlAbort ends hp, controlAbort_of_named hk named]
    have free : (if flush then 8 else 8 - s.oi.queue.length) = 8 := by
      rcases ended with rfl | empty
      · rfl
      · simp [empty]
    rw [free]
    have oi := answerControl_oi b (leadingHalf p) .accepted 8 (heardFrame s)
    obtain ⟨left, away⟩ := abortedFrom_flushed hk (answerControl_same b (leadingHalf p) .accepted 8 s)
      (congrArg (·.queue) oi) ended
    rw [oi] at away
    dsimp only at left away ⊢
    refine ⟨_, congrArg _ (settle_of_idle left.idle (by rw [away]) (by rw [away]; exact running)), ?_⟩
    exact ⟨left.formed, left.idle, left.noisy, by rw [away]; rfl, left.peers, left.rail, left.restored, left.stopped,
      answered_first left.grows⟩
  · rintro k o rest hk named running rfl queue retry
    rw [exec_controlAbort ends hp, controlAbort_of_named hk named]
    simp only [Bool.false_eq_true, if_false]
    have oi := answerControl_oi b (leadingHalf p) .accepted (8 - s.oi.queue.length) (heardFrame s)
    have left := abortedFrom hk (answerControl_same b (leadingHalf p) .accepted (8 - s.oi.queue.length) s)
    have kept := (terminate_oi .aborted id _).trans oi
    generalize terminate .aborted id _ = T at left kept ⊢
    refine ⟨fun rail ramp actions time meas => ?_, fun rail => ?_⟩
    · have next := settle_of_next left.idle (by rw [kept]; exact running) (by rw [kept]; exact queue)
        (left.rail.blocksStart_of_away retry rail ramp) actions time meas
      refine ⟨_, congrArg _ next, left.formed, ?_, answered_first left.grows, _, rfl, rfl, rfl, rfl⟩
      change { T.oi with queue := rest, station := .running } = _
      rw [kept, ← running]
      rfl
    · have blocked := left.rail.blocksStart_of_discharging rail
      refine ⟨_, congrArg _ (settle_of_blocked left.idle blocked (by rw [kept]; exact running)), left.formed,
        left.idle, ?_, answered_first left.grows⟩
      rw [← kept]
      rfl
  · rintro rfl resting
    have oi := answerControl_oi b (leadingHalf p) .accepted 8 (heardFrame s)
    have same := answerControl_same b (leadingHalf p) .accepted 8 s
    have other : ∀ k, s.ckr = some k → ¬ Named target k := by
      rintro k hk
      rcases resting with ⟨idle, _⟩ | ⟨k', hk', _, unnamed⟩
      · exact nomatch idle.symm.trans hk
      · obtain rfl : k' = k := Option.some.inj (hk'.symm.trans hk)
        exact unnamed
    rw [exec_controlAbort ends hp, controlAbort_of_unnamed other]
    simp only [if_true]
    have first := answered_first (flushQueue_grows false (answerControl b (leadingHalf p) .accepted 8 (heardFrame s)))
    generalize answerControl b (leadingHalf p) .accepted 8 (heardFrame s) = A at oi same first ⊢
    have away : (flushQueue false A).oi = { (heardFrame s).oi with queue := [] } := by rw [flushQueue_oi, oi]
    have ckr : (flushQueue false A).ckr = s.ckr := (flushQueue_ckr false A).trans same.ckr
    have still : Still (flushQueue false A) := by
      rcases resting with ⟨idle, station⟩ | ⟨k, hk, waits, _⟩
      · exact .inl ⟨ckr.trans idle, by rw [away], by rw [away]; exact station⟩
      · exact .inr ⟨k, ckr.trans hk, waits⟩
    have formed := (flushQueue_formed_of_queue (congrArg (·.queue) oi) false).congr same.vdu.symm (by rw [same.bem])
      same.pending.symm rfl
    exact ⟨_, congrArg _ (settle_of_still still), formed, ckr, away, (flushQueue_spu false A).trans same.spu,
      (flushQueue_bem false A).trans same.bem, (flushQueue_clu false A).trans same.clu, first⟩
  · intro hp
    have oi := answerControl_oi b (leadingHalf p) .accepted 8 (heardFrame s)
    have same := answerControl_same b (leadingHalf p) .accepted 8 s
    have first := answered_first (endDut_grows false (answerControl b (leadingHalf p) .accepted 8 (heardFrame s)))
    rw [exec_controlEndDut ends hp]
    generalize answerControl b (leadingHalf p) .accepted 8 (heardFrame s) = A at oi same first ⊢
    refine ⟨_, rfl, endDut_ckr _ _, by rw [endDut_oi, oi]; rfl, same.spu ▸ endDut_offAsked false A, rfl, ?_,
      fun n => by rw [← same.bem]; exact endDut_slot false n, ?_, ?_, first, fun idle => ⟨?_, fun n => ?_⟩,
      fun k hk => ?_⟩
    · rw [endDut_eq, clearMessages_current, offRequest_current, stationIdle_bem, workEnded, flushQueue_bem,
        terminate_current, same.bem]
    · rw [endDut_eq, clearMessages_clu, offRequest_peers, stationIdle_clu, workEnded, flushQueue_clu, terminate_peers,
        same.clu]
    · rw [endDut_eq, clearMessages_opu, offRequest_errors, stationIdle_opu, workEnded, flushQueue_opu,
        terminate_errors, same.opu]
    · have flushed := flushQueue_formed_of_queue (s := A) (congrArg (·.queue) oi) false
      have formed : Formed A (workEnded false A) (s.flushed false) := by
        rwa [workEnded_false, terminate_of_none (same.ckr.trans idle)]
      exact (endDut_formed formed).congr same.vdu.symm (by rw [same.bem]) same.pending.symm rfl
    · rw [endDut_payload, workEnded, flushQueue_bem, terminate_of_none (same.ckr.trans idle), same.bem]
    · obtain ⟨left, _⟩ := abortedFrom_flushed hk same (congrArg (·.queue) oi) (flush := true) (.inl rfl)
      change AbortedFrom s A (workEnded false A) k _ at left
      refine ⟨left.formed.congr rfl rfl rfl (endDut_vdu _ _), (endDut_noisy _ _).trans left.noisy, ?_, ?_⟩
      · exact left.restored.of_payload fun n => endDut_payload false A n
      · exact left.stopped.congr rfl rfl rfl (by simp [endDut_eq]) (by simp [endDut_eq]) (by simp [endDut_eq])

end Sys2Proof.Certificates
end
section
/-! RESTART (R32): what the release of claims and the end of work hand in and keep on the rack line, and the replies. -/

namespace Sys2Proof.Machine

/-! ## What is announced -/

/-- What waits to be announced tells of no claim and no NOISY that are gone. -/
def State.Shown (s : State) : Prop :=
  s.rli.silent = false ∧ ∀ a cls, s.rli.buffer = some (a, cls) →
    (s.clu.claim = none → a.claim = none) ∧ (s.clu.noisy = false → a.noisy = false)

/-- From s to t the rack line was given announcements and replies alone. -/
structure Announces (s t : State) : Prop where
  line : s.rli.contention.sending = false → t.rli = { s.rli with buffer := t.rli.buffer, replies := t.rli.replies }
  shown : s.Shown → t.Shown
  silent : t.rli.silent = s.rli.silent

theorem Announces.of_same {s t : State} (rli : t.rli = s.rli) (claim : t.clu.claim = s.clu.claim)
    (noisy : t.clu.noisy = s.clu.noisy) : Announces s t where
  line := fun _ => by rw [rli]
  shown := fun h => by
    unfold State.Shown at *
    rwa [rli, claim, noisy]
  silent := by rw [rli]

theorem Announces.trans {s t u : State} (h : Announces s t) (h' : Announces t u) : Announces s u where
  line := fun idle => by
    have line := h.line idle
    rw [h'.line (by rw [line]; exact idle), line]
  shown := fun shown => h'.shown (h.shown shown)
  silent := h'.silent.trans h.silent

theorem handInAnnouncement_line {r : Rli} (idle : r.contention.sending = false) (a : Announcement) :
    r.handInAnnouncement a = { r with
      buffer := (r.handInAnnouncement a).buffer, replies := (r.handInAnnouncement a).replies } := by
  have same : r.contention.noteRewrite = r.contention := by
    cases h : r.contention with
    | transmitting tx => rw [h] at idle; exact nomatch idle
    | _ => rfl
  unfold Rli.handInAnnouncement
  split
  · rfl
  · rw [same]

/-- What is built and handed in tells of the claim and of NOISY as they are. -/
theorem announces_handIn {s u : State} (rli : u.rli = s.rli) : Announces s (handIn u) where
  line := fun idle => by
    have line := handInAnnouncement_line idle (buildAnnouncement u)
    rwa [← rli] at line ⊢
  shown := fun ⟨audible, _⟩ => by
    refine ⟨by rw [handIn_silent, rli, audible], fun a cls buffer => ?_⟩
    rw [handIn_buffer (by rw [rli, audible])] at buffer
    obtain ⟨rfl, -⟩ := Prod.mk.inj (Option.some.inj buffer)
    rw [handIn_clu]
    exact ⟨fun none => by simp [buildAnnouncement, none], id⟩
  silent := by rw [handIn_silent, rli]

theorem announces_takeClaim (q : ClaimRequest) {s u : State} (rli : u.rli = s.rli) : Announces s (takeClaim q u) := by
  unfold takeClaim
  dsimp only
  generalize taken : u.setClu { u.clu.setLastTicket _ _ with claim := _ } = v
  have same : v.rli = s.rli := by rw [← taken, ← rli]; rfl
  exact (announces_handIn same).trans (.of_same (by simp) (by simp) (by simp))

theorem announces_takeDeferred (s : State) : Announces s (takeDeferred s) := by
  unfold takeDeferred
  split
  · exact announces_takeClaim _ rfl
  · exact .of_same rfl rfl rfl

/-- From s to t the rack line was given announcements and replies alone, and with no claim and NOISY clear none of the
former. -/
structure Released (s t : State) : Prop extends Announces s t where
  quiet : s.clu.claim = none → s.clu.noisy = false →
    t.clu.claim = none ∧ t.clu.noisy = false ∧ t.rli.buffer = s.rli.buffer

theorem Released.of_same {s t : State} (rli : t.rli = s.rli) (claim : t.clu.claim = s.clu.claim)
    (noisy : t.clu.noisy = s.clu.noisy) : Released s t :=
  ⟨.of_same rli claim noisy, fun none quiet => ⟨claim.trans none, noisy.trans quiet, by rw [rli]⟩⟩

theorem Released.trans {s t u : State} (h : Released s t) (h' : Released t u) : Released s u :=
  ⟨h.toAnnounces.trans h'.toAnnounces, fun none quiet => by
    obtain ⟨none', quiet', buffer⟩ := h.quiet none quiet
    obtain ⟨none'', quiet'', buffer'⟩ := h'.quiet none' quiet'
    exact ⟨none'', quiet'', buffer'.trans buffer⟩⟩

/-- The same before a step that gives announcements and replies alone. -/
theorem Released.after {s t u : State} (h : Released u t) (rli : u.rli = s.rli) (claim : u.clu.claim = s.clu.claim)
    (noisy : u.clu.noisy = s.clu.noisy) : Released s t :=
  (Released.of_same rli claim noisy).trans h

theorem released_dropDeferred (who : Requester) (r : Resource) (s : State) : Released s (dropDeferred who r s) := by
  unfold dropDeferred
  split
  · split <;> exact .of_same rfl rfl rfl
  · exact .of_same rfl rfl rfl

theorem released_releaseClaim (who : Requester) (r : Resource) (s : State) : Released s (releaseClaim who r s) := by
  refine (released_dropDeferred who r s).trans ?_
  unfold releaseClaim
  dsimp only
  generalize dropDeferred who r s = u
  split
  · next held =>
    refine ⟨(announces_handIn (s := u) (u := u.setClu { u.clu with claim := none }) rfl).trans
      (announces_takeDeferred _), fun none => ?_⟩
    simp [holdsClaim, none] at held
  · exact .of_same rfl rfl rfl

theorem released_releaseAllOf (who : Requester) (s : State) : Released s (releaseAllOf who s) :=
  (released_dropDeferred who .inrush s).trans <| (released_dropDeferred who .quiet _).trans <|
    (released_dropDeferred who .operator _).trans <| (released_releaseClaim who .inrush _).trans <|
      (released_releaseClaim who .quiet _).trans (released_releaseClaim who .operator _)

theorem released_clearNoisy (s : State) : Released s (clearNoisy s) := by
  unfold clearNoisy
  split
  · next noisy => exact ⟨announces_handIn rfl, fun _ quiet => nomatch noisy.symm.trans quiet⟩
  · exact .of_same rfl rfl rfl

theorem released_releaseEverything (s : State) : Released s (releaseEverything s) := by
  unfold releaseEverything
  dsimp only
  split
  · next changed =>
    refine ⟨announces_handIn rfl, fun none quiet => ?_⟩
    simp [none, quiet] at changed
  · next same =>
    have same : s.clu.claim = none ∧ s.clu.noisy = false := by simpa using same
    exact .of_same rfl same.1.symm same.2.symm

theorem released_handInReply (x : Reply) (s : State) : Released s (handInReply x s) := by
  have line : (handInReply x s).rli = { s.rli with replies := (handInReply x s).rli.replies } := by
    change s.rli.handInReply x = { s.rli with replies := (s.rli.handInReply x).replies }
    unfold Rli.handInReply
    split <;> rfl
  refine ⟨⟨fun _ => by rw [line], fun shown => ?_, by rw [line]⟩, fun none quiet => ⟨none, quiet, by rw [line]⟩⟩
  unfold State.Shown
  rw [line]
  exact shown

theorem released_formVerdict (c : VerdictContent) (s : State) : Released s (formVerdict c s) := by
  unfold formVerdict
  exact (released_handInReply _ _).after rfl rfl rfl

theorem released_formAll (xs : List VerdictContent) : ∀ s : State, Released s (formAll xs s) := by
  induction xs with
  | nil => exact fun s => .of_same rfl rfl rfl
  | cons x xs ih => exact fun s => (released_formVerdict x s).trans (ih _)

theorem released_takeSummary (s : State) : Released s (takeSummary s) := by
  unfold takeSummary
  dsimp only
  split
  · exact (released_handInReply _ s).trans (.of_same rfl rfl rfl)
  · exact released_handInReply _ s

theorem released_flushQueue (b : Bool) (s : State) : Released s (flushQueue b s) := by
  have emptied (n : Nat) (xs : List VerdictContent) :
      Released s (formAll xs ((s.setOi { s.oi with queue := [] }).setChoices n)) :=
    (released_formAll xs _).after rfl rfl rfl
  rw [flushQueue_eq]
  dsimp only
  split
  · have first := emptied (s.choices + 1) ((s.flushed b).take (Config.takenAfter s.choices))
    split
    · refine (first.trans (released_takeSummary _)).trans ?_
      exact (released_formAll _ _).after rfl rfl rfl
    · exact first
  · exact emptied s.choices (s.flushed b)

/-- The check of record k stopped, its patterns put back, its claims released and NOISY cleared. -/
theorem released_stopped (k : CheckRecord) (s : State) :
    Released s (clearNoisy (releaseAllOf .ckr (withdrawAudible (applyRestores k (stopWork k s))))) := by
  have stopped : Released s (withdrawAudible (applyRestores k (stopWork k s))) :=
    .of_same (by simp [withdrawAudible]) (by simp [withdrawAudible]) (by simp [withdrawAudible])
  exact (stopped.trans (released_releaseAllOf .ckr _)).trans (released_clearNoisy _)

theorem released_endCheck (v : Option VerdictContent) (s : State) : Released s (endCheck v s) := by
  unfold endCheck
  split
  · exact .of_same rfl rfl rfl
  · next k _ =>
    have left := released_stopped k s
    cases v with
    | none => exact left.trans (.of_same rfl rfl rfl)
    | some x => exact (left.trans (released_formVerdict x _)).trans (.of_same rfl rfl rfl)

theorem released_terminate (v : Verdict) (m : VerdictFlags → VerdictFlags) (s : State) :
    Released s (terminate v m s) := by
  unfold terminate
  split
  · exact .of_same rfl rfl rfl
  · exact released_endCheck _ s

theorem released_offRequest (s : State) : Released s (offRequest s) := by
  have cancelled : Released s (beginDischarge (cancelRetry s)) := by
    refine Released.trans (t := cancelRetry s) ?_ (.of_same (by simp) (by simp) (by simp))
    unfold cancelRetry
    split
    · exact (released_releaseClaim .spu .inrush s).trans (.of_same rfl rfl rfl)
    · exact .of_same rfl rfl rfl
  unfold offRequest
  split
  case h_2 =>
    split
    · exact cancelled
    · exact .of_same (by simp) (by simp) (by simp)
  case h_1 | h_7 | h_9 => exact .of_same rfl rfl rfl
  all_goals exact cancelled

theorem released_endDut (b : Bool) (s : State) : Released s (endDut b s) := by
  have work : Released s (workEnded b s) := (released_terminate .aborted _ s).trans (released_flushQueue b _)
  rw [endDut_eq]
  refine work.trans (Released.trans (t := offRequest (stationIdle (workEnded b s))) ?_
    (.of_same (by simp) (by simp) (by simp)))
  exact (released_offRequest _).after (by simp) (by simp) (by simp)

/-! ## The panel at the end of work (R84, R182, R193) -/

/-- Of a panel another place for the operator has been stored. -/
def Opu.Placed (o p : Opu) : Prop := ∃ place, p = { o with place := place }

/-- Of a panel nothing has changed but the place, or its prompt has been ended. -/
def Opu.Spared (o p : Opu) : Prop := o.Placed p ∨ o.toIdle.Placed p

theorem Opu.Placed.refl (o : Opu) : o.Placed o := ⟨o.place, rfl⟩

theorem Opu.Placed.trans {o p q : Opu} (h : o.Placed p) (h' : p.Placed q) : o.Placed q := by
  obtain ⟨x, rfl⟩ := h
  obtain ⟨y, rfl⟩ := h'
  exact ⟨y, rfl⟩

theorem Opu.Placed.toIdle {o p : Opu} (h : o.Placed p) : p.toIdle = o.toIdle := by
  obtain ⟨x, rfl⟩ := h
  rfl

theorem Opu.Spared.trans {o p q : Opu} (h : o.Spared p) (h' : p.Spared q) : o.Spared q := by
  rcases h with h | h
  · rcases h' with h' | h'
    · exact .inl (h.trans h')
    · exact .inr (h.toIdle ▸ h')
  · rcases h' with h' | h'
    · exact .inr (h.trans h')
    · exact .inr ((h.toIdle.trans rfl : p.toIdle = o.toIdle) ▸ h')

theorem placed_givePlace (s : State) : s.opu.Placed (givePlace s).opu := by
  unfold givePlace
  split
  · split
    · exact ⟨_, rfl⟩
    · exact .refl _
  · exact .refl _

theorem placed_takeDeferred (s : State) : s.opu.Placed (takeDeferred s).opu := by
  unfold takeDeferred
  split
  · exact placed_givePlace (handIn _)
  · exact .refl _

theorem placed_releaseClaim (who : Requester) (r : Resource) (s : State) :
    s.opu.Placed (releaseClaim who r s).opu := by
  unfold releaseClaim
  dsimp only
  split
  · have taken := placed_takeDeferred (removeClaim (dropDeferred who r s))
    rwa [removeClaim_opu, dropDeferred_opu] at taken
  · rw [dropDeferred_opu]
    exact .refl _

theorem placed_releaseAllOf (who : Requester) (s : State) : s.opu.Placed (releaseAllOf who s).opu := by
  have first := placed_releaseClaim who .inrush
    (dropDeferred who .operator (dropDeferred who .quiet (dropDeferred who .inrush s)))
  rw [dropDeferred_opu, dropDeferred_opu, dropDeferred_opu] at first
  exact (first.trans (placed_releaseClaim who .quiet _)).trans (placed_releaseClaim who .operator _)

theorem spared_promptEnd (s : State) : s.opu.Spared (promptEnd s).opu := by
  unfold promptEnd
  split
  · exact .inl (.refl _)
  · exact .inr (.refl _)

theorem spared_stopWork (k : CheckRecord) (s : State) : s.opu.Spared (stopWork k s).opu := by
  unfold stopWork
  dsimp only
  split
  · next prompting =>
    rw [prompting]
    have ended := spared_promptEnd (powerUpCancel s)
    rwa [powerUpCancel_opu] at ended
  · refine .inl ⟨s.opu.place, ?_⟩
    split <;> simp

theorem spared_endCheck (v : Option VerdictContent) (s : State) : s.opu.Spared (endCheck v s).opu := by
  unfold endCheck
  split
  · exact .inl (.refl _)
  · next k _ =>
    have released := placed_releaseAllOf .ckr (withdrawAudible (applyRestores k (stopWork k s)))
    have away : (withdrawAudible (applyRestores k (stopWork k s))).opu = (stopWork k s).opu := by simp [withdrawAudible]
    rw [away] at released
    have left := (spared_stopWork k s).trans (.inl released)
    cases v <;> simpa using left

theorem placed_offRequest (s : State) : s.opu.Placed (offRequest s).opu := by
  have cancelled : s.opu.Placed (beginDischarge (cancelRetry s)).opu := by
    rw [beginDischarge_opu]
    unfold cancelRetry
    split
    · exact placed_releaseClaim .spu .inrush s
    · exact .refl _
  unfold offRequest
  split
  case h_2 =>
    split
    · exact cancelled
    · rw [railTo_opu]
      exact .refl _
  case h_1 | h_7 | h_9 => exact .refl _
  all_goals exact cancelled

theorem spared_endDut (b : Bool) (s : State) : s.opu.Spared (endDut b s).opu := by
  have ended : s.opu.Spared (workEnded b s).opu := by
    rw [workEnded, flushQueue_opu]
    unfold terminate
    split
    · exact .inl (.refl _)
    · exact spared_endCheck _ s
  have released := placed_offRequest (stationIdle (workEnded b s))
  rw [stationIdle_opu] at released
  have left := ended.trans (.inl released)
  simpa [endDut_eq] using left

/-! ## The verdict frames of work that ends (R83, R168) -/

theorem handInReply_replies {s : State} (audible : s.rli.silent = false) (room : s.rli.replies.length < 16)
    (x : Reply) : (handInReply x s).rli.replies = s.rli.replies ++ [x] := by
  have has : s.rli.hasRoom = true := by simp [Rli.hasRoom, audible, Config.replySize, room]
  rw [handInReply_rli, Rli.handInReply, if_pos has]

theorem formVerdict_replies {s : State} (audible : s.rli.silent = false) (room : s.rli.replies.length < 16)
    (c : VerdictContent) : (formVerdict c s).rli.replies = s.rli.replies ++ [.verdict (recordOf c s)] := by
  unfold formVerdict
  exact handInReply_replies audible room _

theorem formAll_replies (xs : List VerdictContent) : ∀ {s : State}, s.rli.silent = false →
    s.rli.replies.length + xs.length ≤ 16 → (formAll xs s).rli.replies =
      s.rli.replies ++ (recordsOf s.bem.current s.vdu.seq xs).map .verdict := by
  induction xs with
  | nil => exact fun _ _ => (List.append_nil _).symm
  | cons x xs ih =>
    intro s audible room
    rw [List.length_cons] at room
    have first := formVerdict_replies audible (by omega) x
    have next := ih (s := formVerdict x s) ((released_formVerdict x s).silent.trans audible)
      (by rw [first, List.length_append, List.length_singleton]; omega)
    change (formAll xs (formVerdict x s)).rli.replies = _
    rw [next, first, List.append_assoc]
    simp [recordsOf, recordOf, vduWith]

theorem flushQueue_replies {s : State} (audible : s.rli.silent = false) (next : NoTakeNext s)
    (room : s.rli.replies.length + s.oi.queue.length ≤ 16) : (flushQueue false s).rli.replies =
      s.rli.replies ++ (recordsOf s.bem.current s.vdu.seq (s.flushed false)).map .verdict := by
  rw [flushQueue_eq]
  dsimp only
  rw [if_neg (ne_true_of_eq_false (takeWaits_of_noTakeNext next))]
  exact formAll_replies _ audible (by simpa [State.flushed] using room)

theorem endCheck_replies {s : State} {k : CheckRecord} (h : s.ckr = some k) (audible : s.rli.silent = false)
    (room : s.rli.replies.length < 16) (x : VerdictContent) : (endCheck (some x) s).rli.replies =
      s.rli.replies ++ [.verdict ⟨x, s.bem.current, s.vdu.seq + 1⟩] := by
  simp only [endCheck, h, State.setCkr_rli]
  rw [formVerdict_replies ((released_stopped k s).silent.trans audible) (by simpa [withdrawAudible] using room)]
  simp [recordOf, withdrawAudible]

theorem workEnded_replies {s : State} {xs : List VerdictContent} (audible : s.rli.silent = false) (next : NoTakeNext s)
    (room : s.rli.replies.length + 1 + s.oi.queue.length ≤ 16) (work : (s.ckr = none ∧ xs = s.flushed false) ∨
      ∃ k, s.ckr = some k ∧ xs = k.contentEndedBy .aborted k.flags :: s.flushed false) :
    (workEnded false s).rli.replies =
      s.rli.replies ++ (recordsOf s.bem.current s.vdu.seq xs).map .verdict := by
  rw [workEnded_false]
  rcases work with ⟨idle, rfl⟩ | ⟨k, hk, rfl⟩
  · rw [terminate_of_none idle]
    exact flushQueue_replies audible next (by omega)
  · rw [terminate_of_some hk]
    have first := endCheck_replies hk audible (by omega) (k.contentEndedBy .aborted k.flags)
    rw [flushQueue_replies ((released_endCheck _ s).silent.trans audible) (by simpa [NoTakeNext] using next)
      (by rw [id, first]; simp; omega), id, first, List.append_assoc, endCheck_vdu hk, endCheck_current]
    simp [recordsOf, vduWith, State.flushed]

/-! ## RESTART (R32) -/

theorem restart_eq (s : State) : restart s = promptEnd (releaseEverything (endDut false s)) := rfl

theorem restart_oi (s : State) : (restart s).oi = { s.oi with
    queue := [], station := if s.oi.station = .running then .ready else s.oi.station } := by
  rw [restart_eq, promptEnd_oi, releaseEverything_oi, endDut_oi]

theorem restart_ckr (s : State) : (restart s).ckr = none := by
  rw [restart_eq, promptEnd_ckr, releaseEverything_ckr, endDut_ckr]

theorem settle_restart (s : State) : settle (restart s) = restart s := by
  refine settle_of_still (.inl ⟨restart_ckr s, by rw [restart_oi], ?_⟩)
  rw [restart_oi]
  dsimp only
  split
  · exact nofun
  · next still => exact still

theorem released_restart (s : State) : Released s (restart s) :=
  ((released_endDut false s).trans (released_releaseEverything _)).trans
    (.of_same (by simp [restart_eq]) (by simp [restart_eq]) (by simp [restart_eq]))

/-- The panel after RESTART: its prompt ended, in this step or long before. -/
theorem restart_opu (s : State) : ∃ place, (restart s).opu = { s.opu.toIdle with place := place } ∨
    (s.opu.state = .idle ∧ (restart s).opu = { s.opu with place := place }) := by
  have last : (restart s).opu = if (endDut false s).opu.state = .idle then (endDut false s).opu
      else (endDut false s).opu.toIdle := by
    rw [restart_eq, promptEnd_opu, releaseEverything_opu]
  rw [last]
  rcases spared_endDut false s with placed | placed
  · split
    · next idle =>
      obtain ⟨place, same⟩ := placed
      exact ⟨place, .inr ⟨by rw [same] at idle; exact idle, same⟩⟩
    · exact ⟨none, .inl placed.toIdle⟩
  · obtain ⟨place, same⟩ := placed
    exact ⟨place, .inl (by rw [if_pos (by rw [same]; rfl), same])⟩

theorem restart_replies (s : State) : (restart s).rli.replies = (workEnded false s).rli.replies := by
  simp [restart_eq, endDut_eq]

theorem restart_vdu (s : State) : (restart s).vdu = (workEnded false s).vdu := by
  simp [restart_eq, endDut_eq]

theorem restart_slot (s : State) (n : Fin 24) : (restart s).bem.slots[n] = { s.bem.slots[n] with
    payload := (restart s).bem.slots[n].payload, enabled := false, late := false } := by
  have same : (restart s).bem = (endDut false s).bem := by simp [restart_eq]
  rw [same]
  exact endDut_slot false n

/-- The state in which RESTART is carried out: the frame ended, where the station was not sending, and the buffers
emptied (R19). -/
def restarting (s : State) : State :=
  let u := heard (if s.rli.contention.sending then s else ended s)
  u.setRli u.rli.emptyBuffers

theorem exec_controlRestart {s : State} {f : RxFrame} {b : Bool} {p : List Byte} (running : s.resetHeld = false)
    (control : classify s.rli f = .control b p) (hp : parseControl p = some .restart) : exec (.controlRestart f) s =
      .next (restart (answerControl b (leadingHalf p) .accepted 8 (restarting s))) := by
  rw [← settle_restart]
  change execControlRestart f s = .next (controlRestart b (leadingHalf p) (heard _))
  unfold execControlRestart
  cases sending : s.rli.contention.sending with
  | false =>
    have idle : Ends s f (.control b p) := ⟨running, sending, control⟩
    have done := act_frameEvent_of_ends (a := (b, leadingHalf p, ()))
      (fun x s => controlRestart x.1 x.2.1 (heard s)) idle nofun
      (pickControl_of_parse (sel := fun c => match c with | .restart => some () | _ => none) b hp rfl)
    rw [act_of_running running] at done ⊢
    rw [sending]
    exact done
  | true =>
    rw [act_of_running running, sending, if_pos rfl, frameTaken, control,
      pickControl_of_parse (a := ()) b hp rfl]
    rfl

theorem audible_of_control {r : Rli} {f : RxFrame} {b : Bool} {p : List Byte} (h : classify r f = .control b p) :
    r.silent = false := by
  cases silent : r.silent with
  | false => rfl
  | true =>
    cases filtered : rxFilter r.slot f with
    | none => exact nomatch (classify_of_filtered filtered).symm.trans h
    | some i => exact nomatch (classify_of_silent filtered silent).symm.trans h

theorem restarting_same (b : Bool) (reference : Half) (s : State) :
    SameBlocks s (answerControl b reference .accepted 8 (restarting s)) := by
  unfold restarting
  cases b <;> split <;> constructor <;> rfl

theorem restarting_oi (s : State) : (restarting s).oi = (heardFrame s).oi := by
  unfold restarting
  split <;> rfl

/-- The line where RESTART is carried out: both buffers empty, a transmission abandoned, or the frame's end taken. -/
theorem restarting_rli (s : State) : (restarting s).rli =
    if s.rli.contention.sending then { s.rli with contention := .busy, drove := true, buffer := none, replies := [] }
    else { s.rli.frameEnd true with buffer := none, replies := [] } := by
  unfold restarting
  cases sending : s.rli.contention.sending with
  | true =>
    change s.rli.emptyBuffers = _
    rw [Rli.emptyBuffers, Rli.abandon, sending]
    rfl
  | false => rfl

/-- The line with its buffers left out. -/
def Rli.bare (r : Rli) : Rli := { r with buffer := none, replies := [] }

theorem restarting_bare (s : State) : (restarting s).rli.bare = (restarting s).rli := by
  rw [restarting_rli]
  split <;> rfl

theorem restarting_quiet (s : State) : (restarting s).rli.contention.sending = false := by
  rw [restarting_rli]
  split <;> rfl

theorem answered_rli {s : State} (audible : s.rli.silent = false) (b : Bool) (reference : Half) :
    (answerControl b reference .accepted 8 (restarting s)).rli = { (restarting s).rli with
      replies := if b then [] else [.receipt ⟨.control, reference, .accepted, 8⟩] } := by
  have empty : (restarting s).rli.replies = [] := by rw [← restarting_bare]; rfl
  have silent : (restarting s).rli.silent = false := by
    rw [restarting_rli]
    split <;> exact audible
  cases b with
  | true =>
    change (restarting s).rli = { (restarting s).rli with replies := [] }
    rw [← empty]
  | false =>
    change (restarting s).rli.handInReply _ = _
    rw [Rli.handInReply, if_pos (by simp [Rli.hasRoom, silent, empty, Config.replySize]), empty]
    rfl

end Sys2Proof.Machine

namespace Sys2Proof.Certificates

open Machine

/-- Settles O27: the answer goes before the work that RESTART ends, and the line shows what is left. -/
theorem controlRestartClearsStation : Obligations.ControlRestartClearsStation := by
  intro s f b p running control hp
  have audible := audible_of_control control
  have same := restarting_same b (leadingHalf p) s
  have oi := (answerControl_oi b (leadingHalf p) .accepted 8 (restarting s)).trans (restarting_oi s)
  have answered := answered_rli audible b (leadingHalf p)
  have emptied := restarting_rli s
  have quiet := restarting_quiet s
  rw [exec_controlRestart running control hp]
  generalize answerControl b (leadingHalf p) .accepted 8 (restarting s) = A at same oi answered ⊢
  have released := released_restart A
  have line := released.line (by rw [answered]; exact quiet)
  have clu : (restart A).clu.claim = none ∧ (restart A).clu.deferred = none ∧ (restart A).clu.noisy = false ∧
      (restart A).clu.audible = none := by simp [restart_eq, releaseEverything_clu]
  obtain ⟨unclaimed, undeferred, hushed, unasked⟩ := clu
  have buffer : A.rli.buffer = none := by
    rw [answered, ← restarting_bare]
    rfl
  have shown : (restart A).Shown := released.shown
    ⟨by rw [answered, emptied]; split <;> exact audible, fun _ _ some => nomatch buffer.symm.trans some⟩
  obtain ⟨place, panel⟩ := restart_opu A
  rw [same.opu] at panel
  obtain ⟨cfg, generator⟩ : (restart A).opu.cfg = s.opu.cfg ∧ (restart A).opu.generator = s.opu.generator := by
    rcases panel with panel | ⟨_, panel⟩
    · rw [panel]
      exact ⟨rfl, rfl⟩
    · rw [panel]
      exact ⟨rfl, rfl⟩
  have flushed : A.flushed false = s.flushed false := by
    unfold State.flushed
    rw [oi]
    rfl
  have grown : ∃ l, (restart A).rli.replies = A.rli.replies ++ l := by
    rw [restart_replies]
    exact (terminate_grows _ _ A).trans (flushQueue_grows false _)
  refine ⟨restart A, rfl, restart_ckr A, by rw [restart_oi, oi]; rfl, unclaimed, undeferred, hushed, unasked, ?_, ?_,
    by simp [restart_eq, endDut_eq], ?_, fun n => same.bem ▸ restart_slot A n, ?_, ?_, ?_, ?_, ?_, ?_, ?_, ?_, ?_, ?_,
    ?_, ?_, ?_, fun xs work => ⟨?_, fun next room => ?_⟩⟩
  · simp [restart_eq, endDut_eq, workEnded, terminate_peers, same.clu]
  · rw [restart_eq, promptEnd_spu, releaseEverything_spu, ← same.spu]
    exact endDut_offAsked false A
  · simp [restart_eq, endDut_eq, workEnded, same.bem]
  · simp [restart_eq, endDut_eq, workEnded, same.opu]
  · exact cfg
  · exact generator
  · rcases panel with panel | ⟨idle, panel⟩
    · rw [panel]
      rfl
    · rw [panel]
      exact idle
  · intro busy
    rcases panel with panel | ⟨idle, _⟩
    · rw [panel]
      exact ⟨rfl, rfl, rfl, rfl, rfl, rfl⟩
    · exact absurd idle busy
  · intro sending
    rw [line, answered, emptied, if_pos sending]
    exact ⟨rfl, rfl, rfl⟩
  · intro still
    rw [line, answered, emptied, if_neg (ne_true_of_eq_false still)]
    exact ⟨rfl, rfl⟩
  · rw [line, answered, emptied]
    split <;> rfl
  · rw [line, answered, emptied]
    split <;> rfl
  · rw [line, answered, emptied]
    split <;> rfl
  · intro none still
    obtain ⟨_, _, nothing⟩ := released.quiet (by rw [same.clu]; exact none) (by rw [same.clu]; exact still)
    exact nothing.trans buffer
  · intro a cls waits
    obtain ⟨claim, noisy⟩ := shown.2 a cls waits
    exact ⟨claim unclaimed, noisy hushed⟩
  · obtain ⟨l, grown⟩ := grown
    exact ⟨l, by rw [grown, answered]⟩
  · rw [← same.ckr, ← flushed] at work
    have formed : Formed A (workEnded false A) xs := by
      rcases work with ⟨idle, rfl⟩ | ⟨k, hk, rfl⟩
      · exact workEnded_formed_of_none idle false
      · exact workEnded_formed_of_some hk false
    exact formed.congr same.vdu.symm (by rw [same.bem]) same.pending.symm (restart_vdu A)
  · rw [← same.ckr, ← flushed] at work
    have unsilent : A.rli.silent = false := by
      rw [answered, emptied]
      split <;> exact audible
    have places : A.rli.replies.length + 1 + A.oi.queue.length ≤ 16 := by
      have short : A.rli.replies.length ≤ 1 := by
        rw [answered]
        cases b <;> simp
      rw [oi]
      change _ + _ + s.oi.queue.length ≤ 16
      omega
    have replies := workEnded_replies unsilent (by simpa [NoTakeNext, same.pending] using next) places work
    rw [restart_replies, replies, same.bem, same.vdu, answered]

end Sys2Proof.Certificates
end
section
/-! The end of SETTLING (R79 to R83): the measurement handed to its unit, a BUSFIELD read at once, DONE, or the
prompt. -/

namespace Sys2Proof.Machine

/-! ## The capture slots are left alone by the transmit side -/

@[simp] theorem enqueue_captures (x : TxInstance) (s : State) : (enqueue x s).bem.captures = s.bem.captures := by
  unfold enqueue
  dsimp only
  split
  · simp [setLate, setSlot]
  · rfl

@[simp] theorem fallDue_captures (n : Nat) (s : State) : (fallDue n s).bem.captures = s.bem.captures := by
  unfold fallDue snapshot
  split
  · exact enqueue_captures _ _
  · rfl

@[simp] theorem eventDue_captures (n : Nat) (s : State) : (eventDue n s).bem.captures = s.bem.captures := by
  unfold eventDue
  split <;> simp

@[simp] theorem writeSlot_captures (n start len : Nat) (p : Payload) (s : State) :
    (writeSlot n start len p s).bem.captures = s.bem.captures := by
  unfold writeSlot
  dsimp only
  split
  · exact eventDue_captures n _
  · rfl

@[simp] theorem applyRestores_captures (k : CheckRecord) (s : State) :
    (applyRestores k s).bem.captures = s.bem.captures := by
  rw [applyRestores_eq]
  exact foldl_keeps (fun s : State => s.bem.captures) _
    (fun s (e : RestoreEntry) => writeSlot_captures e.slot e.start e.len e.pattern s) _ s

@[simp] theorem railTo_captures (r : RailState) (s : State) : (railTo r s).bem.captures = s.bem.captures := by
  rw [railTo_eq]
  split <;> rfl

theorem zeroDue_captures (s : State) : (zeroDue s).bem.captures = s.bem.captures := by
  unfold zeroDue
  refine foldl_keeps (fun s : State => s.bem.captures) _ (fun s (n : Nat) => ?_) _ s
  split
  · exact fallDue_captures n s
  · rfl

@[simp] theorem rampArrive_captures (s : State) : (rampArrive s).bem.captures = s.bem.captures := by
  unfold rampArrive startTraffic
  rw [zeroDue_captures]
  exact railTo_captures .on _

@[simp] theorem powerUpCancel_captures (s : State) : (powerUpCancel s).bem.captures = s.bem.captures := by
  unfold powerUpCancel takeFirst
  dsimp only
  split
  · rfl
  · split
    · simp
    · split
      · split <;> simp [beginDischarge_bem_eq]
      · simp [beginDischarge_bem_eq]
    · rfl

theorem endCheck_captures (v : Option VerdictContent) (s : State) : (endCheck v s).bem.captures = s.bem.captures := by
  cases h : s.ckr with
  | none => rw [endCheck_of_none h]
  | some k => rw [endCheck_bem h, applyRestores_captures, stopWork_bem, powerUpCancel_captures]

/-! ## SETTLING left (R70, R79) -/

theorem exec_checkSettleExpiry {s : State} {k : CheckRecord} {m : Nat} (running : s.resetHeld = false)
    (hk : s.ckr = some k) (stage : k.stage = .settling) (timer : k.stageTimer = some m) :
    exec .checkSettleExpiry s = .next (settle (s.setCkr (some { k with stageTimer := none }))) := by
  change execCheckSettleExpiry s = _
  rw [execCheckSettleExpiry, act_of_running running]
  simp [hk, stage, timer]

theorem micro_of_settled {s : State} {k : CheckRecord} (hk : s.ckr = some k) (stage : k.stage = .settling)
    (timer : k.stageTimer = none) (quiet : k.order.isSound = false ∨ holdsQuiet s = true) :
    micro s = some (leaveSettling k s) := by
  have elapsed : settled k s = true := by
    rcases quiet with h | h <;> simp [settled, timer, h]
  simp [micro, hk, stage, elapsed]

theorem micro_none_of_unheld {s : State} {k : CheckRecord} (hk : s.ckr = some k) (stage : k.stage = .settling)
    (sound : k.order.isSound = true) (quiet : holdsQuiet s = false) : micro s = none := by
  simp [micro, hk, stage, settled, sound, quiet]

/-- A step to JUDGING, the check alone. -/
theorem settle_of_step_judging {s t : State} {k : CheckRecord} (h : micro s = some t) (alone : RunsAlone t k)
    (judging : k.stage = .judging) : settle s = settle t := by
  rw [settle_of_judging alone judging]
  obtain ⟨inFlight, empty, running⟩ := alone
  have ends : micro t = some (endCheck (some k.judgedContent) t) := by simp [micro, inFlight, judging, finishJudged]
  have idles : micro (endCheck (some k.judgedContent) t) =
      some ((endCheck (some k.judgedContent) t).setOi t.oiReady) := by
    simp [micro, empty, running, stationIdle, State.oiReady]
  have rests : micro ((endCheck (some k.judgedContent) t).setOi t.oiReady) = none := by
    simp [micro, empty, State.oiReady]
  simp [settle, runOn, h, ends, idles, rests]

/-- What a check alone leaves that goes to JUDGING in one step, its record j then. -/
theorem judged_of_step {s : State} {k j : CheckRecord} {c : Option CheckRecord} (alone : RunsAlone s k)
    (h : micro (s.setCkr c) = some (s.setCkr (some j))) (judging : j.stage = .judging) :
    Judged s (settle (s.setCkr c)) j.judgedContent ∧ (settle (s.setCkr c)).oi = s.oiReady ∧
      (settle (s.setCkr c)).bem.captures = s.bem.captures ∧
      (s.clu.deferred = none → (settle (s.setCkr c)).opu = s.opu) := by
  obtain ⟨_, empty, running⟩ := alone
  have alone : RunsAlone (s.setCkr (some j)) j := ⟨rfl, empty, running⟩
  obtain ⟨judged, ready, _, _, opu⟩ := settle_judging_leaves alone judging
  have captures : (settle (s.setCkr (some j))).bem.captures = s.bem.captures := by
    rw [settle_of_judging alone judging]
    exact endCheck_captures _ _
  rw [settle_of_step_judging h alone judging]
  exact ⟨judged, ready, captures, opu⟩

/-- A step to PROMPTING. -/
theorem settle_of_step_prompting {s t : State} {k : CheckRecord} {p : Prompt} (h : micro s = some t)
    (ht : t.ckr = some { k with stage := .prompting, waitsOn := .none }) (hp : k.order.prompt = some p) :
    settle s = settle t := by
  have enters : micro t = some (enterPrompting p { k with stage := .prompting, waitsOn := .none } t) := by
    simp [micro, ht, hp]
  have waits : micro (enterPrompting p { k with stage := .prompting, waitsOn := .none } t) = none :=
    micro_none_of_waits (c := { k with stage := .prompting, waitsOn := .claim .operator }) (by simp [enterPrompting])
      (.inr (.inr (.inl ⟨rfl, nofun⟩)))
  rw [settle_of_two h enters waits, settle_of_one enters waits]

/-- A step to PROMPTING has the prompt handed over. -/
theorem prompted_of_step {s t : State} {k : CheckRecord} {p : Prompt} (h : micro s = some t)
    (ht : t = s.setCkr (some { k with stage := .prompting, waitsOn := .none })) (hp : k.order.prompt = some p) :
    Prompted s (settle s) k p := by
  subst ht
  rw [settle_of_step_prompting h rfl hp, settle_of_prompting rfl hp]
  exact (prompted_of_requested (s := s.setCkr (some { k with stage := .prompting, waitsOn := .claim .operator })) rfl
    p).of_same rfl rfl rfl rfl rfl rfl rfl

/-! ## A light measurement handed over (R141, R142) -/

theorem settle_of_light {s : State} {k : CheckRecord} {l : LightMeas} {n : Fin 8} (hk : s.ckr = some k)
    (stage : k.stage = .settling) (timer : k.stageTimer = none) (meas : k.order.meas = some (.light l))
    (channel : l.channel = n.val) : settle s =
      (s.setCkr (some { k with stage := .measuring, waitsOn := .measurement })).setLtu
        (s.ltu.setIfInBounds n (s.ltu[n].handover l)) := by
  have leaves : micro s = some (leaveSettling k s) :=
    micro_of_settled hk stage timer (.inl (isSound_of_not fun _ _ _ h => nomatch meas.symm.trans h))
  have hands : leaveSettling k s = (s.setCkr (some { k with stage := .measuring, waitsOn := .measurement })).setLtu
      (s.ltu.setIfInBounds n (s.ltu[n].handover l)) := by
    unfold leaveSettling
    rw [meas]
    dsimp only
    unfold enterMeasuring
    dsimp only
    rw [channel]
    exact updateChannel_fin n _ _
  rw [hands] at leaves
  exact settle_of_one leaves
    (micro_none_of_waits (c := { k with stage := .measuring, waitsOn := .measurement }) rfl (.inl rfl))

theorem handed_over (t : Vector LightChannel 8) (n : Fin 8) (c : LightChannel) :
    (t.setIfInBounds n c)[n] = c ∧ ∀ i : Fin 8, i ≠ n → (t.setIfInBounds n c)[i] = t[i] := by
  refine ⟨by simp, fun i other => ?_⟩
  have away : n.val ≠ i.val := fun same => other (Fin.ext same.symm)
  simp [away]

theorem clampInt_toNat (lo hi : Nat) (g : Nat) : (clampInt lo hi g).toNat = max lo (min hi g) := by
  unfold clampInt
  omega

/-! ## A BUSFIELD read (R130, R163) -/

theorem toNat_readField_of_any (p : Payload) (start len : Nat) :
    (readField p start len).toNat = p.toNat / 2 ^ start % 2 ^ len := by
  refine Nat.eq_of_testBit_eq fun i => ?_
  rw [BitVec.testBit_toNat, getLsbD_readField, Nat.testBit_mod_two_pow, Nat.testBit_div_two_pow, BitVec.testBit_toNat,
    Nat.add_comm]

/-- The top bit of a field tells its upper half. -/
theorem getLsbD_of_top {q : Payload} {len : Nat} (pos : 1 ≤ len) (small : q.toNat < 2 ^ len) :
    q.getLsbD (len - 1) = decide (2 ^ (len - 1) ≤ q.toNat) := by
  have twice : 2 ^ len = 2 ^ (len - 1) * 2 := by rw [← Nat.pow_succ]; congr 1; omega
  rw [← BitVec.testBit_toNat, Nat.testBit_eq_decide_div_mod_eq]
  congr 1
  rw [eq_iff_iff]
  have below : q.toNat / 2 ^ (len - 1) < 2 := Nat.div_lt_of_lt_mul (by omega)
  have above : 1 ≤ q.toNat / 2 ^ (len - 1) ↔ 2 ^ (len - 1) ≤ q.toNat := by
    rw [Nat.one_le_div_iff (Nat.two_pow_pos _)]
  rw [Nat.mod_eq_of_lt below, ← above]
  generalize q.toNat / 2 ^ (len - 1) = half at below ⊢
  omega

theorem rawOf_readField (p : Payload) {start len : Nat} (pos : 1 ≤ len) (signed : Bool) :
    rawOf signed len (readField p start len) =
      let u := p.toNat / 2 ^ start % 2 ^ len
      if signed = true ∧ 2 ^ (len - 1) ≤ u then (u : Int) - 2 ^ len else u := by
  have value := toNat_readField_of_any p start len
  have small : (readField p start len).toNat < 2 ^ len := value ▸ Nat.mod_lt _ (Nat.two_pow_pos len)
  unfold rawOf
  rw [getLsbD_of_top pos small, value]
  simp

theorem captureAt_fin (n : Fin 8) (s : State) : captureAt s n = s.bem.captures[n] :=
  entryAt_fin _ n _

/-- A check whose BUSFIELD cannot be read goes to JUDGING with NO_DATA. -/
theorem readBusField_of_not {s : State} {b : BusField} {n : Fin 8} (slot : b.slot = n.val)
    (away : ¬ (s.bem.captures[n].fresh = true ∧ b.start + b.len ≤ 8 * s.bem.captures[n].lastLen)) :
    readBusField s b = none := by
  have at_ : captureAt s b.slot = s.bem.captures[n] := by rw [slot]; exact captureAt_fin n s
  unfold readBusField
  rw [at_]
  dsimp only
  refine if_pos ?_
  rw [Bool.or_eq_true, decide_eq_true_iff, Bool.not_eq_true']
  by_cases fresh : s.bem.captures[n].fresh = true
  · exact .inr (Nat.lt_of_not_le fun h => away ⟨fresh, h⟩)
  · exact .inl (Bool.eq_false_of_not_eq_true fresh)

theorem readBusField_of_there {s : State} {b : BusField} {n : Fin 8} (slot : b.slot = n.val)
    (there : s.bem.captures[n].fresh = true ∧ b.start + b.len ≤ 8 * s.bem.captures[n].lastLen) :
    readBusField s b =
      some (scaleBusField b (rawOf b.signed b.len (readField s.bem.captures[n].last b.start b.len))) := by
  have at_ : captureAt s b.slot = s.bem.captures[n] := by rw [slot]; exact captureAt_fin n s
  obtain ⟨fresh, within⟩ := there
  unfold readBusField
  rw [at_]
  exact if_neg (by rw [Bool.or_eq_true, decide_eq_true_iff, fresh]; simpa using within)

theorem leaveSettling_of_busField {s : State} {k : CheckRecord} {b : BusField}
    (meas : k.order.meas = some (.busfield b)) : leaveSettling k s = s.setCkr (some
      ((readBusField s b).elim (k.unmeasured .noData) fun v => k.measured v)) := by
  unfold leaveSettling
  rw [meas]
  dsimp only
  unfold enterMeasuring
  dsimp only
  cases readBusField s b <;> rfl

end Sys2Proof.Machine

namespace Sys2Proof.Certificates

open Machine

/-- Settles O20: what SETTLING is left for, by the measurement of the order. -/
theorem checkSettleExpiryHandsMeasurementOver : Obligations.CheckSettleExpiryHandsMeasurementOver := by
  intro s k m running hk stage timer measuring
  rw [exec_checkSettleExpiry running hk stage timer]
  let elapsed := s.setCkr (some { k with stageTimer := none })
  have leaves (quiet : k.order.isSound = false ∨ holdsQuiet s = true) :
      micro elapsed = some (leaveSettling { k with stageTimer := none } elapsed) :=
    micro_of_settled rfl stage rfl quiet
  have silent (h : ∀ n th hy, k.order.meas ≠ some (.sound n th hy)) := leaves (.inl (isSound_of_not h))
  refine ⟨fun n meas => ?_, fun n th hy meas held => ?_, fun n th hy meas unheld => ?_, fun n t w meas => ?_,
    fun n t g w meas => ?_, fun meas prompt value alone => ?_, fun p meas prompt => ?_, fun b n meas slot alone => ?_⟩
  · have hands : leaveSettling { k with stageTimer := none } elapsed = measuring.setCsu (s.csu.startCurrent n) := by
      simp only [leaveSettling, meas]
      rfl
    exact congrArg _ (settle_of_one ((silent fun _ _ _ h => nomatch meas.symm.trans h).trans (congrArg some hands))
      (micro_none_of_waits rfl (.inl rfl)))
  · have hands : leaveSettling { k with stageTimer := none } elapsed = measuring.setCsu (s.csu.startSound n th hy) := by
      simp only [leaveSettling, meas]
      rfl
    exact congrArg _ (settle_of_one ((leaves (.inr held)).trans (congrArg some hands))
      (micro_none_of_waits rfl (.inl rfl)))
  · exact congrArg _ (settle_of_micro_none (micro_none_of_unheld rfl stage (isSound_iff.mpr ⟨n, th, hy, meas⟩) unheld))
  · have hands : settle elapsed = measuring.setLtu (s.ltu.setIfInBounds n (s.ltu[n].handover ⟨n, t, none, w⟩)) :=
      settle_of_light (k := { k with stageTimer := none }) rfl stage rfl meas rfl
    obtain ⟨own, others⟩ := handed_over s.ltu n (s.ltu[n].handover ⟨n, t, none, w⟩)
    refine ⟨_, congrArg _ hands, rfl, ?_⟩
    simp only [State.setLtu_ltu, own]
    exact ⟨rfl, rfl, rfl, rfl, rfl, rfl, rfl, rfl, rfl, others, rfl, rfl, rfl⟩
  · have hands : settle elapsed = measuring.setLtu (s.ltu.setIfInBounds n (s.ltu[n].handover ⟨n, t, some g, w⟩)) :=
      settle_of_light (k := { k with stageTimer := none }) rfl stage rfl meas rfl
    obtain ⟨own, others⟩ := handed_over s.ltu n (s.ltu[n].handover ⟨n, t, some g, w⟩)
    refine ⟨_, congrArg _ hands, rfl, ?_⟩
    simp only [State.setLtu_ltu, own]
    exact ⟨rfl, clampInt_toNat _ _ g, rfl, rfl, rfl, rfl, rfl, rfl, rfl, rfl, rfl, rfl, others, rfl, rfl, rfl⟩
  · have judges := silent fun _ _ _ h => nomatch meas.symm.trans h
    have done : leaveSettling { k with stageTimer := none } elapsed = s.setCkr (some { k with
        stageTimer := none, stage := .judging, waitsOn := .none, judged := .done }) := by
      simp only [leaveSettling, meas, prompt]
      rfl
    obtain ⟨judged, ready, -⟩ := judged_of_step alone (judges.trans (congrArg some done)) rfl
    refine ⟨_, rfl, ready, ?_⟩
    change Judged s _ ⟨k.order.checkId, .done, k.value, k.order.kind, k.gain, k.aux, k.flags, k.attempts⟩ at judged
    generalize settle _ = t at judged ⊢
    rwa [value] at judged
  · have asks := silent fun _ _ _ h => nomatch meas.symm.trans h
    refine ⟨_, rfl, (prompted_of_step (k := { k with stageTimer := none }) asks ?_ prompt).of_same rfl rfl rfl rfl
      rfl rfl rfl⟩
    simp only [leaveSettling, meas, prompt]
  · have reads := (silent fun _ _ _ h => nomatch meas.symm.trans h).trans
      (congrArg some (leaveSettling_of_busField (k := { k with stageTimer := none }) meas))
    have kind : k.order.kind = .busfield := by rw [OrderRec.kind, meas]; rfl
    intro c there
    refine ⟨fun away => ?_, fun u raw x v present pos num value signed scaled => ?_⟩
    · rw [readBusField_of_not (s := elapsed) slot away] at reads
      obtain ⟨judged, ready, captures, -⟩ := judged_of_step alone reads rfl
      refine ⟨_, rfl, ready, captures, ?_⟩
      rw [← kind]
      exact judged
    · intro result limits
      have read : readBusField elapsed b = some result := by
        have coded : rawOf b.signed b.len (readField c.last b.start b.len) = raw := by
          rw [rawOf_readField _ pos, signed, value]
        rw [readBusField_of_there (s := elapsed) slot present]
        change some (scaleBusField b (rawOf b.signed b.len (readField c.last b.start b.len))) = _
        rw [coded, scaleBusField, ← (roundsAway_iff num).mp scaled]
        rfl
      have verdict := judgeLimits_of_limitVerdict limits
      rw [read] at reads
      refine ⟨fun last => ?_, fun p asks pass => ?_⟩
      · have judging : (CheckRecord.measured { k with stageTimer := none } result).stage = .judging := by
          refine if_neg fun asked => ?_
          rcases last with none | other
          · rw [none] at asked
            exact nomatch asked.2
          · exact other (verdict.symm.trans asked.1)
        obtain ⟨judged, ready, captures, opu⟩ := judged_of_step alone reads judging
        refine ⟨_, rfl, ready, captures, opu, ?_⟩
        change Judged s _ ⟨k.order.checkId, judgeLimits k.order.low k.order.high result, some result,
          k.order.kind, k.gain, k.aux, k.flags, k.attempts⟩ at judged
        rwa [verdict, kind] at judged
      · refine ⟨_, rfl, (prompted_of_step (k := { k with stageTimer := none, value := some result, judged := .pass })
          reads (congrArg (fun c => s.setCkr (some c)) ?_) asks).of_same rfl rfl rfl rfl rfl rfl rfl⟩
        have stage : (CheckRecord.measured { k with stageTimer := none } result).stage = .prompting :=
          if_pos ⟨verdict.trans pass, by rw [asks]; rfl⟩
        have judged : (CheckRecord.measured { k with stageTimer := none } result).judged = .pass := verdict.trans pass
        rw [← stage, ← judged]
        rfl

end Sys2Proof.Certificates
end
section
/-! The cluster bus: attempts and bus silence (R121, R126, R127). -/

namespace Sys2Proof.Machine

/-! ## The transmit queue's order (R120, R121) -/

theorem insertInstance_sorted {x : TxInstance} {q : List TxInstance} (h : q.Pairwise fun a b => a.before b = true)
    (new : ∀ y ∈ q, y.slot ≠ x.slot) : (insertInstance x q).Pairwise fun a b => a.before b = true := by
  induction q with
  | nil => exact List.pairwise_singleton _ _
  | cons y ys ih =>
    obtain ⟨first, rest⟩ := List.pairwise_cons.mp h
    obtain ⟨other, others⟩ := List.forall_mem_cons.mp new
    rw [insertInstance]
    split
    · next before =>
      refine List.pairwise_cons.mpr ⟨fun z hz => ?_, h⟩
      rcases List.mem_cons.mp hz with rfl | later
      · exact before
      · exact TxInstance.before_trans before (first z later)
    · next after =>
      refine List.pairwise_cons.mpr ⟨fun z hz => ?_, ih rest others⟩
      rcases mem_insertInstance.mp hz with rfl | old
      · exact TxInstance.before_of_not after other
      · exact first z old

theorem setLate_fin (n : Fin 24) (b : Bool) (s : State) : setLate n b s =
    s.setBem { s.bem with slots := s.bem.slots.setIfInBounds n { s.bem.slots[n] with late := b } } := by
  rw [setLate, slotAt_fin]
  rfl

/-! ## A silent bus (R126) -/

theorem writeSlot_silent {s : State} (h : s.bem.silent = true) (n start len : Nat) (p : Payload) :
    SlotsAlone s (writeSlot n start len p s) := by
  have still (m : MessageSlot) : canSnapshot (setSlot n m s) (slotAt (setSlot n m s) n) = false := by
    have silent : (setSlot n m s).bem.silent = true := h
    simp [canSnapshot, silent]
  unfold writeSlot
  dsimp only
  split
  · rw [eventDue, fallDue, if_neg (ne_true_of_eq_false (still _)), ite_self]
    rfl
  · rfl

theorem applyRestores_silent (k : CheckRecord) {s : State} (h : s.bem.silent = true) :
    SlotsAlone s (applyRestores k s) := by
  rw [applyRestores_eq]
  generalize k.fifth.toList ++ k.restore = l
  induction l generalizing s with
  | nil => rfl
  | cons e l ih =>
    have first := writeSlot_silent h e.slot e.start e.len e.pattern
    exact first.trans (ih (s := applyRestore e s) (by rw [applyRestore, first]; exact h))

/-- The end of a check whose power-up does not arrive changes no more of a silent bus than message slots. -/
theorem endCheck_silent {s : State} {k : CheckRecord} (h : s.ckr = some k) (away : ¬ s.ArrivalMeets)
    (silent : s.bem.silent = true) (v : Option VerdictContent) : SlotsAlone s (endCheck v s) := by
  have kept : (stopWork k s).bem = s.bem := by rw [stopWork_bem, powerUpCancel_bem away]
  have restored := applyRestores_silent k (s := stopWork k s) (by rwa [kept])
  rw [SlotsAlone, kept] at restored
  rwa [SlotsAlone, endCheck_bem h]

/-! ## Attempts (R121) -/

theorem exec_canAttemptEnd {s t : State} {o : CanOutcome} (running : s.resetHeld = false)
    (h : attemptEnd o s = (t, false)) : exec (.canAttemptEnd o) s = .next t := by
  change execCanAttemptEnd o s = _
  rw [execCanAttemptEnd, act_of_running running, h]
  rfl

/-- The bus gone silent at the 32nd attempt without an answer, that of slot n. -/
def fallenSilent (s : State) (n : Fin 24) : State :=
  enterBusSilent (s.setBem { s.bem with
    sending := none, unacked := 32, slots := s.bem.slots.setIfInBounds n { s.bem.slots[n] with late := false } })

theorem exec_canAttemptEnd_of_last {s : State} {x : TxInstance} {n : Fin 24} (running : s.resetHeld = false)
    (sending : s.bem.sending = some x) (slot : x.slot = n.val) (last : s.bem.unacked = 31)
    (active : s.bem.silent = false) : exec (.canAttemptEnd .notAcknowledged) s =
      .next (settle (terminate .dutFault (fun f => { f with bus := true }) (fallenSilent s n))) := by
  change execCanAttemptEnd .notAcknowledged s = _
  have ends : attemptEnd .notAcknowledged s = (fallenSilent s n, true) := by
    simp only [attemptEnd, sending, slot, setLate_fin, last, active, Config.unackedLimit]
    rfl
  rw [execCanAttemptEnd, act_of_running running, ends]
  rfl

theorem fallenSilent_bus (s : State) (n : Fin 24) : (fallenSilent s n).bem.silent = true ∧
    (fallenSilent s n).bem.unacked = 32 ∧ (fallenSilent s n).bem.queue = [] ∧ (fallenSilent s n).bem.sending = none ∧
      fallenSilent s n = s.setBem (fallenSilent s n).bem ∧
      ∀ i : Fin 24, (fallenSilent s n).bem.slots[i] = { s.bem.slots[i] with late := false } := by
  refine ⟨rfl, rfl, rfl, rfl, rfl, fun i => ?_⟩
  change (mapEntries _ (s.bem.slots.setIfInBounds n _))[i.val] = _
  rw [getElem_mapEntries]
  by_cases own : n.val = i.val
  · obtain rfl : n = i := Fin.ext own
    simp
  · simp [own]

end Sys2Proof.Machine

namespace Sys2Proof.Certificates

open Machine

/-- Settles O44: each outcome on its own, the last of 32 without an answer in particular. -/
theorem attemptsOnTheClusterBus : Obligations.AttemptsOnTheClusterBus := by
  intro s running
  refine ⟨fun x xs free queue => ?_, fun x n sending slot => ?_⟩
  · change execCanAttemptStart s = _
    rw [execCanAttemptStart, act_of_running running, attemptStart, free, queue]
  intro flagged
  refine ⟨exec_canAttemptEnd running ?_, fun few => exec_canAttemptEnd running ?_, fun new => ?_,
    fun newer => exec_canAttemptEnd running ?_, fun last active => ⟨fun idle still => ?_, fun k alone away => ?_⟩⟩
  · simp only [attemptEnd, sending, slot, setLate_fin]
    rfl
  · have below : min (s.bem.unacked + 1) 32 = s.bem.unacked + 1 := by omega
    have short : decide (s.bem.unacked + 1 = 32) = false := decide_eq_false (by omega)
    simp only [attemptEnd, sending, slot, setLate_fin, Config.unackedLimit, below, short, Bool.false_and,
      Bool.false_eq_true, if_false]
    rfl
  · have none : ¬ waitsInQueue (s.setBem { s.bem with sending := .none }) x.slot = true := by
      rw [waitsInQueue_iff, slot]
      rintro ⟨y, hy, same⟩
      exact new y hy same
    refine ⟨_, exec_canAttemptEnd running (t := s.setBem { s.bem with
      sending := .none, queue := insertInstance x s.bem.queue }) ?_, fun y => mem_insertInstance,
      fun sorted => insertInstance_sorted sorted fun y hy => slot ▸ new y hy, rfl⟩
    simp only [attemptEnd, sending, returnLost, if_neg none]
    rfl
  · have waits : waitsInQueue (s.setBem { s.bem with sending := .none }) x.slot = true := by
      rw [waitsInQueue_iff, slot]
      exact newer
    simp only [attemptEnd, sending, returnLost, if_pos waits]
    simp only [slot, setLate_fin]
    rfl
  · obtain ⟨silent, unacked, queue, sent, same, slots⟩ := fallenSilent_bus s n
    have ends : settle (terminate .dutFault (fun f => { f with bus := true }) (fallenSilent s n)) =
        fallenSilent s n := by
      rw [terminate_of_none (by exact idle)]
      exact settle_of_still (still.congr rfl rfl)
    rw [exec_canAttemptEnd_of_last running sending slot last active, ends]
    exact ⟨_, rfl, silent, unacked, queue, sent, slots, same⟩
  · obtain ⟨silent, unacked, queue, _, _, _⟩ := fallenSilent_bus s n
    obtain ⟨inFlight, empty, busy⟩ := alone
    have alone : RunsAlone (fallenSilent s n) k := ⟨inFlight, empty, busy⟩
    have left := endCheck_silent (s := fallenSilent s n) inFlight away silent
      (some (k.contentEndedBy .dutFault { k.flags with bus := true }))
    rw [exec_canAttemptEnd_of_last running sending slot last active, settle_terminate alone]
    have ended := judged_terminate (s := fallenSilent s n) inFlight .dutFault (fun f => { f with bus := true })
      (fallenSilent s n).oiReady
    rw [terminate_of_some (s := fallenSilent s n) inFlight] at ended ⊢
    refine ⟨_, rfl, ?_, ?_, ?_, rfl, ended⟩
    · rw [State.setOi_bem, left]
      exact silent
    · rw [State.setOi_bem, left]
      exact unacked
    · rw [State.setOi_bem, left]
      exact queue

end Sys2Proof.Certificates
end
section
/-! Frames from the cluster bus: capture slots, identity halves and pairs, and the end of bus silence (R114, R127, R129,
R132 to R134). -/

namespace Sys2Proof.Machine

/-! ## The bytes of a payload -/

theorem getLsbD_foldBytes (bs : List Byte) (n i : Nat) (small : i < 64) :
    ((List.range n).foldl (fun w i => w ||| ((bs.getD i 0).setWidth 64 <<< (8 * i))) (0 : Payload)).getLsbD i =
      (decide (i < 8 * n) && (bs.getD (i / 8) 0).getLsbD (i % 8)) := by
  induction n with
  | zero => simp
  | succ n ih =>
    rw [List.range_succ, List.foldl_append, List.foldl_cons, List.foldl_nil, BitVec.getLsbD_or, ih,
      BitVec.getLsbD_shiftLeft, BitVec.getLsbD_setWidth]
    by_cases before : i < 8 * n
    · simp [before, show i < 8 * (n + 1) by omega]
    · by_cases within : i < 8 * (n + 1)
      · have byte : i / 8 = n := by omega
        have bit : i % 8 = i - 8 * n := by omega
        simp [before, within, small, byte, bit, show i - 8 * n < 64 by omega]
      · have beyond : (bs.getD n 0).getLsbD (i - 8 * n) = false := BitVec.getLsbD_of_ge _ _ (by omega)
        simp only [before, within, beyond, decide_false, Bool.false_and, Bool.and_false, Bool.or_false]

theorem payloadByte_payloadOf (bs : List Byte) {k : Nat} (h : k < 8) : payloadByte (payloadOf bs) k = bs.getD k 0 := by
  refine BitVec.eq_of_getLsbD_eq fun i hi => ?_
  have byte : (8 * k + i) / 8 = k := by omega
  have bit : (8 * k + i) % 8 = i := by omega
  rw [payloadByte, BitVec.getLsbD_setWidth, BitVec.getLsbD_ushiftRight, payloadOf,
    getLsbD_foldBytes bs 8 _ (by omega), byte, bit]
  simp [hi, show 8 * k + i < 64 by omega]

/-- A run of bits with its lowest byte apart. -/
theorem setWidth_shift_byte (p : Payload) (at_ w : Nat) : (p >>> at_).setWidth (w + 8) =
    (p >>> (at_ + 8)).setWidth w ++ (p >>> at_).setWidth 8 := by
  refine BitVec.eq_of_getLsbD_eq fun i hi => ?_
  rw [BitVec.getLsbD_append, BitVec.getLsbD_setWidth, BitVec.getLsbD_setWidth, BitVec.getLsbD_setWidth,
    BitVec.getLsbD_ushiftRight, BitVec.getLsbD_ushiftRight]
  by_cases low : i < 8
  · simp [low, hi]
  · have same : at_ + 8 + (i - 8) = at_ + i := by omega
    simp [low, hi, same, show i - 8 < w by omega]

theorem variantOf_bytes (p : Payload) : (p >>> 8).setWidth 16 = payloadByte p 2 ++ payloadByte p 1 :=
  setWidth_shift_byte p 8 8

theorem serialLow_bytes (p : Payload) : (p >>> 24).setWidth 32 =
    payloadByte p 6 ++ payloadByte p 5 ++ payloadByte p 4 ++ payloadByte p 3 := by
  have h1 := setWidth_shift_byte p 24 24
  have h2 := setWidth_shift_byte p 32 16
  have h3 := setWidth_shift_byte p 40 8
  rw [h3] at h2
  rw [h2] at h1
  exact h1

theorem serialHigh_bytes (p : Payload) : (p >>> 8).setWidth 48 = payloadByte p 6 ++ payloadByte p 5 ++
    payloadByte p 4 ++ payloadByte p 3 ++ payloadByte p 2 ++ payloadByte p 1 := by
  have h1 := setWidth_shift_byte p 8 40
  have h2 := setWidth_shift_byte p 16 32
  have h3 := serialLow_bytes p
  rw [h3] at h2
  rw [h2] at h1
  exact h1

/-! ## Identity halves (R132) -/

/-- How eight bytes read as a half. -/
theorem readHalf_bytes (x a b c d e g y : Byte) : readHalf 8 (payloadOf [x, a, b, c, d, e, g, y]) =
    if y = x + a + b + c + d + e + g then
      if x = 0 then .half0 ⟨b ++ a, g ++ e ++ d ++ c⟩
      else if x = 1 then .half1 (g ++ e ++ d ++ c ++ b ++ a) else .bad
    else .bad := by
  have byte (k : Nat) (h : k < 8) := payloadByte_payloadOf [x, a, b, c, d, e, g, y] h
  generalize payloadOf [x, a, b, c, d, e, g, y] = p at byte ⊢
  have sum : halfSum p = x + a + b + c + d + e + g := by
    have unrolled : halfSum p = 0 + payloadByte p 0 + payloadByte p 1 + payloadByte p 2 + payloadByte p 3 +
        payloadByte p 4 + payloadByte p 5 + payloadByte p 6 := rfl
    rw [unrolled, byte 0 (by decide), byte 1 (by decide), byte 2 (by decide), byte 3 (by decide), byte 4 (by decide),
      byte 5 (by decide), byte 6 (by decide), zero_add]
    rfl
  have first : payloadByte p 0 = x := byte 0 (by decide)
  have last : payloadByte p 7 = y := byte 7 (by decide)
  unfold readHalf
  rw [sum, first, last, variantOf_bytes, serialLow_bytes, serialHigh_bytes, byte 1 (by decide), byte 2 (by decide),
    byte 3 (by decide), byte 4 (by decide), byte 5 (by decide), byte 6 (by decide)]
  by_cases right : y = x + a + b + c + d + e + g
  · rw [if_pos right, if_pos (by simp [right])]
    by_cases zero : x = 0
    · subst zero
      rfl
    · by_cases one : x = 1
      · subst one
        rfl
      · rw [if_neg zero, if_neg one]
        split
        · next h => exact absurd (BitVec.eq_of_toNat_eq h) zero
        · next h => exact absurd (BitVec.eq_of_toNat_eq h) one
        · rfl
  · rw [if_neg right, if_neg (by simp [right])]

theorem readHalf_of_half0 {data : List Byte} {h : HeldHalf} (half : IsHalf0 data h) :
    readHalf data.length (payloadOf data) = .half0 h := by
  obtain ⟨a, b, c, d, e, g, rfl, rfl⟩ := half
  exact (readHalf_bytes 0 a b c d e g _).trans (if_pos rfl)

theorem readHalf_of_half1 {data : List Byte} (half : IsHalf1 data) :
    ∃ serial, readHalf data.length (payloadOf data) = .half1 serial := by
  obtain ⟨a, b, c, d, e, g, rfl⟩ := half
  exact ⟨_, (readHalf_bytes 1 a b c d e g _).trans (if_pos rfl)⟩

theorem readHalf_of_bad {data : List Byte} (bad : IsBadHalf data) : readHalf data.length (payloadOf data) = .bad := by
  obtain ⟨not0, not1⟩ := bad
  by_cases whole : data.length = 8
  · match data, whole with
    | [x, a, b, c, d, e, g, y], _ =>
      refine (readHalf_bytes x a b c d e g y).trans ?_
      split
      · next right =>
        split
        · next zero =>
          subst right zero
          exact absurd ⟨a, b, c, d, e, g, rfl, rfl⟩ (not0 _)
        · split
          · next one =>
            subst right one
            exact absurd ⟨a, b, c, d, e, g, rfl⟩ not1
          · rfl
      · rfl
  · simp [readHalf, whole]

/-! ## A frame offered to the capture slots (R129) -/

/-- The slot takes the frame's data. -/
def CaptureSlot.Takes (c : CaptureSlot) (f : CanFrame) : Prop := c.defined = true ∧ c.id = f.id

/-- The slot after it has taken the frame's data, its tracker left as held. -/
def CaptureSlot.captured (c : CaptureSlot) (f : CanFrame) (held : Option HeldHalf) : CaptureSlot :=
  { c with
    last := payloadOf f.data
    lastLen := f.data.length
    fresh := true
    age := 0
    tracker := if c.ident then held else c.tracker }

/-- The frame forms no pair in the slot and leaves its tracker as held. -/
def CaptureSlot.NoPair (c : CaptureSlot) (f : CanFrame) (held : Option HeldHalf) : Prop :=
  c.ident = true → stepTracker c.tracker c.age (readHalf f.data.length (payloadOf f.data)) = (held, none)

theorem setCapture_fin (n : Fin 8) (c : CaptureSlot) (s : State) :
    setCapture n c s = s.setBem { s.bem with captures := s.bem.captures.setIfInBounds n c } := rfl

theorem captureInto_of_not_takes {n : Fin 8} {f : CanFrame} {s : State} (h : ¬ s.bem.captures[n].Takes f) :
    captureInto n f s = (s, none) := by
  have other : (s.bem.captures[n].defined && s.bem.captures[n].id == f.id) = false := by
    rw [Bool.eq_false_iff]
    exact fun takes => h (by simpa [CaptureSlot.Takes] using takes)
  simp only [captureInto, captureAt_fin, other, Bool.false_eq_true, if_false]

theorem frameData_of_short {f : CanFrame} (short : f.data.length ≤ 8) :
    frameData f = (payloadOf f.data, f.data.length) := by
  rw [frameData, List.take_of_length_le short, Nat.min_eq_left short]

theorem captureInto_of_noPair {n : Fin 8} {f : CanFrame} {s : State} {held : Option HeldHalf}
    (short : f.data.length ≤ 8) (takes : s.bem.captures[n].Takes f) (noPair : s.bem.captures[n].NoPair f held) :
    captureInto n f s = (setCapture n (s.bem.captures[n].captured f held) s, none) := by
  obtain ⟨defined, id⟩ := takes
  have own : (s.bem.captures[n].defined && s.bem.captures[n].id == f.id) = true := by
    rw [defined, id, beq_self_eq_true, Bool.and_true]
  simp only [captureInto, captureAt_fin, own, if_true, frameData_of_short short]
  cases ident : s.bem.captures[n].ident with
  | true =>
    rw [noPair ident]
    simp only [if_true, CaptureSlot.captured, ident]
  | false => simp only [Bool.false_eq_true, if_false, CaptureSlot.captured, ident]

/-- The frame offered to one slot, and whether an identity event has been raised so far. -/
def captureStep (f : CanFrame) (p : State × Bool) (n : Fin 8) : State × Bool :=
  (identityNews (captureInto n f p.1).2 (captureInto n f p.1).1, p.2 || (captureInto n f p.1).2.isSome)

theorem captureAll_eq (f : CanFrame) (s : State) :
    captureAll f s = (List.finRange 8).foldl (captureStep f) (s, false) := by
  rw [captureAll, ← List.map_coe_finRange_eq_range, List.foldl_map]
  rfl

/-- Of the bus nothing but capture slots differs, and of these those of the list that take the frame. -/
structure Captured (f : CanFrame) (held : Option HeldHalf) (l : List (Fin 8)) (s t : State) : Prop where
  alone : t = s.setBem { s.bem with captures := t.bem.captures }
  others : ∀ n : Fin 8, n ∉ l ∨ ¬ s.bem.captures[n].Takes f → t.bem.captures[n] = s.bem.captures[n]
  taken : ∀ n ∈ l, s.bem.captures[n].Takes f → t.bem.captures[n] = s.bem.captures[n].captured f held

/-- A frame that forms no pair, offered to the slots of a list. -/
theorem captured_of_noPair {f : CanFrame} {held : Option HeldHalf} (short : f.data.length ≤ 8) {l : List (Fin 8)}
    (nodup : l.Nodup) : ∀ {s : State}, (∀ n ∈ l, s.bem.captures[n].Takes f → s.bem.captures[n].NoPair f held) →
      ∀ b, ∃ t, l.foldl (captureStep f) (s, b) = (t, b) ∧ Captured f held l s t := by
  induction l with
  | nil => exact fun _ b => ⟨_, rfl, rfl, fun _ _ => rfl, fun _ hn => absurd hn List.not_mem_nil⟩
  | cons n l ih =>
    intro s noPair b
    obtain ⟨new, rest⟩ := List.nodup_cons.mp nodup
    by_cases takes : s.bem.captures[n].Takes f
    · have first : captureStep f (s, b) n = (setCapture n (s.bem.captures[n].captured f held) s, b) := by
        rw [captureStep, captureInto_of_noPair short takes (noPair n List.mem_cons_self takes)]
        simp [identityNews]
      have own : (setCapture n (s.bem.captures[n].captured f held) s).bem.captures[n] =
          s.bem.captures[n].captured f held := by simp [setCapture_fin]
      have other (i : Fin 8) (away : i ≠ n) :
          (setCapture n (s.bem.captures[n].captured f held) s).bem.captures[i] = s.bem.captures[i] := by
        have apart : n.val ≠ i.val := fun same => away (Fin.ext same.symm)
        simp [setCapture_fin, apart]
      obtain ⟨t, fold, alone, others, taken⟩ := ih rest
        (s := setCapture n (s.bem.captures[n].captured f held) s)
        (fun i hi => by
          rw [other i (fun same => new (same ▸ hi))]
          exact noPair i (List.mem_cons_of_mem _ hi)) b
      refine ⟨t, by rw [List.foldl_cons, first, fold], alone, fun i hi => ?_, fun i hi takes => ?_⟩
      · by_cases same : i = n
        · subst same
          exact absurd takes (hi.resolve_left fun away => away List.mem_cons_self)
        · rw [others i (hi.imp (fun away later => away (List.mem_cons_of_mem _ later))
            (by rw [other i same]; exact id)), other i same]
      · rcases List.mem_cons.mp hi with rfl | later
        · rw [others i (.inl new), own]
        · have apart : i ≠ n := fun same => new (same ▸ later)
          rw [taken i later (by rw [other i apart]; exact takes), other i apart]
    · have first : captureStep f (s, b) n = (s, b) := by
        rw [captureStep, captureInto_of_not_takes takes]
        simp [identityNews]
      obtain ⟨t, fold, alone, others, taken⟩ := ih rest (fun i hi => noPair i (List.mem_cons_of_mem _ hi)) b
      refine ⟨t, by rw [List.foldl_cons, first, fold], alone, fun i hi => others i ?_, fun i hi takes' => ?_⟩
      · exact hi.imp_left fun away hi => away (List.mem_cons_of_mem _ hi)
      · rcases List.mem_cons.mp hi with rfl | later
        · exact absurd takes' takes
        · exact taken i later takes'

/-! ## The end of bus silence (R114, R127) -/

/-- The part after a frame has ended bus silence, no slot fallen due yet. -/
def busActive (s : State) : State := s.setBem { s.bem with silent := false, unacked := 0 }

theorem leaveBusSilent_of_active {s : State} (h : s.bem.silent = false) : leaveBusSilent s = s := by
  rw [leaveBusSilent, if_neg (ne_true_of_eq_false h)]

theorem leaveBusSilent_of_off {s : State} (h : s.bem.silent = true) (off : s.spu.rail.transmits = false) :
    leaveBusSilent s = busActive s := by
  rw [leaveBusSilent, if_pos h]
  exact if_neg (ne_true_of_eq_false off)

theorem leaveBusSilent_of_on {s : State} (h : s.bem.silent = true) (on : s.spu.rail.transmits = true) :
    leaveBusSilent s = allEventDue (busActive s) := by
  rw [leaveBusSilent, if_pos h]
  exact if_pos on

/-- The bus is ACTIVE again and each event-only slot that may transmit has a snapshot in the queue. -/
def Resumed (s t : State) : Prop := t.bem.silent = false ∧ t.bem.unacked = 0 ∧
  ∀ n : Fin 24, s.bem.slots[n].defined = true → s.bem.slots[n].enabled = true → s.bem.slots[n].period = 0 →
    ∃ x ∈ t.bem.queue, x.slot = n.val ∧ x.payload = t.bem.slots[n].payload ∧
      (s.bem.slots[n].Proper → SnapshotOf s.bem.slots[n] x.payload)

theorem resumed_allEventDue {s : State} (on : s.spu.rail.transmits = true) : Resumed s (allEventDue (busActive s)) ∧
    (allEventDue (busActive s)).bem.captures = s.bem.captures ∧
    (allEventDue (busActive s)).bem.received = s.bem.received ∧
    (allEventDue (busActive s)).bem.current = s.bem.current := by
  rw [allEventDue_eq]
  have due := dueOf_dueAll (fun m => m.period == 0) (List.nodup_finRange 24) (busActive s)
  generalize dueAll _ _ _ = t at due
  refine ⟨⟨by rw [due.bus]; rfl, by rw [due.bus]; rfl, fun n defined enabled event => ?_⟩, by rw [due.bus]; rfl,
    by rw [due.bus]; rfl, by rw [due.bus]; rfl⟩
  have can : canSnapshot (busActive s) (busActive s).bem.slots[n] = true := by
    have active : (busActive s).bem.silent = false := rfl
    change (s.bem.slots[n].defined && s.bem.slots[n].enabled && s.spu.rail.transmits && !(busActive s).bem.silent) = _
    rw [defined, enabled, on, active]
    rfl
  obtain ⟨queued, payload⟩ := due.due n (List.mem_finRange n) (beq_iff_eq.mpr event) can
  exact ⟨_, queued, rfl, payload.symm, snapshotOf_snapshotPayload⟩

/-- The blocks beside the bus and the check are the same. -/
structure SameButBus (s t : State) : Prop where
  spu : t.spu = s.spu
  oi : t.oi = s.oi
  clu : t.clu = s.clu
  rli : t.rli = s.rli
  vdu : t.vdu = s.vdu
  opu : t.opu = s.opu

theorem exec_clusterFrameReceived {s : State} (running : s.resetHeld = false) (f : CanFrame) :
    exec (.clusterFrameReceived f) s = .next (if f.extended || f.remote then leaveBusSilent s
      else if (captureAll f (leaveBusSilent s)).2 then settle (captureAll f (leaveBusSilent s)).1
      else (captureAll f (leaveBusSilent s)).1) := by
  change execClusterFrameReceived f s = _
  rw [execClusterFrameReceived, act_of_running running]

/-- Data of the four kinds that form no pair with what the trackers hold. -/
theorem noPair_of_half {c : CaptureSlot} {f : CanFrame} {held : Option HeldHalf}
    (half : (∃ h, IsHalf0 f.data h ∧ held = some h) ∨ (IsBadHalf f.data ∧ held = none) ∨
      (IsHalf1 f.data ∧ held = none ∧ c.tracker = none)) : c.NoPair f held := by
  intro _
  rcases half with ⟨h, half0, rfl⟩ | ⟨bad, rfl⟩ | ⟨half1, rfl, empty⟩
  · rw [readHalf_of_half0 half0]
    rfl
  · rw [readHalf_of_bad bad]
    rfl
  · obtain ⟨serial, reads⟩ := readHalf_of_half1 half1
    rw [reads, empty]
    rfl

/-! ## An identity pair (R132 to R134) -/

theorem foldl_captureStep_of_none {f : CanFrame} {s : State} {l : List (Fin 8)}
    (h : ∀ i ∈ l, ¬ s.bem.captures[i].Takes f) (b : Bool) : l.foldl (captureStep f) (s, b) = (s, b) := by
  induction l with
  | nil => rfl
  | cons i l ih =>
    have first : captureStep f (s, b) i = (s, b) := by
      rw [captureStep, captureInto_of_not_takes (h i List.mem_cons_self)]
      simp [identityNews]
    rw [List.foldl_cons, first, ih fun j hj => h j (List.mem_cons_of_mem _ hj)]

/-- A frame that one capture slot alone takes. -/
theorem captureAll_of_one {f : CanFrame} {s : State} {n : Fin 8} (before : ∀ i ≠ n, ¬ s.bem.captures[i].Takes f)
    (after : ∀ i ≠ n, ¬ (captureStep f (s, false) n).1.bem.captures[i].Takes f) :
    captureAll f s = captureStep f (s, false) n := by
  obtain ⟨l, l', split⟩ := List.mem_iff_append.mp (List.mem_finRange n)
  have nodup := split ▸ List.nodup_finRange 8
  obtain ⟨_, last, apart⟩ := List.nodup_append.mp nodup
  rw [captureAll_eq, split, List.foldl_append,
    foldl_captureStep_of_none (fun i hi => before i fun same => apart i hi n List.mem_cons_self same), List.foldl_cons]
  exact foldl_captureStep_of_none (fun i hi => after i fun same => (List.nodup_cons.mp last).1 (same ▸ hi)) _

theorem identityNews_captures (e : Option IdentityEvent) (s : State) :
    (identityNews e s).bem.captures = s.bem.captures := by
  have ended (o : Verdict) : (flushQueue false (terminate o id s)).bem.captures = s.bem.captures := by
    rw [flushQueue_bem]
    unfold terminate
    split
    · rfl
    · exact endCheck_captures _ s
  match e with
  | none => rfl
  | some .wrongDut => exact ended .wrongDut
  | some .dutChanged => exact ended .dutChanged

/-- The outcome that an identity event gives the check in flight. -/
def IdentityEvent.outcome : IdentityEvent → Verdict
  | .wrongDut => .wrongDut
  | .dutChanged => .dutChanged

theorem identityNews_some (e : IdentityEvent) (s : State) :
    identityNews (some e) s = flushQueue false (terminate e.outcome id s) := by
  cases e <;> rfl

/-- The event that a pair raises beside the identity it leaves. -/
def pairEvent (v : Half) (n : Serial) (s : State) : Option IdentityEvent := (validPair v n s).2

theorem validPair_eq (v : Half) (n : Serial) (s : State) : validPair v n s =
    (s.setBem { s.bem with received := some (v, n), current := ⟨some v, some n⟩ }, pairEvent v n s) := by
  unfold pairEvent validPair
  dsimp only
  split
  · split <;> rfl
  · split <;> rfl

theorem pairEvent_of_given {v : Half} {s : State} (first : s.bem.received = none)
    (same : ∀ g, s.bem.given = some g → g = v) (n : Serial) : pairEvent v n s = none := by
  simp only [pairEvent, validPair, first]
  cases given : s.bem.given with
  | none => rfl
  | some g => exact if_neg fun other => other (same g given).symm

theorem pairEvent_of_other {v g : Half} {s : State} (first : s.bem.received = none) (given : s.bem.given = some g)
    (other : g ≠ v) (n : Serial) : pairEvent v n s = some .wrongDut := by
  simp only [pairEvent, validPair, first, given]
  exact if_pos (Ne.symm other)

theorem pairEvent_of_later {n : Serial} {s : State} (later : s.bem.received ≠ none) (v : Half) : pairEvent v n s =
    if s.bem.current.serial = some n then none else if s.spu.rail ≠ .off then some .dutChanged else none := by
  obtain ⟨pair, received⟩ := Option.ne_none_iff_exists'.mp later
  simp only [pairEvent, validPair, received]
  split <;> rfl

/-- The slot after a frame that leaves its tracker empty. -/
def CaptureSlot.emptied (c : CaptureSlot) (data : List Byte) : CaptureSlot :=
  { c with last := payloadOf data, lastLen := 8, fresh := true, age := 0, tracker := none }

/-- A good half 1 at an IDENT slot that holds a half 0: a pair in time, else nothing is left of either. -/
theorem captureInto_of_half1 {s : State} {n : Fin 8} {h : HeldHalf} {a b c d e g : Byte} {id : Nat}
    (defined : s.bem.captures[n].defined = true) (own : s.bem.captures[n].id = id)
    (ident : s.bem.captures[n].ident = true) (held : s.bem.captures[n].tracker = some h) :
    let data : List Byte := [1, a, b, c, d, e, g, 1 + a + b + c + d + e + g]
    let s1 := setCapture n (s.bem.captures[n].emptied data) s
    captureInto n ⟨false, false, id, data⟩ s = if s.bem.captures[n].age ≤ 1000
      then validPair h.variant ((g ++ e ++ d ++ c ++ b ++ a : BitVec 48) ++ h.serialLow) s1 else (s1, none) := by
  intro data s1
  have takes : (s.bem.captures[n].defined && s.bem.captures[n].id == id) = true := by
    rw [defined, own, beq_self_eq_true, Bool.and_true]
  have reads : readHalf 8 (payloadOf data) = .half1 (g ++ e ++ d ++ c ++ b ++ a) :=
    (readHalf_bytes 1 a b c d e g _).trans (if_pos rfl)
  have frame : frameData ⟨false, false, id, data⟩ = (payloadOf data, 8) :=
    frameData_of_short (Nat.le_refl 8)
  by_cases inTime : s.bem.captures[n].age ≤ 1000
  · simp only [captureInto, captureAt_fin, takes, if_true, ident, frame, reads, stepTracker, held, Config.pairMs,
      inTime, s1, CaptureSlot.emptied]
  · simp only [captureInto, captureAt_fin, takes, if_true, ident, frame, reads, stepTracker, held, Config.pairMs,
      inTime, if_false, s1, CaptureSlot.emptied]

/-- The exchange of a pair with the rest of the part, where slot n alone takes the frame. -/
theorem exec_clusterFrame_of_one {s u : State} {f : CanFrame} {n : Fin 8} {e : Option IdentityEvent}
    (running : s.resetHeld = false) (active : s.bem.silent = false) (standard : (f.extended || f.remote) = false)
    (alone : ∀ i : Fin 8, i ≠ n → ¬ s.bem.captures[i].Takes f) (into : captureInto n f s = (u, e))
    (table : ∀ i : Fin 8, i ≠ n → u.bem.captures[i] = s.bem.captures[i]) :
    exec (.clusterFrameReceived f) s = .next (if e.isSome then settle (identityNews e u) else u) := by
  have step : captureStep f (s, false) n = (identityNews e u, e.isSome) := by simp [captureStep, into]
  have all : captureAll f s = (identityNews e u, e.isSome) := by
    refine (captureAll_of_one alone fun i away => ?_).trans step
    rw [step, identityNews_captures, table i away]
    exact alone i away
  rw [exec_clusterFrameReceived running, if_neg (ne_true_of_eq_false standard), leaveBusSilent_of_active active, all]
  cases e <;> rfl

/-- An identity event at an idle station flushes its queue. -/
theorem settle_identityNews_of_none {s : State} (idle : s.ckr = none) (station : s.oi.station ≠ .running)
    (e : IdentityEvent) : settle (identityNews (some e) s) = flushQueue false s := by
  rw [identityNews_some, terminate_of_none idle]
  exact settle_of_still (.inl ⟨by simpa using idle, by simp, by simpa using station⟩)

/-- An identity event ends the check in flight and flushes the queue. -/
theorem settle_identityNews {s : State} (station : s.oi.station = .running) {k : CheckRecord} (hk : s.ckr = some k)
    (e : IdentityEvent) : settle (identityNews (some e) s) =
      (flushQueue false (endCheck (some (k.contentEndedBy e.outcome k.flags)) s)).setOi
        { s.oiReady with queue := [] } := by
  have ends := settle_of_idle (s := flushQueue false (terminate e.outcome id s)) (by simp) (by simp)
    (by simpa using station)
  rw [identityNews_some, ends, terminate_of_some hk, flushQueue_oi, endCheck_oi]
  rfl

theorem identityNews_formed {s : State} {k : CheckRecord} (hk : s.ckr = some k) (e : IdentityEvent) :
    Formed s (flushQueue false (endCheck (some (k.contentEndedBy e.outcome k.flags)) s))
      (k.contentEndedBy e.outcome k.flags :: s.flushed false) := by
  have ended := terminate_formed hk e.outcome id
  rw [terminate_of_some hk] at ended
  exact ended.trans (flushQueue_formed_of_queue (by rw [endCheck_oi]) false) (by simp) (by simp)

end Sys2Proof.Machine

namespace Sys2Proof.Certificates

open Machine

/-- Settles O45: the end of bus silence first, then the capture slots one by one. -/
theorem clusterFrameIsCaptured : Obligations.ClusterFrameIsCaptured := by
  intro s f running quiet resumes resumed
  rw [exec_clusterFrameReceived running]
  refine ⟨fun other => ?_, fun held standard data short => ?_⟩
  · rw [if_pos (by simpa using other)]
    refine ⟨fun active => congrArg _ (leaveBusSilent_of_active active),
      fun ⟨silent, off⟩ => congrArg _ (leaveBusSilent_of_off silent off), fun ⟨silent, on⟩ => ?_⟩
    obtain ⟨events, captures, -⟩ := resumed_allEventDue on
    exact ⟨_, congrArg _ (leaveBusSilent_of_on silent on), events, captures⟩
  · intro takes ident captured half
    rw [if_neg (by simp [standard, data])]
    have offered {u : State} (same : u.bem.captures = s.bem.captures) : ∃ t, captureAll f u = (t, false) ∧
        captured t ∧ t = u.setBem { u.bem with captures := t.bem.captures } := by
      have noPair : ∀ n ∈ List.finRange 8, u.bem.captures[n].Takes f → u.bem.captures[n].NoPair f held := by
        intro n _ taken identified
        rw [same] at taken identified ⊢
        refine noPair_of_half ?_ identified
        rcases half with none | half0 | bad | ⟨half1, empty, trackers⟩
        · exact absurd ⟨taken, identified⟩ (none n)
        · exact .inl half0
        · exact .inr (.inl bad)
        · exact .inr (.inr ⟨half1, empty, trackers n ⟨taken, identified⟩⟩)
      obtain ⟨t, fold, alone, others, taken⟩ := captured_of_noPair short (List.nodup_finRange 8) noPair false
      rw [← captureAll_eq] at fold
      rw [same] at others taken
      exact ⟨t, fold, fun n => ⟨taken n (List.mem_finRange n), fun away => others n (.inr away)⟩, alone⟩
    refine ⟨fun active => ?_, fun ⟨silent, off⟩ => ?_, fun ⟨silent, on⟩ => ?_⟩
    · obtain ⟨t, fold, taken, alone⟩ := offered (u := s) rfl
      rw [leaveBusSilent_of_active active, fold]
      exact ⟨t, rfl, taken, alone⟩
    · obtain ⟨t, fold, taken, alone⟩ := offered (u := busActive s) rfl
      rw [leaveBusSilent_of_off silent off, fold]
      exact ⟨t, rfl, taken, alone⟩
    · obtain ⟨events, captures, received, current⟩ := resumed_allEventDue on
      have kept : SameButBus s (allEventDue (busActive s)) := by
        constructor <;> simp [busActive]
      rw [leaveBusSilent_of_on silent on]
      generalize allEventDue (busActive s) = u at events captures received current kept ⊢
      obtain ⟨t, fold, taken, alone⟩ := offered captures
      generalize t.bem.captures = table at alone
      subst alone
      rw [fold]
      exact ⟨_, rfl, taken, events, kept.spu, kept.oi, kept.clu, kept.rli, kept.vdu, kept.opu, received, current⟩

/-- Settles O46: the pair in the slot that takes the frame, and the event it raises. -/
theorem identityPairRaisesEvents : Obligations.IdentityPairRaisesEvents := by
  intro s n h a b c d e g id c0 data cmd serial taken s1 running active defined own ident others held
  have alone : ∀ i : Fin 8, i ≠ n → ¬ s.bem.captures[i].Takes ⟨false, false, id, data⟩ :=
    fun i away takes => others i away takes.1 takes.2
  have table (i : Fin 8) (away : i ≠ n) : taken[i] = s.bem.captures[i] := by
    have apart : n.val ≠ i.val := fun same => away (Fin.ext same.symm)
    simp [taken, apart]
  let s2 := s.setBem { s.bem with captures := taken }
  have into : captureInto n ⟨false, false, id, data⟩ s =
      if c0.age ≤ 1000 then validPair h.variant serial s2 else (s2, none) :=
    captureInto_of_half1 defined own ident held
  refine ⟨fun late => ?_, fun inTime => ?_⟩
  · rw [if_neg (Nat.not_le.mpr late)] at into
    exact exec_clusterFrame_of_one running active rfl alone into table
  · rw [if_pos inTime, validPair_eq] at into
    generalize event : pairEvent h.variant serial s2 = raised at into
    have result : exec cmd s = .next (if raised.isSome then settle (identityNews raised s1) else s1) :=
      exec_clusterFrame_of_one running active rfl alone into table
    have quiet (none : raised = .none) : exec cmd s = .next s1 := by
      rw [result, none]
      rfl
    refine ⟨fun first same => quiet ?_, fun later same => quiet ?_, fun later other off => quiet ?_, fun o which => ?_⟩
    · rw [← event]
      exact pairEvent_of_given (s := s2) first same serial
    · rw [← event, pairEvent_of_later (s := s2) later, if_pos (by exact same)]
    · rw [← event, pairEvent_of_later (s := s2) later, if_neg (by exact other),
        if_neg (not_not.mpr (by exact off))]
    obtain ⟨e, raises, rfl⟩ : ∃ e : IdentityEvent, raised = some e ∧ o = e.outcome := by
      rcases which with ⟨first, ⟨v, given, other⟩, rfl⟩ | ⟨later, other, on, rfl⟩
      · exact ⟨.wrongDut, event.symm.trans (pairEvent_of_other (s := s2) first given other serial), rfl⟩
      · refine ⟨.dutChanged, event.symm.trans ?_, rfl⟩
        rw [pairEvent_of_later (s := s2) later, if_neg (by exact other), if_pos (by exact on)]
    have result : exec cmd s = .next (settle (identityNews (some e) s1)) := by
      rw [result, raises]
      rfl
    rw [result]
    refine ⟨fun idle station => ?_, fun k hk busy => ?_, fun k alone => ?_⟩
    · rw [settle_identityNews_of_none (s := s1) idle station]
      exact ⟨_, rfl, flushQueue_oi false s1, flushQueue_bem false s1, flushQueue_spu false s1, flushQueue_clu false s1,
        flushQueue_formed_of_queue rfl false⟩
    · rw [settle_identityNews (s := s1) busy hk]
      exact ⟨_, rfl, identityNews_formed (s := s1) hk e, rfl, (flushQueue_ckr false _).trans (endCheck_ckr _ s1)⟩
    · obtain ⟨hk, empty, busy⟩ := alone
      have kept := ((Kept.refl {} s1).endCheck (some (k.contentEndedBy e.outcome k.flags))).bus
      have vdu := (flushQueue_vdu_of_empty (s := endCheck (some (k.contentEndedBy e.outcome k.flags)) s1)
        (by rw [endCheck_oi]; exact empty) false).trans (endCheck_vdu (s := s1) hk _)
      rw [settle_identityNews (s := s1) busy hk]
      refine ⟨_, rfl, judged_of_vdu ((flushQueue_ckr false _).trans (endCheck_ckr _ s1)) vdu ?_, ?_, ?_, ?_, ?_⟩
      · rw [State.setOi_clu, flushQueue_clu]
        exact endCheck_noisy (s := s1) hk _
      · rw [State.setOi_oi, ← empty]
        rfl
      · rw [State.setOi_bem, flushQueue_bem]
        exact (kept.identity rfl).1
      · rw [State.setOi_bem, flushQueue_bem]
        exact (kept.identity rfl).2
      · rw [State.setOi_bem, flushQueue_bem]
        exact kept.given rfl

end Sys2Proof.Certificates
end
section
/-! A grant and what follows a change of the peer view (R46, R47, R54 to R59, R63, R78 to R80): what the state of a
grant is, for each requester that goes on, and with which state the changes of the view end. -/

namespace Sys2Proof.Machine

/-! ## The state of a grant (R55) -/

/-- The state in which the own claim is GRANTED and its wait limit stopped, its requester not yet told. -/
def granting (c : OwnClaim) (v : State) : State :=
  v.setClu { v.clu with claim := some { c with granted := true, wait := none } }

/-- The claim that an announcement carries of this own claim once it is GRANTED. -/
def OwnClaim.announcedGranted (c : OwnClaim) : AnnClaim :=
  ⟨c.resource, c.ticket, true, if c.resource = .inrush then c.amount else 0⟩

/-- What a grant leaves whoever its requester is: the claim, and its announcement. -/
def GrantStands (c : OwnClaim) (v t : State) : Prop :=
  t.clu = (granting c v).clu ∧ t.oi = v.oi ∧ t.vdu = v.vdu ∧
    (v.rli.silent = false → ∃ a cls, t.rli.buffer = some (a, cls) ∧ a.claim = some c.announcedGranted)

theorem grantStands_handIn {c : OwnClaim} {u v : State} (clu : u.clu = (granting c v).clu) (oi : u.oi = v.oi)
    (vdu : u.vdu = v.vdu) (rli : u.rli = v.rli) : GrantStands c v (handIn u) := by
  refine ⟨by simp [clu], by simp [oi], by simp [vdu], fun heard => ?_⟩
  refine ⟨_, _, handIn_buffer (rli ▸ heard), ?_⟩
  simp [buildAnnouncement, clu, granting, OwnClaim.announcedGranted]

theorem GrantStands.congr {c : OwnClaim} {u v t : State} (h : GrantStands c v u) (clu : t.clu = u.clu)
    (oi : t.oi = u.oi) (vdu : t.vdu = u.vdu) (rli : t.rli = u.rli) : GrantStands c v t := by
  unfold GrantStands
  rw [clu, oi, vdu, rli]
  exact h

theorem holdsQuiet_of_granting {c : OwnClaim} {v t : State} (quiet : c.resource = .quiet)
    (clu : t.clu = (granting c v).clu) : holdsQuiet t = true := by
  simp [holdsQuiet, clu, granting, quiet]

/-! ## The requester told (R57, R72, R78, R82, R107) -/

theorem goAhead_of_waiting {s : State} (wait : s.spu.rail = .waitInrush) (up : 0 < s.spu.setpoint) :
    goAhead s = s.setSpu (s.spu.moved .ramping) := by
  have go : rampGo s = s.setSpu (s.spu.moved .ramping) := by
    rw [rampGo, if_pos wait, railTo_of_not_transmits (by rw [wait]; rfl)]
  have high : ¬ (s.setSpu (s.spu.moved .ramping)).spu.setpoint = 0 := Nat.pos_iff_ne_zero.mp up
  simp only [goAhead, wait, if_true, go, if_neg high]

theorem tellGranted_spu {s : State} (retry : s.spu.retry = true) (r : Resource) : tellGranted r .spu s = goAhead s :=
  if_pos retry

theorem tellGranted_inrush {s : State} {k : CheckRecord} (hk : s.ckr = some k) (waits : k.waitsOn = .claim .inrush) :
    tellGranted .inrush .ckr s = goAhead (s.setCkr (some { k with waitsOn := .rail })) := by
  simp only [tellGranted, hk, waits, if_true]

theorem tellGranted_quiet {s : State} {k : CheckRecord} (hk : s.ckr = some k) (waits : k.waitsOn = .claim .quiet) :
    tellGranted .quiet .ckr s = s.setCkr (some { k with waitsOn := .none }) := by
  simp only [tellGranted, hk, waits, if_true]

theorem tellGranted_operator {s : State} {k : CheckRecord} (hk : s.ckr = some k)
    (waits : k.waitsOn = .claim .operator) :
    tellGranted .operator .ckr s = promptBegin (s.setCkr (some { k with waitsOn := .prompt })) := by
  simp only [tellGranted, hk, waits, if_true]

/-! ## The beginning of a prompt (R85, R181, R184) -/

theorem getLsbD_writeField_of_lt (p q : Payload) (start len : Nat) {i : Nat} (hi : i < 64) :
    (writeField p start len q).getLsbD i =
      if start ≤ i ∧ i < start + len then q.getLsbD (i - start) else p.getLsbD i := by
  simp only [writeField, BitVec.getLsbD_or, BitVec.getLsbD_and, BitVec.getLsbD_not, BitVec.getLsbD_shiftLeft,
    getLsbD_lowBits]
  by_cases inField : start ≤ i ∧ i < start + len
  · have inWord : i - start < 64 ∧ i - start < len ∧ ¬ i < start := by omega
    simp [inField, hi, inWord]
  · rw [if_neg inField]
    by_cases below : i < start
    · simp [hi, below]
    · simp [hi, show ¬ i - start < len by omega]

/-- What of a field lies beyond the payload is not written. -/
theorem writeField_clip (p q : Payload) (start len : Nat) :
    writeField p start len q = writeField p (min start 64) (min len (64 - start)) q := by
  refine BitVec.eq_of_getLsbD_eq fun i hi => ?_
  rw [getLsbD_writeField_of_lt _ _ _ _ hi, getLsbD_writeField_of_lt _ _ _ _ hi]
  by_cases inField : start ≤ i ∧ i < start + len
  · have inClip : min start 64 ≤ i ∧ i < min start 64 + min len (64 - start) := by omega
    rw [if_pos inField, if_pos inClip, show min start 64 = start by omega]
  · have outClip : ¬ (min start 64 ≤ i ∧ i < min start 64 + min len (64 - start)) := by omega
    rw [if_neg inField, if_neg outClip]

/-- A write into a defined slot, also where the field runs beyond the payload. -/
theorem fieldWritten_writeSlot_clip {s : State} {n : Fin 24} {start len : Nat} (q : Payload) {bit : Nat → Bool}
    (defined : s.bem.slots[n].defined = true) (bits : ∀ i, i < len → q.getLsbD i = bit i) :
    FieldWritten s (writeSlot n start len q s) n start len bit := by
  have clipped : writeSlot n start len q s = writeSlot n (min start 64) (min len (64 - start)) q s := by
    rw [writeSlot_of_defined defined, writeSlot_of_defined defined, writeField_clip]
  obtain ⟨others, p, written, rest⟩ := fieldWritten_writeSlot (start := min start 64) (len := min len (64 - start)) q
    defined (by omega) fun i hi => bits i (by omega)
  rw [clipped]
  refine ⟨others, p, fun i hi => (written i hi).trans ?_, rest⟩
  by_cases inField : start ≤ i ∧ i < start + len
  · have inClip : min start 64 ≤ i ∧ i < min start 64 + min len (64 - start) := by omega
    rw [if_pos inField, if_pos inClip, show min start 64 = start by omega]
  · have outClip : ¬ (min start 64 ≤ i ∧ i < min start 64 + min len (64 - start)) := by omega
    rw [if_neg inField, if_neg outClip]

/-- The prompt p of the check k has begun: shown, and waiting for PASS or FAIL or for its challenge. -/
def PromptBegins (k : CheckRecord) (p : Prompt) (v t : State) : Prop :=
  (t.opu.shown = p.text ∧ t.opu.lamp = true ∧ t.opu.promptTimer = some (p.timeout * 1000) ∧
    t.opu.attempts = v.opu.attempts ∧ t.opu.errors = v.opu.errors ∧ t.opu.prompt = some p) ∧
  (∃ k', t.ckr = some k' ∧ k'.stage = .prompting ∧ k'.waitsOn = .prompt ∧ k'.order = k.order) ∧
  (p.mode = .yesNo → t.opu.state = .yesNo ∧ t.opu.generator = v.opu.generator ∧ t.bem = v.bem) ∧
  (p.mode ≠ .yesNo → (t.opu.state = .challenge ∧ t.opu.generator = generatorSteps 16 v.opu.generator ∧
      t.opu.code = (generatorSteps 16 v.opu.generator).toNat % 10000 ∧ t.opu.entry = [] ∧
      t.opu.lookTimer = some v.opu.cfg.lookMs) ∧
    (∀ k', t.ckr = some k' → (∀ e, k.fifth = some e → k'.fifth = some e) ∧
      (k.fifth = none → k'.fifth = some ⟨v.opu.cfg.slot, v.opu.cfg.start, 14,
        readField (slotAt v v.opu.cfg.slot).payload v.opu.cfg.start 14⟩)) ∧
    (∀ n : Fin 24, n.val = v.opu.cfg.slot → v.bem.slots[n].defined = true →
      FieldWritten v t n v.opu.cfg.start 14 ((generatorSteps 16 v.opu.generator).toNat % 10000).testBit) ∧
    (∀ n : Fin 24, n.val = v.opu.cfg.slot → v.bem.slots[n].defined = false → t.bem = v.bem))

theorem PromptBegins.congr {k : CheckRecord} {p : Prompt} {v u t : State} (h : PromptBegins k p v u)
    (opu : t.opu = u.opu) (ckr : t.ckr = u.ckr) (bem : t.bem = u.bem) : PromptBegins k p v t := by
  unfold PromptBegins FieldWritten
  rw [opu, ckr, bem]
  exact h

/-- The record with the challenge snapshot in its fifth restore place, where that was empty (R85). -/
def CheckRecord.withChallenge (k : CheckRecord) (e : RestoreEntry) : CheckRecord :=
  { k with fifth := some (k.fifth.getD e) }

theorem challengeSnapshot_of_some {s : State} {k : CheckRecord} (h : s.ckr = some k) :
    challengeSnapshot s = s.setCkr (some (k.withChallenge ⟨s.opu.cfg.slot, s.opu.cfg.start, 14,
      readField (slotAt s s.opu.cfg.slot).payload s.opu.cfg.start 14⟩)) := by
  simp only [challengeSnapshot, h]
  split
  · next e he =>
    have same : k.withChallenge ⟨s.opu.cfg.slot, s.opu.cfg.start, 14,
        readField (slotAt s s.opu.cfg.slot).payload s.opu.cfg.start 14⟩ = k := by
      simp [CheckRecord.withChallenge, he]
      rw [← he]
    rw [same, ← h]
    rfl
  · next empty => simp [CheckRecord.withChallenge, empty, readSlot, Config.challengeBits]

theorem getLsbD_challenge {code i : Nat} (h : code < 10000) (hi : i < 14) :
    (BitVec.ofNat 64 (min code (2 ^ 14 - 1))).getLsbD i = code.testBit i := by
  rw [min_eq_left (by omega), BitVec.getLsbD_ofNat]
  simp [show i < 64 by omega]

/-- The state of a prompt shown, before it waits for an answer. -/
def Opu.showing (o : Opu) (p : Prompt) : Opu :=
  { o with shown := p.text, lamp := true, promptTimer := some (p.timeout * 1000) }

theorem promptBegin_of_yesNo {s : State} {p : Prompt} (waiting : s.opu.state = .waiting) (hp : s.opu.prompt = some p)
    (mode : p.mode = .yesNo) : promptBegin s = s.setOpu { s.opu.showing p with state := .yesNo } := by
  unfold promptBegin
  split
  · next q _ hq =>
    obtain rfl := Option.some.inj (hq.symm.trans hp)
    simp only [mode]
    rfl
  · next no => exact (no p waiting hp).elim

theorem promptBegin_of_attended {s : State} {p : Prompt} (waiting : s.opu.state = .waiting)
    (hp : s.opu.prompt = some p) (mode : p.mode ≠ .yesNo) :
    promptBegin s = challengeEntry (s.setOpu (s.opu.showing p)) := by
  unfold promptBegin
  split
  · next q _ hq =>
    obtain rfl := Option.some.inj (hq.symm.trans hp)
    dsimp only
    split
    · next yesNo => exact absurd yesNo mode
    · rfl
    · rfl
  · next no => exact (no p waiting hp).elim

/-- The state of a prompt that shows its challenge. -/
def Opu.challenged (o : Opu) : Opu :=
  { o with
    state := .challenge, generator := generatorSteps 16 o.generator
    code := (generatorSteps 16 o.generator).toNat % 10000, entry := [], lookTimer := some o.cfg.lookMs }

theorem challengeEntry_of_some {s : State} {k : CheckRecord} (h : s.ckr = some k) :
    challengeEntry s = writeSlot s.opu.cfg.slot s.opu.cfg.start 14
      (BitVec.ofNat 64 (min ((generatorSteps 16 s.opu.generator).toNat % 10000) (2 ^ 14 - 1)))
      ((s.setOpu s.opu.challenged).setCkr (some (k.withChallenge ⟨s.opu.cfg.slot, s.opu.cfg.start, 14,
        readField (slotAt s s.opu.cfg.slot).payload s.opu.cfg.start 14⟩))) := by
  have snapshot := challengeSnapshot_of_some (s := s.setOpu s.opu.challenged) h
  exact congrArg (writeChallenge _) snapshot

theorem promptBegins_promptBegin {v u : State} {k : CheckRecord} {p : Prompt}
    (hk : u.ckr = some { k with waitsOn := .prompt }) (opu : u.opu = v.opu) (bem : u.bem = v.bem) (spu : u.spu = v.spu)
    (stage : k.stage = .prompting) (waiting : v.opu.state = .waiting) (hp : v.opu.prompt = some p) :
    PromptBegins k p v (promptBegin u) := by
  by_cases mode : p.mode = .yesNo
  · rw [promptBegin_of_yesNo (opu ▸ waiting) (opu ▸ hp) mode]
    refine ⟨?_, ⟨_, hk, stage, rfl, rfl⟩, fun _ => ?_, fun no => absurd mode no⟩
    · simp [Opu.showing, opu, hp]
    · simp [Opu.showing, opu, bem]
  · rw [promptBegin_of_attended (opu ▸ waiting) (opu ▸ hp) mode]
    obtain ⟨u1, hu1⟩ : ∃ u1, u1 = ((u.setOpu (u.opu.showing p).challenged).setCkr (some (CheckRecord.withChallenge
      { k with waitsOn := .prompt } ⟨v.opu.cfg.slot, v.opu.cfg.start, 14,
        readField (slotAt v v.opu.cfg.slot).payload v.opu.cfg.start 14⟩))) := ⟨_, rfl⟩
    have entered : challengeEntry (u.setOpu (u.opu.showing p)) = writeSlot v.opu.cfg.slot v.opu.cfg.start 14
        (BitVec.ofNat 64 (min ((generatorSteps 16 v.opu.generator).toNat % 10000) (2 ^ 14 - 1))) u1 := by
      have slots : slotAt u v.opu.cfg.slot = slotAt v v.opu.cfg.slot := by rw [slotAt, bem, slotAt]
      rw [hu1, ← slots, ← opu]
      exact challengeEntry_of_some (s := u.setOpu (u.opu.showing p)) hk
    have opu1 : u1.opu = (v.opu.showing p).challenged := by rw [hu1, ← opu]; rfl
    have bem1 : u1.bem = v.bem := hu1 ▸ bem
    have spu1 : u1.spu = v.spu := hu1 ▸ spu
    obtain ⟨late, noted⟩ := writeSlot_busNoted v.opu.cfg.slot v.opu.cfg.start 14
      (BitVec.ofNat 64 (min ((generatorSteps 16 v.opu.generator).toNat % 10000) (2 ^ 14 - 1))) u1
    rw [hu1, State.setCkr_ckr, ← hu1, Option.map_some] at noted
    rw [entered]
    refine ⟨?_, ⟨_, noted, stage, rfl, rfl⟩, fun yes => absurd yes mode, fun _ => ⟨?_, ?_, ?_, ?_⟩⟩
    · simp [opu1, Opu.challenged, Opu.showing, hp]
    · simp [opu1, Opu.challenged, Opu.showing]
    · intro k' hk'
      obtain rfl := Option.some.inj (noted.symm.trans hk')
      exact ⟨fun e he => by simp [CheckRecord.noted, CheckRecord.withChallenge, he],
        fun empty => by simp [CheckRecord.noted, CheckRecord.withChallenge, empty]⟩
    · intro n slot defined
      have written := fieldWritten_writeSlot_clip (s := u1) (n := n) (start := v.opu.cfg.start) (len := 14)
        (BitVec.ofNat 64 (min ((generatorSteps 16 v.opu.generator).toNat % 10000) (2 ^ 14 - 1)))
        (bit := ((generatorSteps 16 v.opu.generator).toNat % 10000).testBit) (by rw [bem1]; exact defined)
        fun i hi => getLsbD_challenge (Nat.mod_lt _ (by omega)) hi
      unfold FieldWritten at written ⊢
      rw [← slot]
      simpa only [bem1, spu1] using written
    · intro n slot undefined
      rw [← slot, writeSlot_of_undefined (by rw [bem1]; exact undefined), bem1]

/-! ## What comes about by itself, counted -/

/-- From s exactly n things come about by themselves, and t is what they leave. -/
def SettlesIn : Nat → State → State → Prop
  | 0, s, t => micro s = none ∧ s = t
  | n + 1, s, t => ∃ u, micro s = some u ∧ SettlesIn n u t

theorem SettlesIn.step {n : Nat} {s u t : State} (h : micro s = some u) (rest : SettlesIn n u t) :
    SettlesIn (n + 1) s t := ⟨u, h, rest⟩

theorem SettlesIn.stop {s : State} (h : micro s = none) : SettlesIn 0 s s := ⟨h, rfl⟩

theorem SettlesIn.runOn {n m : Nat} {s t : State} (h : SettlesIn n s t) (few : n ≤ m) : runOn m s = t := by
  induction n generalizing m s with
  | zero =>
    obtain ⟨rests, rfl⟩ := h
    cases m with
    | zero => rfl
    | succ m => simp [Machine.runOn, rests]
  | succ n ih =>
    obtain ⟨u, first, rest⟩ := h
    obtain ⟨m, rfl⟩ : ∃ m', m = m' + 1 := ⟨m - 1, by omega⟩
    simp only [Machine.runOn, first]
    exact ih rest (by omega)

theorem SettlesIn.settle {n : Nat} {s t : State} (h : SettlesIn n s t) (few : n ≤ 100) : settle s = t := h.runOn few

/-- After its last action a check settles. -/
theorem settlesIn_lastAction {s : State} {k : CheckRecord} (hk : s.ckr = some k) (stage : k.stage = .stimulating)
    (free : k.waitsOn = .none) (done : k.action = none) (time : k.order.settle ≠ 0)
    (bus : ∀ b, k.order.meas ≠ some (.busfield b)) (quiet : (k.order.isSound && !k.order.hasAudible) = false) :
    SettlesIn 1 s (s.setCkr (some { k with stage := .settling, stageTimer := some k.order.settle })) := by
  have enters : enterSettling k s = s.setCkr (some { k with stage := .settling, stageTimer := some k.order.settle }) :=
    (enterSettling_of_time s time bus quiet).trans (by rw [← free])
  exact .step ((micro_of_noAction hk stage free done).trans (congrArg some enters))
    (.stop (micro_none_of_waits (by rfl) (.inr (.inr (.inr ⟨rfl, rfl⟩)))))

/-- The record after a FIELD_WRITE. -/
theorem applyWrite_ckr {u : State} {k : CheckRecord} {x : OpenRequest} (hk : u.ckr = some { k with waitsOn := x })
    (w : FieldWrite) : ∃ late, (applyWrite w u).ckr = some ((k.finishAction.wrote w
      (decide (rawClamped w ≠ rawExact w)) (readSlot u w.slot w.start w.len)).noted late) := by
  obtain ⟨late, noted⟩ := writeSlot_busNoted w.slot w.start w.len (patternOf (rawClamped w) w.len)
    (updateCheck (·.afterWrite w (readSlot u w.slot w.start w.len)) u)
  refine ⟨late, noted.trans ?_⟩
  rw [updateCheck, State.setCkr_ckr, hk, Option.map_some, Option.map_some, afterWrite_eq]

theorem settlesIn_applyWrite {u : State} {k : CheckRecord} {x : OpenRequest} {w : FieldWrite}
    (hk : u.ckr = some { k with waitsOn := x }) (stage : k.stage = .stimulating)
    (last : k.index + 1 = k.order.actions.length) (time : k.order.settle ≠ 0)
    (bus : ∀ b, k.order.meas ≠ some (.busfield b)) (quiet : (k.order.isSound && !k.order.hasAudible) = false) :
    SettlesIn 1 (applyWrite w u) (settle (applyWrite w u)) := by
  obtain ⟨late, record⟩ := applyWrite_ckr hk w
  have ends : k.order.actions[k.index + 1]? = none := List.getElem?_eq_none (by omega)
  have settles := settlesIn_lastAction record stage rfl ends time bus quiet
  exact settles.settle (by decide) ▸ settles

/-! ## Where the requester of a grant goes on (R55, R57, R72, R78 to R80) -/

theorem grantClaim_eq (c : OwnClaim) (v : State) :
    grantClaim c v = handIn (tellGranted c.resource c.requester (granting c v)) := rfl

/-- A retry of the SPU that gets its grant ramps. -/
theorem settle_grant_retry {c : OwnClaim} {v : State} (requester : c.requester = .spu) (retry : v.spu.retry = true)
    (still : Still v) (wait : v.spu.rail = .waitInrush) (up : 0 < v.spu.setpoint) :
    settle (grantClaim c v) = handIn ((granting c v).setSpu (v.spu.moved .ramping)) := by
  have told : grantClaim c v = handIn ((granting c v).setSpu (v.spu.moved .ramping)) := by
    rw [grantClaim_eq, requester, tellGranted_spu (s := granting c v) retry,
      goAhead_of_waiting (s := granting c v) wait up]
    rfl
  rw [told]
  exact settle_of_still (still.congr (by simp [granting]) (by simp [granting]))

/-- The power-up of a check that gets its grant ramps, and the check waits for the rail. -/
theorem settle_grant_powerUp {c : OwnClaim} {v : State} {k : CheckRecord} (resource : c.resource = .inrush)
    (requester : c.requester = .ckr) (hk : v.ckr = some k) (stage : k.stage = .stimulating)
    (waits : k.waitsOn = .claim .inrush) (wait : v.spu.rail = .waitInrush) (up : 0 < v.spu.setpoint) :
    settle (grantClaim c v) =
      handIn (((granting c v).setCkr (some { k with waitsOn := .rail })).setSpu (v.spu.moved .ramping)) := by
  have told : grantClaim c v =
      handIn (((granting c v).setCkr (some { k with waitsOn := .rail })).setSpu (v.spu.moved .ramping)) := by
    rw [grantClaim_eq, requester, resource, tellGranted_inrush (s := granting c v) hk waits,
      goAhead_of_waiting (s := (granting c v).setCkr _) wait up]
    rfl
  rw [told]
  exact settle_of_micro_none (micro_none_of_waits (c := { k with waitsOn := .rail }) (by simp)
    (.inr (.inl ⟨stage, by simp⟩)))

theorem grantClaim_quiet {c : OwnClaim} {v : State} {k : CheckRecord} (resource : c.resource = .quiet)
    (requester : c.requester = .ckr) (hk : v.ckr = some k) (waits : k.waitsOn = .claim .quiet) :
    grantClaim c v = handIn ((granting c v).setCkr (some { k with waitsOn := .none })) := by
  rw [grantClaim_eq, requester, resource, tellGranted_quiet (s := granting c v) hk waits]

/-- With its settle time running a check goes on settling. -/
theorem settle_grant_settling {c : OwnClaim} {v : State} {k : CheckRecord} {m : Nat} (resource : c.resource = .quiet)
    (requester : c.requester = .ckr) (hk : v.ckr = some k) (waits : k.waitsOn = .claim .quiet)
    (stage : k.stage = .settling) (timer : k.stageTimer = some m) :
    settle (grantClaim c v) = handIn ((granting c v).setCkr (some { k with waitsOn := .none })) := by
  rw [grantClaim_quiet resource requester hk waits]
  exact settle_of_micro_none (micro_none_of_waits (c := { k with waitsOn := .none }) (by simp)
    (.inr (.inr (.inr ⟨stage, by simp [timer]⟩))))

/-- With its settle time over a check opens its sound window. -/
theorem settle_grant_window {c : OwnClaim} {v : State} {k : CheckRecord} {n th hy : Nat}
    (resource : c.resource = .quiet) (requester : c.requester = .ckr) (hk : v.ckr = some k)
    (waits : k.waitsOn = .claim .quiet) (stage : k.stage = .settling) (timer : k.stageTimer = none)
    (meas : k.order.meas = some (.sound n th hy)) :
    settle (grantClaim c v) = ((handIn ((granting c v).setCkr (some { k with waitsOn := .none }))).setCkr
      (some { k with stage := .measuring, waitsOn := .measurement })).setCsu (v.csu.startSound n th hy) := by
  let u := handIn ((granting c v).setCkr (some { k with waitsOn := .none }))
  have quiet : holdsQuiet u = true := holdsQuiet_of_granting (c := c) (v := v) resource (by simp [u])
  have leaves : micro u = some (leaveSettling { k with waitsOn := .none } u) :=
    micro_of_settled (by simp [u]) stage timer (.inr quiet)
  have csu : u.csu = v.csu := by simp [u, granting]
  rw [grantClaim_quiet resource requester hk waits]
  refine settle_of_one (leaves.trans (congrArg some ?_)) (micro_none_of_waits (by rfl) (.inl rfl))
  simp only [leaveSettling, meas, enterMeasuring]
  exact congrArg (fun x => State.setCsu _ (Csu.startSound x n th hy)) csu

/-- An audible write that waited for QUIET lands, NOISY as it was. -/
theorem settle_grant_write {c : OwnClaim} {v : State} {k : CheckRecord} {w : FieldWrite} {n : Fin 24}
    (resource : c.resource = .quiet) (requester : c.requester = .ckr) (hk : v.ckr = some k)
    (asks : k.AsksQuietFor w v n) :
    ∃ u x, settle (grantClaim c v) = (applyWrite w (handIn u)).setCkr x ∧
      u = (granting c v).setCkr (some { k with waitsOn := .none }) ∧
      Landed v ((applyWrite w (handIn u)).setCkr x) k w n := by
  obtain ⟨stage, waits, ⟨y, th, hy, meas⟩, action, audible, last, time, fits⟩ := asks
  let u := (granting c v).setCkr (some { k with waitsOn := .none })
  have quiet : holdsQuiet (handIn u) = true := holdsQuiet_of_granting (c := c) (v := v) resource (by simp [u])
  have performed : micro (handIn u) = some (applyWrite w (handIn u)) := by
    rw [micro_of_action (k := { k with waitsOn := .none }) (by simp [u]) stage rfl action]
    simp [performAction, audible, quiet, audibleRequest]
  have heard : k.order.hasAudible = true :=
    List.any_eq_true.mpr ⟨_, List.mem_of_getElem? action, audible⟩
  obtain ⟨x, settles, landed⟩ := settle_applyWrite (s := v) (u := handIn u) fits (by simp [u, granting])
    (by simp [u, granting]) (k := k) (x := .none) (by simp [u]) stage last time (by simp [meas]) (by simp [heard])
  refine ⟨u, x, ?_, rfl, landed⟩
  rw [grantClaim_quiet resource requester hk waits, ← settles]
  exact (SettlesIn.step performed (settlesIn_applyWrite (k := k) (x := .none) (by simp [u]) stage last time
    (by simp [meas]) (by simp [heard]))).settle (by decide)

/-- A prompt that gets its grant begins, and the check waits for it. -/
theorem settle_grant_prompt {c : OwnClaim} {v : State} {k : CheckRecord} {p : Prompt}
    (resource : c.resource = .operator) (requester : c.requester = .ckr) (hk : v.ckr = some k)
    (stage : k.stage = .prompting) (waits : k.waitsOn = .claim .operator) (waiting : v.opu.state = .waiting)
    (hp : v.opu.prompt = some p) :
    ∃ u, settle (grantClaim c v) = handIn (promptBegin u) ∧
      u = (granting c v).setCkr (some { k with waitsOn := .prompt }) ∧ PromptBegins k p v (handIn (promptBegin u)) := by
  let u := (granting c v).setCkr (some { k with waitsOn := .prompt })
  have begins : PromptBegins k p v (handIn (promptBegin u)) :=
    (promptBegins_promptBegin (u := u) (v := v) rfl rfl rfl rfl stage waiting hp).congr (by simp) (by simp) (by simp)
  refine ⟨u, ?_, rfl, begins⟩
  rw [grantClaim_eq, requester, resource, tellGranted_operator (s := granting c v) hk waits]
  obtain ⟨-, ⟨k', hk', stage', waits', -⟩, -⟩ := begins
  exact settle_of_micro_none (micro_none_of_waits hk' (.inr (.inr (.inl ⟨stage', by simp [waits']⟩))))

/-! ## What follows a change of the view (R46, R47, R58, R63) -/

theorem evaluateClaim_of_granted {v : State} {c : OwnClaim} (hc : v.clu.claim = some c) (pending : c.granted = false)
    (passed : c.settle = .passed) (holds : grantCondition v c = true) : evaluateClaim v = grantClaim c v := by
  simp [evaluateClaim, hc, pending, passed, holds]

theorem evaluateClaim_of_stands {v : State}
    (h : ∀ c, v.clu.claim = some c → c.granted = true ∨ c.settle ≠ .passed ∨ grantCondition v c = false) :
    evaluateClaim v = v := by
  unfold evaluateClaim
  split
  · next c hc =>
    rw [if_neg]
    rcases h c hc with granted | waits | fails
    · simp [granted]
    · simp [waits]
    · simp [fails]
  · rfl

theorem reexamineAudible_of_none {v : State} (h : v.clu.audible = none) : reexamineAudible v = v := by
  simp [reexamineAudible, h]

theorem givePlace_of_not_pending {v : State}
    (h : ∀ c, v.clu.claim = some c → c.resource ≠ .operator ∨ c.granted = true) : givePlace v = v := by
  unfold givePlace
  split
  · next c hc =>
    rw [if_neg]
    rcases h c hc with other | granted
    · simp [other]
    · simp [granted]
  · rfl

/-- A change of the view, with a notice of a NOISY peer behind it where the sender was NOISY (R59). -/
def viewTold (noisy : Bool) (v : State) : State := if noisy then noisyNotice (viewChanged v) else viewChanged v

/-- No sound window is open under a QUIET grant: the notice of a NOISY peer has no effect. -/
theorem noisyNotice_of_deaf {v : State}
    (h : ∀ c, v.clu.claim = some c → c.granted = true → c.resource = .quiet →
      ∀ k, v.ckr = some k → k.stage ≠ .measuring) :
    noisyNotice v = v := by
  rw [noisyNotice, if_neg]
  intro hears
  obtain ⟨quiet, measures⟩ := Bool.and_eq_true_iff.mp hears
  unfold holdsQuiet at quiet
  split at quiet
  · next c hc =>
    obtain ⟨resource, granted⟩ := Bool.and_eq_true_iff.mp quiet
    cases hk : v.ckr with
    | none => simp [hk] at measures
    | some k =>
      have stage : k.stage = .measuring := by
        simp only [hk, Option.map_some, Option.getD_some, CheckRecord.measures, Bool.and_eq_true,
          beq_iff_eq] at measures
        exact measures.1.1
      exact h c hc granted (beq_iff_eq.mp resource) k hk stage
  · exact nomatch quiet

theorem viewTold_of_deaf {v : State} (noisy : Bool) (h : noisyNotice (viewChanged v) = viewChanged v) :
    viewTold noisy v = viewChanged v := by
  cases noisy <;> simp [viewTold, h]

/-- A claim that is granted in the new view: its requester goes on as at the end of settle. -/
theorem viewTold_of_grant {v u : State} {c : OwnClaim} (noisy : Bool) (hc : v.clu.claim = some c)
    (unheard : v.clu.audible = none) (pending : c.granted = false) (passed : c.settle = .passed)
    (holds : grantCondition v c = true) (told : grantClaim c v = handIn u) (clu : u.clu = (granting c v).clu)
    (deaf : c.resource = .quiet → ∀ k, u.ckr = some k → k.stage ≠ .measuring) :
    viewTold noisy v = grantClaim c v := by
  have claim : (handIn u).clu.claim = some { c with granted := true, wait := none } := by rw [handIn_clu, clu]; rfl
  have none_heard : (handIn u).clu.audible = none := by rw [handIn_clu, clu]; exact unheard
  have changed : viewChanged v = handIn u := by
    rw [viewChanged, evaluateClaim_of_granted hc pending passed holds, told, reexamineAudible_of_none none_heard]
    exact givePlace_of_not_pending fun d hd => .inr (by rw [← Option.some.inj (claim.symm.trans hd)])
  rw [viewTold_of_deaf noisy, changed, told]
  rw [changed]
  refine noisyNotice_of_deaf fun d hd _ resource k hk => deaf ?_ k (by simpa using hk)
  rw [← Option.some.inj (claim.symm.trans hd)] at resource
  exact resource

theorem tellGranted_clu_of_up {s : State} (up : 0 < s.spu.setpoint) (r : Resource) (who : Requester) :
    (tellGranted r who s).clu = s.clu := by
  have go (t : State) (ht : 0 < t.spu.setpoint) : (goAhead t).clu = t.clu := by
    by_cases wait : t.spu.rail = .waitInrush
    · rw [goAhead_of_waiting wait ht]
      rfl
    · rw [goAhead, if_neg wait]
  unfold tellGranted
  split
  · split
    · exact go s up
    · rfl
  · split
    · rfl
    · split
      · split
        · exact go (s.setCkr _) up
        · rfl
        · simp
      · rfl

theorem tellGranted_clu_of_other {s : State} {r : Resource} (other : r ≠ .inrush) :
    (tellGranted r .ckr s).clu = s.clu := by
  simp only [tellGranted]
  split
  · rfl
  · split
    · split
      · exact absurd rfl other
      · rfl
      · simp
    · rfl

/-- The three resources: a claim for INRUSH with a level to go to, or a claim of the check for another. -/
def OwnClaim.HasGo (c : OwnClaim) (v : State) : Prop :=
  c.resource = .inrush ∧ 0 < v.spu.setpoint ∨
    c.requester = .ckr ∧ c.resource = .quiet ∧
      (∃ k, v.ckr = some k ∧ k.waitsOn = .claim .quiet ∧ k.stage ≠ .measuring) ∨
    c.requester = .ckr ∧ c.resource = .operator

/-- A claim that is granted in the new view: its requester goes on as at the end of settle. -/
theorem viewTold_of_hasGo {v : State} {c : OwnClaim} (noisy : Bool) (hc : v.clu.claim = some c)
    (unheard : v.clu.audible = none) (pending : c.granted = false) (passed : c.settle = .passed)
    (holds : grantCondition v c = true) (go : c.HasGo v) : viewTold noisy v = grantClaim c v := by
  refine viewTold_of_grant noisy hc unheard pending passed holds (grantClaim_eq c v) ?_ fun resource => ?_
  · rcases go with ⟨resource, up⟩ | ⟨requester, resource, -⟩ | ⟨requester, resource⟩
    · exact tellGranted_clu_of_up (s := granting c v) up _ _
    · rw [requester]
      exact tellGranted_clu_of_other (by simp [resource])
    · rw [requester]
      exact tellGranted_clu_of_other (by simp [resource])
  · rcases go with ⟨other, -⟩ | ⟨requester, -, k, hk, waits, stage⟩ | ⟨-, other⟩
    · exact nomatch resource.symm.trans other
    · intro k' hk'
      rw [requester, resource, tellGranted_quiet (s := granting c v) hk waits] at hk'
      obtain rfl := Option.some.inj hk'
      exact stage
    · exact nomatch resource.symm.trans other

/-- A view in which the own claim stands or waits on, without a window that hears the notice: the place of an OPERATOR
claim that waits is new, and nothing else. -/
theorem viewTold_of_stands {v : State} (noisy : Bool) (unheard : v.clu.audible = none)
    (stands : ∀ c, v.clu.claim = some c → c.granted = true ∨ c.settle ≠ .passed ∨ grantCondition v c = false)
    (deaf : ∀ c, v.clu.claim = some c → c.granted = true → c.resource = .quiet →
      ∀ k, v.ckr = some k → k.stage ≠ .measuring) : viewTold noisy v = givePlace v := by
  have changed : viewChanged v = givePlace v := by
    rw [viewChanged, evaluateClaim_of_stands stands, reexamineAudible_of_none unheard]
  rw [viewTold_of_deaf noisy, changed]
  rw [changed]
  refine noisyNotice_of_deaf ?_
  simpa using deaf

theorem setNoisy_clu (s : State) : (setNoisy s).clu = { s.clu with noisy := true } := by
  unfold setNoisy
  split
  · next noisy => rw [← noisy]
  · simp

theorem setNoisy_buffer {s : State} (clear : s.clu.noisy = false) (heard : s.rli.silent = false) :
    ∃ a cls, (setNoisy s).rli.buffer = some (a, cls) ∧ a.noisy = true := by
  rw [setNoisy, if_neg (ne_true_of_eq_false clear)]
  exact ⟨_, _, handIn_buffer (s := s.setClu { s.clu with noisy := true }) heard, rfl⟩

/-- With no own claim the change of the view matters to a waiting audible request alone. -/
theorem viewTold_of_audible {v : State} (noisy : Bool) (unclaimed : v.clu.claim = none) :
    viewTold noisy v = reexamineAudible v := by
  have claim : (reexamineAudible v).clu.claim = none := by
    unfold reexamineAudible
    split
    · rw [audibleCleared_clu, setNoisy_clu]
      exact unclaimed
    · exact unclaimed
  have changed : viewChanged v = reexamineAudible v := by
    rw [viewChanged, evaluateClaim_of_stands (fun c hc => nomatch unclaimed.symm.trans hc)]
    exact givePlace_of_not_pending fun c hc => nomatch claim.symm.trans hc
  rw [viewTold_of_deaf noisy, changed]
  rw [changed]
  exact noisyNotice_of_deaf fun c hc => nomatch claim.symm.trans hc

/-- Every own claim and every audible request, after any change of the view. -/
theorem viewActedOn_settle (noisy : Bool) (v : State) : ViewActedOn v (.next (settle (viewTold noisy v))) := by
  refine ⟨fun c hc unheard => ⟨?_, ?_, ?_⟩, ?_⟩
  · intro pending waits still
    have own {d : OwnClaim} (hd : v.clu.claim = some d) : d = c := Option.some.inj (hd.symm.trans hc)
    rw [viewTold_of_stands noisy unheard (fun d hd => .inr (own hd ▸ waits))
      (fun d hd granted => nomatch (own hd ▸ granted).symm.trans pending),
      settle_of_still (s := givePlace v) (still.congr (by simp) (by simp))]
    split
    · next operator => rw [givePlace_of_operator hc operator pending, operatorPlace]
    · next other => rw [givePlace_of_not_pending fun d hd => .inl (own hd ▸ other)]
  · intro granted still deaf
    have own {d : OwnClaim} (hd : v.clu.claim = some d) : d = c := Option.some.inj (hd.symm.trans hc)
    rw [viewTold_of_stands noisy unheard (fun d hd => .inl (own hd ▸ granted))
      (fun d hd _ resource => deaf (own hd ▸ resource)), givePlace_of_not_pending fun d hd => .inr (own hd ▸ granted),
      settle_of_still still]
  · intro pending passed holds
    have told (go : c.HasGo v) : viewTold noisy v = grantClaim c v :=
      viewTold_of_hasGo noisy hc unheard pending passed holds go
    refine ⟨?_, ?_, ?_, ?_, ?_⟩
    · rintro resource wait up (⟨requester, retry, still⟩ | ⟨requester, k, hk, stage, waits⟩)
      · rw [told (.inl ⟨resource, up⟩), settle_grant_retry requester retry still wait up]
        refine ⟨_, rfl, grantStands_handIn rfl rfl rfl rfl, by simp [Spu.moved],
          by simp [Spu.moved, RailState.outputOn], by simp [Spu.moved], by simp [granting],
          fun _ => by simp [granting], fun _ ckr => nomatch requester.symm.trans ckr⟩
      · rw [told (.inl ⟨resource, up⟩), settle_grant_powerUp resource requester hk stage waits wait up]
        refine ⟨_, rfl, grantStands_handIn rfl rfl rfl rfl, by simp [Spu.moved],
          by simp [Spu.moved, RailState.outputOn], by simp [Spu.moved], by simp [granting],
          fun spu => (nomatch requester.symm.trans spu), fun k' _ hk' => ?_⟩
        obtain rfl := Option.some.inj (hk.symm.trans hk')
        simp
    · intro k m resource requester hk stage waits timer
      rw [told (.inr (.inl ⟨requester, resource, k, hk, waits, by simp [stage]⟩)),
        settle_grant_settling resource requester hk waits stage timer]
      exact ⟨_, rfl, grantStands_handIn rfl rfl rfl rfl, by simp, by simp [granting], by simp [granting],
        by simp [granting], by simp [granting]⟩
    · intro k w th hy resource requester hk stage waits timer meas
      rw [told (.inr (.inl ⟨requester, resource, k, hk, waits, by simp [stage]⟩)),
        settle_grant_window resource requester hk waits stage timer meas]
      exact ⟨_, rfl, (grantStands_handIn (u := (granting c v).setCkr (some { k with waitsOn := .none }))
        rfl rfl rfl rfl).congr rfl rfl rfl rfl, rfl, rfl, by simp [granting], by simp [granting], by simp [granting]⟩
    · intro k w n resource requester hk asks
      obtain ⟨u, x, settles, rfl, landed⟩ := settle_grant_write resource requester hk asks
      obtain ⟨stage, waits, -⟩ := asks
      rw [told (.inr (.inl ⟨requester, resource, k, hk, waits, by simp [stage]⟩)), settles]
      exact ⟨_, rfl, (grantStands_handIn (u := (granting c v).setCkr (some { k with waitsOn := .none }))
        rfl rfl rfl rfl).congr (by simp) (by simp) (by simp) (by simp), landed, by simp [granting], by simp [granting],
        by simp [granting]⟩
    · intro k p resource requester hk stage waits waiting hp
      obtain ⟨u, settles, rfl, ⟨⟨shown, lamp, timer, -, -, -⟩, record, yesNo, challenge⟩⟩ :=
        settle_grant_prompt resource requester hk stage waits waiting hp
      rw [told (.inr (.inr ⟨requester, resource⟩)), settles]
      exact ⟨_, rfl, grantStands_handIn (by simp) (by simp [granting]) (by simp [granting]) (by simp [granting]), shown,
        lamp, timer, fun mode => (yesNo mode).1, fun mode => (challenge mode).1.1, by simp [granting], record⟩
  · intro m k unclaimed heard hk stage waits
    rw [viewTold_of_audible noisy unclaimed]
    have waiting : v.clu.audible.isSome = true := by simp [heard]
    refine ⟨fun wants => ?_, fun w n clear action ⟨last, time, bus, silent⟩ fits => ?_⟩
    · have stays : reexamineAudible v = v := by
        rw [reexamineAudible, if_neg (by simp [peerWantsQuiet, List.isEmpty_iff, wants])]
      rw [stays, settle_of_micro_none (micro_none_of_waits hk (.inr (.inl ⟨stage, by simp [waits]⟩)))]
    · let u := setNoisy (v.setClu { v.clu with audible := none })
      have record : u.ckr = some { k with waitsOn := .audible } := by simp [u, hk, ← waits]
      have answered : reexamineAudible v = applyWrite w u := by
        rw [reexamineAudible, if_pos (by simp [peerWantsQuiet, clear, waiting])]
        have act : k.action = some (.fieldWrite w) := action
        simp only [audibleCleared, u, setNoisy_ckr, State.setClu_ckr, hk, waits, act]
      obtain ⟨x, settles, landed⟩ := settle_applyWrite (s := v) (u := u) fits (by simp [u]) (by simp [u]) record stage
        last time bus (by simp [isSound_of_not silent])
      rw [answered, settles]
      refine ⟨_, rfl, landed, by simp [u, setNoisy_clu], by simp [u], by simp [u], by simp [u], by simp [u],
        by simp [u], fun quiet onLine => ?_⟩
      simpa using setNoisy_buffer (s := v.setClu { v.clu with audible := none }) quiet onLine

/-! ## The commands -/

theorem exec_peerStale {s : State} {n : Fin 16} (running : s.resetHeld = false) (other : n.val ≠ s.rli.slot.toNat)
    (live : s.clu.peers[n].liveness = .live) : exec (.peerStale n) s = .next (settle (viewTold false
      (s.setClu { s.clu with
        peers := s.clu.peers.setIfInBounds n ⟨.stale, max s.clu.peers[n].age (4 * s.oi.rack.period + 1),
          s.clu.peers[n].group, s.clu.peers[n].noisy, s.clu.peers[n].claim⟩ }))) := by
  change execPeerStale n s = _
  rw [execPeerStale, act_of_running running]
  simp only [entryAt_fin, if_pos (And.intro other live)]
  rfl

theorem exec_announceReceived {s : State} {f : RxFrame} {src : BitVec 5} {p : List Byte}
    (h : Ends s f (.announce src p)) :
    exec (.announceReceived f) s = .next (takeAnnounce src.toNat p (ended s)) :=
  act_frameEvent_of_ends (a := (src.toNat, p)) (fun x s => takeAnnounce x.1 x.2 s) h nofun rfl

/-- The claim with its settle PASSED. -/
def OwnClaim.past (c : OwnClaim) : OwnClaim := { c with settle := .passed }

/-- The state with the settle of the own claim PASSED. -/
def settlePassed (c : OwnClaim) (s : State) : State := s.setClu { s.clu with claim := some c.past }

theorem exec_claimSettleExpiry {s : State} {c : OwnClaim} {n : Nat} (running : s.resetHeld = false)
    (hc : s.clu.claim = some c) (pending : c.granted = false) (settles : c.settle = .running n) :
    exec .claimSettleExpiry s = .next (settle (evaluateClaim (settlePassed c s))) := by
  change execClaimSettleExpiry s = _
  rw [execClaimSettleExpiry, act_of_running running]
  simp [hc, pending, settles, settlePassed, OwnClaim.past]

/-- A grant at the end of settle. -/
theorem exec_claimSettleExpiry_of_grant {s : State} {c : OwnClaim} {n : Nat} (running : s.resetHeld = false)
    (hc : s.clu.claim = some c) (pending : c.granted = false) (settles : c.settle = .running n)
    (holds : grantCondition s c = true) :
    exec .claimSettleExpiry s = .next (settle (grantClaim c.past (settlePassed c s))) := by
  rw [exec_claimSettleExpiry running hc pending settles]
  exact congrArg (fun t => Host.Outcome.next (settle t))
    (evaluateClaim_of_granted (v := settlePassed c s) (c := c.past) rfl pending rfl holds)

/-! ## The notice of a NOISY peer (R59, R160, R161) -/

theorem Csu.notice_of_few {c : Csu} (window : c.window = .sound) (few : c.disturbances < 2) : c.notice =
    ({ c with disturbances := c.disturbances + 1, count := 0, tones := 0, peak := 0, armed := false }, .restarted) := by
  simp [Csu.notice, window, few]

theorem Csu.notice_of_many {c : Csu} (window : c.window = .sound) (many : 2 ≤ c.disturbances) :
    c.notice = (c.toIdle, .disturbed) := by
  simp [Csu.notice, window, show ¬ c.disturbances < 2 by omega]

/-- The own QUIET claim is GRANTED and the check in flight measures sound under it. -/
def Listens (v : State) (k : CheckRecord) : Prop :=
  holdsQuiet v = true ∧ v.ckr = some k ∧ k.Measures ∧ k.order.isSound = true

theorem noisyNotice_of_few {v : State} {k : CheckRecord} (listens : Listens v k) (window : v.csu.window = .sound)
    (few : v.csu.disturbances < 2) : noisyNotice v = (v.setCsu { v.csu with
      disturbances := v.csu.disturbances + 1, count := 0, tones := 0, peak := 0, armed := false }).setCkr
        (some { k with flags := { k.flags with restarted := true } }) := by
  obtain ⟨quiet, hk, ⟨stage, waits⟩, sound⟩ := listens
  have hears : (holdsQuiet v && (v.ckr.map fun c => c.measures && c.order.isSound).getD false) = true := by
    simp [quiet, hk, CheckRecord.measures, stage, waits, sound]
  rw [noisyNotice, if_pos hears, Csu.notice_of_few window few]
  simp only [updateCheck, State.setCsu_ckr, hk, Option.map_some]

theorem noisyNotice_of_many {v : State} {k : CheckRecord} {c : OwnClaim} (listens : Listens v k)
    (window : v.csu.window = .sound) (many : 2 ≤ v.csu.disturbances) (hc : v.clu.claim = some c)
    (resource : c.resource = .quiet) (requester : c.requester = .ckr) (alone : v.clu.deferred = none) :
    noisyNotice v = (removeClaim (dropArrived Instr.ofWindow (v.setCsu v.csu.toIdle))).setCkr
      (some (k.unmeasured .disturbed)) := by
  obtain ⟨quiet, hk, ⟨stage, waits⟩, sound⟩ := listens
  have hears : (holdsQuiet v && (v.ckr.map fun c => c.measures && c.order.isSound).getD false) = true := by
    simp [quiet, hk, CheckRecord.measures, stage, waits, sound]
  rw [noisyNotice, if_pos hears, Csu.notice_of_many window many]
  dsimp only
  rw [releaseClaim_of_held (s := dropArrived Instr.ofWindow (v.setCsu v.csu.toIdle)) alone hc requester resource]
  exact reportMeasurement_of_measures _ (by simp [hk]) ⟨stage, waits⟩

end Sys2Proof.Machine

namespace Sys2Proof.Certificates

open Machine

/-- Settles O13: the entry made STALE is a change of the view. -/
theorem peerBecomesStale : Obligations.PeerBecomesStale := by
  intro s n running other live view
  have told : exec (.peerStale n) s = .next (settle (viewTold false view)) := exec_peerStale running other live
  refine ⟨fun unclaimed unheard still => ?_, told ▸ viewActedOn_settle false view⟩
  rw [told, viewTold_of_stands (v := view) false unheard (fun c hc => nomatch unclaimed.symm.trans hc)
    (fun c hc => nomatch unclaimed.symm.trans hc),
    givePlace_of_not_pending (v := view) fun c hc => nomatch unclaimed.symm.trans hc]
  exact congrArg _ (settle_of_still (still.congr rfl rfl))

/-- Settles O11: the entry written is a change of the view, with the notice of a NOISY sender behind it. -/
theorem announceReceivedWritesEntry : Obligations.AnnounceReceivedWritesEntry := by
  intro s f src p ends
  refine ⟨fun faulty => ?_, fun r report => ?_⟩
  · rw [exec_announceReceived ends, takeAnnounce, faulty]
  intro view
  have told : exec (.announceReceived f) s = .next (settle (viewTold r.noisy view)) := by
    rw [exec_announceReceived ends, takeAnnounce, report]
    rfl
  refine ⟨fun unclaimed unheard still => ?_, told ▸ viewActedOn_settle _ view, ?_⟩
  · rw [told, viewTold_of_stands (v := view) _ unheard (fun c hc => nomatch unclaimed.symm.trans hc)
      (fun c hc => nomatch unclaimed.symm.trans hc),
      givePlace_of_not_pending (v := view) fun c hc => nomatch unclaimed.symm.trans hc]
    exact congrArg _ (settle_of_still (still.congr rfl rfl))
  intro c k n th hy hc resource granted requester unheard hk stage waits meas window
  have own {d : OwnClaim} (hd : view.clu.claim = some d) : d = c := Option.some.inj (hd.symm.trans hc)
  have changed : viewChanged view = view := by
    rw [viewChanged, evaluateClaim_of_stands (v := view) fun d hd => .inl (own hd ▸ granted),
      reexamineAudible_of_none (v := view) unheard,
      givePlace_of_not_pending (v := view) fun d hd => .inr (own hd ▸ granted)]
  have listens : Listens view k :=
    ⟨by simp [holdsQuiet, view, hc, resource, granted], hk, ⟨stage, waits⟩, isSound_iff.mpr ⟨n, th, hy, meas⟩⟩
  refine ⟨fun quiet => ?_, fun noisy few => ?_, fun noisy many alone ⟨inFlight, empty, running⟩ => ?_⟩
  · rw [told, quiet, viewTold, if_neg Bool.false_ne_true, changed]
    exact congrArg _ (settle_of_micro_none (micro_none_of_waits (s := view) hk (.inl stage)))
  · rw [told, noisy, viewTold, if_pos rfl, changed, noisyNotice_of_few listens window few]
    exact congrArg _ (settle_of_micro_none (micro_none_of_waits rfl (.inl stage)))
  · rw [told, noisy, viewTold, if_pos rfl, changed,
      noisyNotice_of_many listens window many hc resource requester alone]
    let u := removeClaim (dropArrived Instr.ofWindow (view.setCsu view.csu.toIdle))
    have runs : RunsAlone (u.setCkr (some (k.unmeasured .disturbed))) (k.unmeasured .disturbed) :=
      ⟨rfl, by simpa [u, view, ended] using empty, by simpa [u, view, ended] using running⟩
    obtain ⟨record, ready, -, csu, -⟩ := settle_judging_leaves runs rfl
    have clu : u.clu = { view.clu with claim := none } := by rw [removeClaim_clu]; rfl
    refine ⟨_, rfl, csu.trans (by simp [u]; rfl), ?_, ready.trans (by simp [State.oiReady, u, view, ended]),
      record.of_same (by simp [u, view, ended]) (by simp [u, view, ended])⟩
    rw [settle_of_judging runs rfl, State.setOi_clu,
      endCheck_clu_of_free (s := u.setCkr (some (k.unmeasured .disturbed))) rfl (by simpa [clu, view] using alone)
        (by simp [clu])]
    simp [clu, view, unheard]

/-- Settles O15: a claim whose condition fails is left with its settle PASSED; a grant goes to the requester that
waits. -/
theorem claimSettleExpiryEvaluates : Obligations.ClaimSettleExpiryEvaluates := by
  intro s c n running hc pending settles
  have granted (holds : grantCondition s c = true) := exec_claimSettleExpiry_of_grant running hc pending settles holds
  have stands {t : State} (h : GrantStands c.past (settlePassed c s) t) :
      t.clu = { s.clu with claim := some { c with granted := true, wait := none, settle := .passed } } ∧
      t.oi = s.oi ∧ t.vdu = s.vdu ∧ (s.rli.silent = false → ∃ a cls, t.rli.buffer = some (a, cls) ∧
        a.claim = some c.announcedGranted) := h
  have announced {t : State} (quiet : c.resource = .quiet) (h : s.rli.silent = false → ∃ a cls,
      t.rli.buffer = some (a, cls) ∧ a.claim = some c.announcedGranted) :
      s.rli.silent = false → ∃ a cls, t.rli.buffer = some (a, cls) ∧ a.claim = some ⟨.quiet, c.ticket, true, 0⟩ := by
    simpa [OwnClaim.announcedGranted, quiet] using h
  refine ⟨fun fails still => ?_, ?_, ?_, ?_⟩
  · rw [exec_claimSettleExpiry running hc pending settles,
      evaluateClaim_of_stands (v := settlePassed c s) fun d hd => .inr (.inr (Option.some.inj hd ▸ fails))]
    exact congrArg _ (settle_of_still (still.congr rfl rfl))
  · intro resource fits wait up who
    rw [granted ((grantCondition_eq_true_iff_of_inrush resource).mpr fits)]
    have announcedInrush {t : State} (h : s.rli.silent = false → ∃ a cls,
        t.rli.buffer = some (a, cls) ∧ a.claim = some c.announcedGranted) : s.rli.silent = false → ∃ a cls,
        t.rli.buffer = some (a, cls) ∧ a.claim = some ⟨.inrush, c.ticket, true, c.amount⟩ := by
      simpa [OwnClaim.announcedGranted, resource] using h
    rcases who with ⟨requester, retry, still⟩ | ⟨requester, k, hk, stage, waits⟩
    · rw [settle_grant_retry (c := c.past) (v := settlePassed c s) requester retry (still.congr rfl rfl) wait up]
      obtain ⟨clu, oi, vdu, told⟩ := stands (grantStands_handIn
        (u := (granting c.past (settlePassed c s)).setSpu (s.spu.moved .ramping)) rfl rfl rfl rfl)
      refine ⟨_, rfl, clu, ?_, ?_, ?_, oi, vdu, ?_, ?_, ?_, ?_, fun _ ckr => (nomatch requester.symm.trans ckr),
        announcedInrush told⟩
      all_goals simp [granting, settlePassed, Spu.moved, RailState.outputOn]
    · rw [settle_grant_powerUp (c := c.past) (v := settlePassed c s) resource requester hk stage waits wait up]
      obtain ⟨clu, oi, vdu, told⟩ := stands (grantStands_handIn
        (u := ((granting c.past (settlePassed c s)).setCkr
          (some { k with waitsOn := .rail })).setSpu (s.spu.moved .ramping)) rfl rfl rfl rfl)
      refine ⟨_, rfl, clu, ?_, ?_, ?_, oi, vdu, ?_, ?_, ?_, fun spu => (nomatch requester.symm.trans spu),
        fun k' _ hk' => ?_, announcedInrush told⟩
      case refine_7 => simp [← Option.some.inj (hk.symm.trans hk')]
      all_goals simp [granting, settlePassed, Spu.moved, RailState.outputOn]
  · intro k w th hy resource requester holds hk stage waits meas
    rw [granted holds]
    let u := (granting c.past (settlePassed c s)).setCkr (some { k with waitsOn := .none })
    have left : GrantStands c.past (settlePassed c s) (handIn u) :=
      grantStands_handIn rfl rfl rfl rfl
    cases timer : k.stageTimer with
    | some m =>
      rw [settle_grant_settling (c := c.past) (v := settlePassed c s) resource requester hk waits stage timer]
      obtain ⟨clu, oi, vdu, told⟩ := stands left
      refine ⟨_, rfl, clu, oi, vdu, ?_, ?_, ?_, ?_, announced resource told, fun _ _ => ⟨?_, ?_⟩, nofun⟩
      all_goals simp [granting, settlePassed, timer]
    | none =>
      rw [settle_grant_window (c := c.past) (v := settlePassed c s) resource requester hk waits stage timer meas]
      obtain ⟨clu, oi, vdu, told⟩ := stands (left.congr (t := ((handIn u).setCkr
        (some { k with stage := .measuring, waitsOn := .measurement })).setCsu (s.csu.startSound w th hy)) rfl rfl
          rfl rfl)
      refine ⟨_, rfl, clu, oi, vdu, ?_, ?_, ?_, ?_, announced resource told, nofun, fun _ => ⟨by simp [timer], rfl⟩⟩
      all_goals simp [granting, settlePassed]
  · intro k w m resource requester holds hk asks
    rw [granted holds]
    obtain ⟨u, x, settles, hu, landed⟩ :=
      settle_grant_write (c := c.past) (v := settlePassed c s) resource requester hk asks
    have left : GrantStands c.past (settlePassed c s) (handIn u) := by
      rw [hu]
      exact grantStands_handIn rfl rfl rfl rfl
    obtain ⟨clu, oi, vdu, told⟩ := stands (left.congr (t := (applyWrite w (handIn u)).setCkr x) (by simp) (by simp)
      (by simp) (by simp))
    rw [settles]
    refine ⟨_, rfl, clu, landed, oi, vdu, ?_, ?_, ?_, ?_, announced resource told⟩
    all_goals simp [hu, granting, settlePassed]

/-- Settles O16: the OPERATOR claim of the check that prompts is granted, and the prompt begins. -/
theorem operatorGrantBeginsPrompt : Obligations.OperatorGrantBeginsPrompt := by
  intro s c n k p running hc pending settles resource requester free hk stage waits waiting hp
  have holds : grantCondition s c = true := by simp [grantCondition, resource, free]
  rw [exec_claimSettleExpiry_of_grant running hc pending settles holds]
  obtain ⟨u, settled, rfl, ⟨shown, lamp, timer, attempts, errors, prompt⟩, record, yesNo, challenge⟩ :=
    settle_grant_prompt (c := c.past) (v := settlePassed c s) resource requester hk stage waits
      waiting hp
  rw [settled]
  refine ⟨_, rfl, ?_, shown, lamp, timer, attempts, errors, prompt, ?_, ?_, ?_, ?_, ?_, record, yesNo, fun mode => ?_⟩
  case refine_7 =>
    obtain ⟨⟨state, generator, code, entry, look⟩, fifth, written, undefined⟩ := challenge mode
    exact ⟨state, generator, code, entry, look, fifth, written, undefined⟩
  all_goals simp [granting, settlePassed, OwnClaim.past]

end Sys2Proof.Certificates
end
section
/-! A check that starts carries its first action out (R71, R74 to R77, R97 to R99): what each action done at once
leaves, and the settle time behind it. -/

namespace Sys2Proof.Machine

/-! ## An action done at once (R71, R78, R79) -/

theorem CheckRecord.SettlesNext.not_sound {k : CheckRecord} (h : k.SettlesNext) : k.order.isSound = false := by
  obtain ⟨-, -, -, other⟩ := h
  exact isSound_of_not other

theorem CheckRecord.SettlesNext.silent {k : CheckRecord} (h : k.SettlesNext) :
    (k.order.isSound && !k.order.hasAudible) = false := by
  rw [h.not_sound, Bool.false_and]

/-- The last action is done at once, a BUS_LATE report may have come with it, and the check settles. -/
theorem settle_of_done_noted {s t : State} {k : CheckRecord} {late : Bool} (next : k.SettlesNext)
    (stage : k.stage = .stimulating) (performed : micro s = some t)
    (record : t.ckr = some (k.finishAction.noted late)) :
    settle s = t.setCkr (some (k.settlingNow.noted late)) := by
  obtain ⟨last, time, bus, -⟩ := id next
  have done : k.order.actions[k.index + 1]? = none := List.getElem?_eq_none (by omega)
  have settles := settlesIn_lastAction record stage rfl done time bus next.silent
  exact (SettlesIn.step performed settles).settle (by decide)

/-- The last action is done at once and the check settles. -/
theorem settle_of_done {s t : State} {k : CheckRecord} (next : k.SettlesNext) (stage : k.stage = .stimulating)
    (performed : micro s = some t) (record : t.ckr = some k.finishAction) :
    settle s = t.setCkr (some k.settlingNow) := by
  have noted := settle_of_done_noted (late := false) next stage performed (by rw [record, CheckRecord.noted_false])
  rwa [CheckRecord.noted_false] at noted

/-- An action after which the check waits. -/
theorem settle_of_waiting {s t : State} {k : CheckRecord} (performed : micro s = some t) (record : t.ckr = some k)
    (stage : k.stage = .stimulating) (waits : k.waitsOn ≠ .none) : settle s = t :=
  settle_of_one performed (micro_none_of_waits record (.inr (.inl ⟨stage, waits⟩)))

/-! ## SUPPLY_SET on a rail that transmits (R97) -/

theorem performAction_supplySet {s : State} (on : s.spu.rail.transmits = true) (target rate : Nat) (k : CheckRecord) :
    performAction (.supplySet target rate) k s =
      some (if (slewTo target rate (s.setCkr (some { k with waitsOn := .rail }))).spu.rail = .on then
        reportOn false (slewTo target rate (s.setCkr (some { k with waitsOn := .rail })))
      else slewTo target rate (s.setCkr (some { k with waitsOn := .rail }))) := by
  rw [performAction, if_neg (not_off_of_transmits on), if_pos on]

theorem performAction_supplySet_of_away {s : State} {target rate : Nat} (on : s.spu.rail.transmits = true)
    (away : s.spu.effective ≠ target / 10 * 10) (k : CheckRecord) : performAction (.supplySet target rate) k s =
      some ((s.setSpu (s.spu.slewsTo target rate)).setCkr (some { k with waitsOn := .rail })) := by
  have begun := (slewTo_eq (s := s.setCkr (some { k with waitsOn := .rail })) on target rate).trans (if_neg away)
  rw [performAction_supplySet on, begun]
  rfl

/-- Where the level is there already the slew is done at once, the output reading as it stands (log 6). -/
theorem performAction_supplySet_of_there {s : State} {target rate : Nat} (on : s.spu.rail.transmits = true)
    (there : s.spu.effective = target / 10 * 10) (k : CheckRecord) : performAction (.supplySet target rate) k s =
      some ((s.setSpu (s.spu.slewsTo target rate).arrived).setCkr (some k.finishAction)) := by
  let u := s.setCkr (some { k with waitsOn := .rail })
  have arrives : slewTo target rate u = u.setSpu (s.spu.slewsTo target rate).arrived :=
    ((slewTo_eq (s := u) on target rate).trans (if_pos there)).trans
      (arriveOn_of_on (s := u.setSpu (s.spu.slewsTo target rate)) rfl)
  rw [performAction_supplySet on, arrives]
  exact congrArg some ((if_pos rfl).trans (reportOn_of_waiting (k := { k with waitsOn := .rail }) rfl rfl false))

/-! ## CRANK and SUPPLY_OFF of a rail that is OFF, and of one that reads below 500 mV (R98, R99) -/

theorem performAction_crank_of_off {s : State} (off : s.spu.rail = .off) (dip time rate : Nat) (k : CheckRecord) :
    performAction (.crank dip time rate) k s = some (s.setCkr (some k.finishAction)) := if_pos off

theorem performAction_supplyOff_of_off {s : State} (off : s.spu.rail = .off) (k : CheckRecord) :
    performAction .supplyOff k s = some (s.setCkr (some k.finishAction)) := if_pos off

theorem offRequest_of_transmits {s : State} (on : s.spu.rail.transmits = true) (retry : s.spu.retry = false) :
    offRequest s = beginDischarge s := by
  have kept : cancelRetry s = s := if_neg (ne_true_of_eq_false retry)
  unfold offRequest
  rw [kept]
  revert on
  cases s.spu.rail <;> simp [RailState.transmits]

/-- A discharge that has nothing to discharge is over at once, and so is the SUPPLY_OFF. -/
theorem performAction_supplyOff_of_low {s : State} {k : CheckRecord} (on : s.spu.rail.transmits = true)
    (retry : s.spu.retry = false) (low : s.spu.outputMv < 500) (action : k.action = some .supplyOff) :
    performAction .supplyOff k s =
      some ((beginDischarge (s.setCkr (some { k with waitsOn := .rail }))).setCkr (some k.finishAction)) := by
  let u := s.setCkr (some { k with waitsOn := .rail })
  have asked : offRequest u = beginDischarge u := offRequest_of_transmits on retry
  have spu : (beginDischarge u).spu.rail = .off := by
    rw [beginDischarge_spu_of_no_retry (s := u) retry]
    exact congrArg Spu.rail (if_pos low)
  rw [performAction, if_neg (not_off_of_transmits on)]
  change some (if (offRequest u).spu.rail = .off then reportOff (offRequest u) else offRequest u) = _
  rw [asked, if_pos spu, reportOff_of_waiting (s := beginDischarge u) (k := { k with waitsOn := .rail }) (by simp [u])
    rfl action]
  rfl

/-! ## MESSAGE_ON and MESSAGE_OFF (R77, R116, R118) -/

theorem messageOn_of_kept {s : State} {n : Fin 24}
    (h : s.bem.slots[n].defined = false ∨ s.bem.slots[n].enabled = true) : messageOn n s = s := by
  rw [messageOn, slotAt_fin, if_neg]
  rcases h with h | h <;> simp [-Fin.getElem_fin, h]

theorem messageOn_of_enables {s : State} {n : Fin 24} (defined : s.bem.slots[n].defined = true)
    (disabled : s.bem.slots[n].enabled = false) :
    messageOn n s = eventDue n (setSlot n { s.bem.slots[n] with enabled := true } s) := by
  rw [messageOn, slotAt_fin, if_pos (by simp [-Fin.getElem_fin, defined, disabled])]

/-- Slot n, enabled in s, may transmit. -/
theorem mayTransmit_enabled_iff {s : State} {n : Fin 24} (defined : s.bem.slots[n].defined = true) :
    MayTransmit (setSlot n { s.bem.slots[n] with enabled := true } s) n ↔ s.bem.slots[n].period = 0 ∧
      (s.spu.rail = .on ∨ s.spu.rail = .slewing ∨ s.spu.rail = .cranking) ∧ s.bem.silent = false := by
  have silent : (setSlot n { s.bem.slots[n] with enabled := true } s).bem.silent = s.bem.silent := rfl
  rw [MayTransmit, setSlot_bem_slots, if_pos rfl, canSnapshot_iff, silent, setSlot_spu]
  simp [-Fin.getElem_fin, defined, and_comm]

theorem messageOff_of_disabled {s : State} {n : Fin 24} (h : s.bem.slots[n].enabled = false) : messageOff n s = s := by
  rw [messageOff, slotAt_fin, if_neg (ne_true_of_eq_false h)]

theorem messageOff_of_enabled {s : State} {n : Fin 24} (h : s.bem.slots[n].enabled = true) :
    messageOff n s = s.setBem { s.bem with
      queue := s.bem.queue.filter (·.slot ≠ n.val)
      slots := s.bem.slots.setIfInBounds n { s.bem.slots[n] with
        enabled := false, late := s.bem.slots[n].late && !s.bem.queue.any (·.slot == n.val) } } := by
  rw [messageOff, slotAt_fin, if_pos h]
  by_cases waits : waitsInQueue s n = true
  · have some_wait : s.bem.queue.any (·.slot == n.val) = true := waits
    have kept : (fun x : TxInstance => decide (x.slot ≠ n.val)) = fun x => x.slot != n.val := by
      funext x
      rw [decide_not]
      rfl
    rw [if_pos waits, some_wait, kept, Bool.not_true, Bool.and_false]
    rfl
  · have none_waits : s.bem.queue.any (·.slot == n.val) = false := eq_false_of_ne_true waits
    have kept : s.bem.queue.filter (fun x => decide (x.slot ≠ n.val)) = s.bem.queue :=
      List.filter_eq_self.mpr fun x hx => decide_eq_true fun same => waits (waitsInQueue_iff.mpr ⟨x, hx, same⟩)
    rw [if_neg waits, none_waits, kept, Bool.not_false, Bool.and_true]
    rfl

/-- A slot whose BUSFIELD is to be read is no longer fresh (R79). -/
theorem enterSettling_of_busField {k : CheckRecord} {b : BusField} (s : State)
    (meas : k.order.meas = some (.busfield b)) (time : k.order.settle ≠ 0) : enterSettling k s =
      (clearFresh b.slot s).setCkr (some { k with
        stage := .settling, stageTimer := some k.order.settle, waitsOn := .none }) := by
  have silent : k.order.isSound = false := isSound_of_not (by simp [meas])
  simp only [enterSettling, silent, meas, Bool.false_and, Bool.false_eq_true, if_false, if_neg time]

/-! ## A write and its restore (R84) -/

theorem writeField_restored (p q : Payload) {start len : Nat} (h : start + len ≤ 64) :
    writeField (writeField p start len q) start len (readField p start len) = p := by
  refine BitVec.eq_of_getLsbD_eq fun i _ => ?_
  rw [getLsbD_writeField _ _ h, getLsbD_writeField _ _ h]
  split
  · next inField =>
    rw [getLsbD_readField]
    simp [show i - start < len by omega, show start + (i - start) = i by omega]
  · rfl

end Sys2Proof.Machine

namespace Sys2Proof.Machine

theorem transmits_iff {r : RailState} : r.transmits = true ↔ r = .on ∨ r = .slewing ∨ r = .cranking := by
  cases r <;> simp [RailState.transmits]

/-! ## Two actions that reach further -/

/-- A message switched on while it may transmit has its snapshot in the transmit queue (R118). -/
theorem settle_messageOn_of_sends {u : State} {k : CheckRecord} {n : Fin 24} (next : k.SettlesNext)
    (stage : k.stage = .stimulating) (performed : micro u = some (messageOn n (u.setCkr (some k.finishAction))))
    (defined : u.bem.slots[n].defined = true) (disabled : u.bem.slots[n].enabled = false)
    (sends : u.bem.slots[n].period = 0 ∧ (u.spu.rail = .on ∨ u.spu.rail = .slewing ∨ u.spu.rail = .cranking) ∧
      u.bem.silent = false) (proper : u.bem.slots[n].Proper) :
    ∃ p, SnapshotOf u.bem.slots[n] p ∧
      ⟨n, u.bem.slots[n].id, u.bem.slots[n].len, p⟩ ∈ (settle u).bem.queue ∧
      (settle u).bem.slots[n].payload = p ∧ (settle u).bem.slots[n].enabled = true ∧
      ∃ late : Bool, (settle u).ckr = some (k.settlingNow.noted late) := by
  let v := u.setCkr (some k.finishAction)
  let e := setSlot n { v.bem.slots[n] with enabled := true } v
  have due := (mayTransmit_enabled_iff (s := v) defined).mpr sends
  have own : e.bem.slots[n] = { u.bem.slots[n] with enabled := true } := (setSlot_bem_slots n _ v n).trans (if_pos rfl)
  have sent : micro u = some (snapshot n e) :=
    performed.trans (congrArg some ((messageOn_of_enables (s := v) defined disabled).trans (eventDue_of_may due)))
  obtain ⟨late, noted⟩ : ∃ late, (snapshot n e).ckr = some (k.finishAction.noted late) := by
    obtain ⟨late, noted⟩ := eventDue_busNoted n e
    rw [eventDue_of_may due] at noted
    exact ⟨late, noted⟩
  have slot := (snapshot_bem_slots n e n).trans (if_pos rfl)
  rw [own] at slot
  rw [settle_of_done_noted next stage sent noted]
  refine ⟨snapshotPayload { u.bem.slots[n] with enabled := true }, snapshotOf_snapshotPayload proper,
    mem_snapshot.mpr (.inl ?_), congrArg MessageSlot.payload slot, congrArg MessageSlot.enabled slot, late, rfl⟩
  rw [snapshotInstance, own]

/-- A SUPPLY_OFF of a rail that transmits: by the output reading it is done at once, or the check waits (R99, R101). -/
theorem settle_supplyOff_of_transmits {u : State} {k : CheckRecord} (hk : u.ckr = some k) (next : k.SettlesNext)
    (stage : k.stage = .stimulating) (free : k.waitsOn = .none)
    (action : k.order.actions[k.index]? = some .supplyOff) (on : u.spu.rail.transmits = true)
    (retry : u.spu.retry = false) :
    u.spu.OffAsked (settle u).spu ∧ (settle u).oi = u.oi ∧ (settle u).clu = u.clu ∧ (settle u).rli = u.rli ∧
      (settle u).vdu = u.vdu ∧ (settle u).bem.queue = [] ∧ (settle u).bem.schedule = none ∧
      (settle u).ckr = if u.spu.outputMv < 500 then some k.settlingNow else some { k with waitsOn := .rail } := by
  let v := u.setCkr (some { k with waitsOn := .rail })
  have asked : u.spu.OffAsked (beginDischarge v).spu := by
    have h := offRequest_offAsked v
    rwa [offRequest_of_transmits (s := v) on retry] at h
  obtain ⟨empty, stopped⟩ := beginDischarge_bem_of_transmits (s := v) on
  by_cases low : u.spu.outputMv < 500
  · rw [settle_of_done next stage ((micro_of_action hk stage free action).trans
      (performAction_supplyOff_of_low on retry low action)) rfl, if_pos low]
    exact ⟨asked, beginDischarge_oi v, beginDischarge_clu v, beginDischarge_rli v, beginDischarge_vdu v, empty, stopped,
      rfl⟩
  · rw [settle_of_supplyOff hk stage free action on retry (Nat.not_lt.mp low), if_neg low]
    exact ⟨asked, beginDischarge_oi v, beginDischarge_clu v, beginDischarge_rli v, beginDischarge_vdu v, empty, stopped,
      beginDischarge_ckr v⟩

/-! ## FIELD_WRITE (R75, R76) -/

theorem performAction_write {w : FieldWrite} (h : w.audible = false) (k : CheckRecord) (s : State) :
    performAction (.fieldWrite w) k s = some (applyWrite w s) := by
  simp [performAction, h]

/-- An audible write where no LIVE peer QUIET claim is in view. -/
theorem performAction_write_of_clear {s : State} {w : FieldWrite} {k : CheckRecord} (h : w.audible = true)
    (other : k.order.isSound = false) (unheld : holdsQuiet s = false) (clear : peerClaims s .quiet = []) :
    performAction (.fieldWrite w) k s = some (applyWrite w (setNoisy s)) := by
  simp [performAction, h, other, audibleRequest, unheld, peerWantsQuiet, clear]

/-- An audible write that has to wait for the LIVE peer QUIET claims in view. -/
theorem performAction_write_of_wanted {s : State} {w : FieldWrite} {k : CheckRecord} (h : w.audible = true)
    (other : k.order.isSound = false) (unheld : holdsQuiet s = false) (wanted : peerClaims s .quiet ≠ []) :
    performAction (.fieldWrite w) k s = some ((s.setClu { s.clu with
      audible := some (s.oi.rack.claimWait * 1000) }).setCkr (some { k with waitsOn := .audible })) := by
  simp [performAction, h, other, audibleRequest, unheld, peerWantsQuiet, wanted]

/-- In a SOUND check an audible write asks for QUIET first (R78). -/
theorem performAction_write_of_sound {s : State} {w : FieldWrite} {k : CheckRecord} (h : w.audible = true)
    (sound : k.order.isSound = true) (unclaimed : s.clu.claim = none) : performAction (.fieldWrite w) k s =
      some (takeClaim ⟨.quiet, 0, .ckr⟩ (s.setCkr (some { k with waitsOn := .claim .quiet }))) := by
  have unheld : holdsQuiet s = false := by simp [holdsQuiet, unclaimed]
  simp only [performAction, h, sound, unheld, Bool.not_true, Bool.not_false, Bool.and_self, Bool.false_eq_true,
    if_false, if_true]
  rw [requestClaim_of_none (by exact unclaimed)]

/-- The last action is a FIELD_WRITE that lands at once, after what the audible request has done. -/
theorem landed_of_micro {s u v : State} {k : CheckRecord} {w : FieldWrite} {n : Fin 24} (next : k.SettlesNext)
    (fits : w.Fits s n) (performed : micro u = some (applyWrite w v)) (bem : v.bem = s.bem) (spu : v.spu = s.spu)
    (hk : v.ckr = some k) (stage : k.stage = .stimulating) :
    ∃ c, settle u = (applyWrite w v).setCkr c ∧ Landed s ((applyWrite w v).setCkr c) k w n := by
  obtain ⟨last, time, bus, -⟩ := id next
  obtain ⟨c, settles, landed⟩ := settle_applyWrite (x := k.waitsOn) fits bem spu hk stage last time bus next.silent
  refine ⟨c, ?_, landed⟩
  rw [← settles]
  exact (SettlesIn.step performed (settlesIn_applyWrite (k := k) (x := k.waitsOn) hk stage last time bus
    next.silent)).settle (by decide)

end Sys2Proof.Machine

namespace Sys2Proof.Certificates

open Machine

/-- Settles O22: the first action of the check that starts, kind by kind. -/
theorem checkStartCarriesOutAction : Obligations.CheckStartCarriesOutAction := by
  refine ⟨?_, fun p q start len within => writeField_restored p q within⟩
  intro s o rest running queue ready idle rail retry k started waiting finished transmits
  let u := startCheck o rest s
  have starts : exec .checkStart s = .next (settle u) :=
    exec_checkStart running queue ready idle (by simp [Spu.blocksStart, rail, retry])
  have performs {a : Action} {as : List Action} (h : o.actions = a :: as) : micro u = performAction a k u :=
    micro_of_action (k := k) rfl rfl rfl (by simp [k, OrderRec.newCheck, h])
  refine ⟨?_, ?_, ?_, ?_, ?_, ?_, ?_⟩
  · intro target rate actions next on level
    have on : u.spu.rail.transmits = true := transmits_iff.mpr on
    refine ⟨fun away => ?_, fun there => ?_⟩
    · rw [starts, settle_of_waiting (k := { k with waitsOn := .rail })
        ((performs actions).trans (performAction_supplySet_of_away on away k)) rfl rfl (by simp)]
      rfl
    · rw [starts, settle_of_done next rfl ((performs actions).trans (performAction_supplySet_of_there on there k)) rfl]
      rfl
  · intro dip time rate actions next level
    refine ⟨fun off => ?_, fun on => ?_⟩
    · rw [starts, settle_of_done next rfl ((performs actions).trans (performAction_crank_of_off (s := u) off ..)) rfl]
      rfl
    · rw [starts, settle_of_crank (s := u) (k := k) (dip := dip) (time := time) (rate := rate) rfl rfl rfl
        (by simp [k, OrderRec.newCheck, actions]) (transmits_iff.mpr on)]
      rfl
  · intro n target rate actions disabled on away
    have first : micro u = some (u.setCkr (some k.finishAction)) :=
      (performs actions).trans (congrArg some (messageOff_of_disabled (s := u.setCkr (some k.finishAction)) disabled))
    have second : micro (u.setCkr (some k.finishAction)) = some (((u.setCkr (some k.finishAction)).setSpu
        (s.spu.slewsTo target rate)).setCkr (some { k.finishAction with waitsOn := .rail })) :=
      (micro_of_action (k := k.finishAction) rfl rfl rfl
        (by simp [k, OrderRec.newCheck, CheckRecord.finishAction, actions])).trans
        (performAction_supplySet_of_away (s := u.setCkr (some k.finishAction)) (transmits_iff.mpr on) away _)
    rw [starts, settle_of_two first second (micro_none_of_waits (by rfl) (.inr (.inl ⟨rfl, by simp⟩)))]
    rfl
  · intro actions next
    refine ⟨fun off => ?_, fun on => ?_⟩
    · rw [starts, settle_of_done next rfl
        ((performs actions).trans (performAction_supplyOff_of_off (s := u) off k)) rfl]
      rfl
    · rw [starts]
      exact ⟨_, rfl, settle_supplyOff_of_transmits (u := u) (k := k) rfl next rfl rfl
        (by simp [k, OrderRec.newCheck, actions]) (transmits_iff.mpr on) retry⟩
  · intro n next m with_ may
    let v := u.setCkr (some k.finishAction)
    refine ⟨fun actions => ⟨fun kept => ?_, fun defined disabled still => ?_, fun defined disabled sends proper => ?_⟩,
      fun actions => ⟨fun disabled => ?_, fun enabled => ?_⟩⟩
    · rw [starts, settle_of_done next rfl
        ((performs actions).trans (congrArg some (messageOn_of_kept (s := v) kept))) rfl]
      rfl
    · have quiet := mt (mayTransmit_enabled_iff (s := v) defined).mp still
      rw [starts, settle_of_done next rfl ((performs actions).trans (congrArg some
        ((messageOn_of_enables (s := v) defined disabled).trans (eventDue_of_not_may quiet)))) rfl]
      rfl
    · rw [starts]
      exact ⟨_, rfl, settle_messageOn_of_sends next rfl (performs actions) defined disabled sends proper⟩
    · rw [starts, settle_of_done next rfl
        ((performs actions).trans (congrArg some (messageOff_of_disabled (s := v) disabled))) rfl]
      rfl
    · rw [starts, settle_of_done next rfl
        ((performs actions).trans (congrArg some (messageOff_of_enabled (s := v) enabled))) rfl]
      rfl
  · intro w n actions fits landed
    refine ⟨fun silent next => ?_, fun audible next unheld clear => ?_, fun audible next unheld wanted => ?_,
      fun v th hy audible meas unclaimed => ?_⟩
    · obtain ⟨c, settles, lands⟩ := landed_of_micro (s := s) (k := k) next fits
        ((performs actions).trans (performAction_write silent k u)) rfl rfl rfl rfl
      rw [starts, settles]
      refine ⟨_, rfl, ⟨lands, ?_, ?_, ?_, ?_⟩, ?_, ?_⟩
      all_goals simp [u, started, startCheck]
    · obtain ⟨c, settles, lands⟩ := landed_of_micro (s := s) (k := k) next fits
        ((performs actions).trans (performAction_write_of_clear (s := u) audible next.not_sound unheld clear))
        (by simp [u, startCheck]) (by simp [u, startCheck]) (by simp [u, startCheck]; rfl) rfl
      rw [starts, settles]
      refine ⟨_, rfl, ⟨lands, ?_, ?_, ?_, ?_⟩, ?_, ?_, fun quiet heard => ?_⟩
      case refine_7 => simpa using setNoisy_buffer (s := u) quiet heard
      all_goals simp [u, started, startCheck, setNoisy_clu]
    · rw [starts, settle_of_waiting (k := { k with waitsOn := .audible }) ((performs actions).trans
        (performAction_write_of_wanted (s := u) audible next.not_sound unheld wanted)) rfl rfl (by simp)]
      rfl
    · rw [starts, settle_of_waiting (k := { k with waitsOn := .claim .quiet }) ((performs actions).trans
        (performAction_write_of_sound (s := u) audible (isSound_iff.mpr ⟨v, th, hy, meas⟩) unclaimed)) (by simp) rfl
        (by simp)]
      refine ⟨_, rfl, ?_, ?_, ?_, ?_, ?_, ?_, ?_⟩
      case refine_6 => rw [takeClaim_clu]; rfl
      case refine_7 => rw [takeClaim_clu]; rfl
      all_goals simp [u, started, startCheck, waiting]
  · intro b n actions time meas slot
    have enters : enterSettling k u =
        (clearFresh b.slot u).setCkr (some { k with stage := .settling, stageTimer := some o.settle }) :=
      enterSettling_of_busField u meas time
    have done : k.action = none := by simp [k, OrderRec.newCheck, CheckRecord.action, actions]
    have settles : settle u =
        (clearFresh b.slot u).setCkr (some { k with stage := .settling, stageTimer := some o.settle }) :=
      settle_of_one ((micro_of_noAction (k := k) rfl rfl rfl done).trans (congrArg some enters))
        (micro_none_of_waits (by rfl) (.inr (.inr (.inr ⟨rfl, rfl⟩))))
    rw [starts, settles, slot, clearFresh, captureAt_fin, setCapture_fin]
    rfl

end Sys2Proof.Certificates
end
section
/-! What is due with no command waiting (logs 2 and 3): the list of due events in the words of the claims. -/

namespace Sys2Proof.Machine

/-! ## Which events a state makes due -/

theorem mem_whenOut {t : Option Nat} {e c : Instr} : c ∈ whenOut t e ↔ t = some 0 ∧ c = e := by
  unfold whenOut
  split <;> simp_all

theorem mem_whenTrue {b : Bool} {e c : Instr} : c ∈ whenTrue b e ↔ b = true ∧ c = e := by
  cases b <;> simp [whenTrue]

theorem mem_ite_nil {p : Prop} [Decidable p] {l : List Instr} {c : Instr} :
    (c ∈ if p then l else []) ↔ p ∧ c ∈ l := by
  split <;> simp_all

theorem mem_staleDue {s : State} {c : Instr} : c ∈ staleDue s ↔ ∃ n : Fin 16, (n.val ≠ s.rli.slot.toNat ∧
    s.clu.peers[n].liveness = .live ∧ 4 * s.oi.rack.period < s.clu.peers[n].age) ∧ c = .peerStale n := by
  simp only [staleDue, List.mem_flatMap, List.mem_finRange, true_and, entryAt_fin, mem_whenTrue, Bool.and_eq_true,
    bne_iff_ne, beq_iff_eq, tooOld, decide_eq_true_eq, gt_iff_lt, and_assoc]

theorem mem_claimDue {k : OwnClaim} {c : Instr} : c ∈ k.due ↔ k.granted = false ∧
    (k.settle = .running 0 ∧ c = .claimSettleExpiry ∨ k.wait = some 0 ∧ c = .claimWaitExpiry) := by
  unfold OwnClaim.due
  split
  · next granted => simp [granted]
  · next pending => simp [pending, mem_whenTrue, mem_whenOut]

theorem mem_getD_due {α : Type} {o : Option α} {f : α → List Instr} {c : Instr} :
    c ∈ (o.map f).getD [] ↔ ∃ x, o = some x ∧ c ∈ f x := by
  cases o <;> simp

theorem mem_cluDue {s : State} {c : Instr} : c ∈ cluDue s ↔
    s.clu.announceTimer = some 0 ∧ c = .announceTimerExpiry ∨ c ∈ staleDue s ∨
      (∃ k, s.clu.claim = some k ∧ c ∈ k.due) ∨ s.clu.audible = some 0 ∧ c = .audibleWaitExpiry := by
  simp only [cluDue, List.mem_append, mem_whenOut, mem_getD_due, or_assoc]

theorem mem_checkDue {k : CheckRecord} {c : Instr} : c ∈ k.due ↔ k.holdTimer = some 0 ∧ c = .inrushHoldExpiry ∨
    k.stage = .settling ∧ k.stageTimer = some 0 ∧ c = .checkSettleExpiry := by
  simp only [CheckRecord.due, List.mem_append, mem_whenOut, mem_ite_nil]

theorem mem_profileDue {u : Spu} {c : Instr} : c ∈ u.profileDue ↔
    (u.rail = .ramping ∧ u.effective = u.setpoint ∧ c = .rampComplete) ∨
    (u.rail = .slewing ∧ u.effective = u.setpoint ∧ c = .slewComplete) ∨
    (u.rail = .cranking ∧ ∃ p, u.crank = some p ∧ (p.hold = some 0 ∧ c = .crankDipEnd ∨
      p.hold = none ∧ u.effective = u.setpoint ∧ c = .crankRecoveryComplete)) := by
  cases hr : u.rail
  case cranking =>
    cases hp : u.crank with
    | none => simp [Spu.profileDue, hr, hp]
    | some p => cases hh : p.hold <;> simp [Spu.profileDue, hr, hp, hh, mem_whenTrue]
  all_goals simp [Spu.profileDue, hr, mem_whenTrue]

theorem mem_faultDue {u : Spu} {c : Instr} : c ∈ u.faultDue ↔ u.rail.outputOn = true ∧
    (10 ≤ u.overVoltageCount ∧ c = .overvoltage ∨
      u.overVoltageCount < 10 ∧ (20 ≤ u.shortCount ∧ u.shortPossible = true) ∧ c = .short ∨
      u.overVoltageCount < 10 ∧ (u.shortCount < 20 ∨ u.shortPossible = false) ∧ 200 ≤ u.overCurrentCount ∧
        c = .overcurrent) := by
  unfold Spu.faultDue
  split
  · next off => simp_all
  next on =>
  rw [Bool.not_eq_true, Bool.not_eq_false'] at on
  rw [on]
  split
  · next high => simp [high, show ¬ u.overVoltageCount < 10 by omega]
  next under =>
  have below : u.overVoltageCount < 10 := by omega
  split
  · next short =>
    rw [Bool.and_eq_true, decide_eq_true_eq] at short
    obtain ⟨reached, possible⟩ := short
    simp [below, under, reached, possible, show ¬ u.shortCount < 20 by omega]
  next noShort =>
  have spared : u.shortCount < 20 ∨ u.shortPossible = false := by
    by_cases reached : u.shortCount < 20
    · exact .inl reached
    · exact .inr (by simpa [show 20 ≤ u.shortCount by omega] using noShort)
  have never : ¬ (20 ≤ u.shortCount ∧ u.shortPossible = true) := by
    rintro ⟨reached, possible⟩
    exact noShort (by simp [reached, possible])
  split
  · next current => simp [below, under, spared, never, current]
  · next low => simp [under, never, show ¬ 200 ≤ u.overCurrentCount from low]

theorem mem_spuDue {u : Spu} {c : Instr} : c ∈ u.due ↔ c ∈ u.profileDue ∨ c ∈ u.faultDue ∨
    (u.rail = .faultOff ∧ u.offTimer = some 0 ∧ c = .offTimerExpiry) ∨
    (u.rail = .discharging ∧ u.dischargeTimer = some 0 ∧ c = .dischargeTimerExpiry) ∨
    (u.recovery = some 0 ∧ c = .recoveryTimerExpiry) := by
  simp only [Spu.due, List.mem_append, mem_ite_nil, mem_whenOut, or_assoc]

/-- The range timers that have run out. -/
def ltuDue (s : State) : List Instr := (List.finRange 8).flatMap fun (n : Fin 8) => (entryAt s.ltu n .reset).due n

theorem mem_ltuDue {s : State} {c : Instr} : c ∈ ltuDue s ↔ ∃ n : Fin 8,
    ((s.ltu[n].state = .ranging ∨ s.ltu[n].state = .locked) ∧ s.ltu[n].rangeTimer = some 0) ∧
      c = .rangeTimerExpiry n := by
  simp only [ltuDue, List.mem_flatMap, List.mem_finRange, true_and, entryAt_fin, LightChannel.due, mem_ite_nil,
    mem_whenOut, and_assoc]

theorem mem_opuDue {o : Opu} {c : Instr} : c ∈ o.due ↔ o.lookTimer = some 0 ∧ c = .lookTimerExpiry ∨
    (o.state = .challenge ∨ o.state = .yesNo) ∧ o.promptTimer = some 0 ∧ c = .promptTimerExpiry := by
  simp only [Opu.due, List.mem_append, mem_whenOut, mem_ite_nil]

theorem mem_dueEvents {s : State} {c : Instr} : c ∈ dueEvents s ↔
    (s.oi.presence = some 0 ∧ c = .linePresenceExpiry) ∨ c ∈ cluDue s ∨ (∃ k, s.ckr = some k ∧ c ∈ k.due) ∨
      c ∈ s.spu.due ∨ c ∈ ltuDue s ∨ c ∈ s.opu.due := by
  simp only [dueEvents, ltuDue, List.mem_append, mem_whenOut, mem_getD_due, or_assoc]

/-- A due event stands in the claims' table of them. -/
theorem dueNow_of_mem {s : State} {c : Instr} (due : c ∈ dueEvents s) : DueNow s c := by
  rcases mem_dueEvents.mp due with ⟨h, rfl⟩ | clu | ⟨k, hk, check⟩ | spu | light | opu
  · exact .presence h
  · rcases mem_cluDue.mp clu with ⟨h, rfl⟩ | stale | ⟨k, hk, claim⟩ | ⟨h, rfl⟩
    · exact .announce h
    · obtain ⟨n, ⟨other, live, old⟩, rfl⟩ := mem_staleDue.mp stale
      exact .stale n other live old
    · obtain ⟨pending, ⟨h, rfl⟩ | ⟨h, rfl⟩⟩ := mem_claimDue.mp claim
      · exact .claimSettle k hk pending h
      · exact .claimWait k hk pending h
    · exact .audible h
  · rcases mem_checkDue.mp check with ⟨h, rfl⟩ | ⟨st, h, rfl⟩
    · exact .inrushHold k hk h
    · exact .checkSettle k hk st h
  · rcases mem_spuDue.mp spu with profile | fault | ⟨rail, h, rfl⟩ | ⟨rail, h, rfl⟩ | ⟨h, rfl⟩
    · rcases mem_profileDue.mp profile with ⟨rail, there, rfl⟩ | ⟨rail, there, rfl⟩ |
        ⟨rail, p, hp, ⟨hold, rfl⟩ | ⟨hold, there, rfl⟩⟩
      · exact .ramp rail there
      · exact .slew rail there
      · exact .dip p rail hp hold
      · exact .crank p rail hp hold there
    · obtain ⟨on, ⟨high, rfl⟩ | ⟨under, ⟨reached, possible⟩, rfl⟩ | ⟨under, no, reached, rfl⟩⟩ := mem_faultDue.mp fault
      · exact .overvoltage on high
      · exact .short on under reached possible
      · exact .overcurrent on under no reached
    · exact .offTimer rail h
    · exact .discharge rail h
    · exact .recovery h
  · obtain ⟨n, ⟨st, h⟩, rfl⟩ := mem_ltuDue.mp light
    exact .range n st h
  · rcases mem_opuDue.mp opu with ⟨h, rfl⟩ | ⟨st, h, rfl⟩
    · exact .look h
    · exact .prompt st h

/-- What stands in the claims' table is a due event, of the unit whose row it is. -/
theorem mem_of_dueNow {s : State} {c : Instr} (due : DueNow s c) : c ∈ dueEvents s := by
  have clu (h : c ∈ cluDue s) : c ∈ dueEvents s := mem_dueEvents.mpr (.inr (.inl h))
  have claim {k : OwnClaim} (hk : s.clu.claim = some k) (h : c ∈ k.due) : c ∈ dueEvents s :=
    clu (mem_cluDue.mpr (.inr (.inr (.inl ⟨k, hk, h⟩))))
  have check {k : CheckRecord} (hk : s.ckr = some k) (h : c ∈ k.due) : c ∈ dueEvents s :=
    mem_dueEvents.mpr (.inr (.inr (.inl ⟨k, hk, h⟩)))
  have spu (h : c ∈ s.spu.due) : c ∈ dueEvents s := mem_dueEvents.mpr (.inr (.inr (.inr (.inl h))))
  have profile (h : c ∈ s.spu.profileDue) : c ∈ dueEvents s := spu (mem_spuDue.mpr (.inl h))
  have fault (h : c ∈ s.spu.faultDue) : c ∈ dueEvents s := spu (mem_spuDue.mpr (.inr (.inl h)))
  have opu (h : c ∈ s.opu.due) : c ∈ dueEvents s := mem_dueEvents.mpr (.inr (.inr (.inr (.inr (.inr h)))))
  cases due with
  | presence h => exact mem_dueEvents.mpr (.inl ⟨h, rfl⟩)
  | announce h => exact clu (mem_cluDue.mpr (.inl ⟨h, rfl⟩))
  | stale n other live old =>
    exact clu (mem_cluDue.mpr (.inr (.inl (mem_staleDue.mpr ⟨n, ⟨other, live, old⟩, rfl⟩))))
  | claimSettle k hk pending h => exact claim hk (mem_claimDue.mpr ⟨pending, .inl ⟨h, rfl⟩⟩)
  | claimWait k hk pending h => exact claim hk (mem_claimDue.mpr ⟨pending, .inr ⟨h, rfl⟩⟩)
  | audible h => exact clu (mem_cluDue.mpr (.inr (.inr (.inr ⟨h, rfl⟩))))
  | inrushHold k hk h => exact check hk (mem_checkDue.mpr (.inl ⟨h, rfl⟩))
  | checkSettle k hk st h => exact check hk (mem_checkDue.mpr (.inr ⟨st, h, rfl⟩))
  | ramp rail there => exact profile (mem_profileDue.mpr (.inl ⟨rail, there, rfl⟩))
  | slew rail there => exact profile (mem_profileDue.mpr (.inr (.inl ⟨rail, there, rfl⟩)))
  | dip p rail hp hold => exact profile (mem_profileDue.mpr (.inr (.inr ⟨rail, p, hp, .inl ⟨hold, rfl⟩⟩)))
  | crank p rail hp hold there =>
    exact profile (mem_profileDue.mpr (.inr (.inr ⟨rail, p, hp, .inr ⟨hold, there, rfl⟩⟩)))
  | overvoltage on high => exact fault (mem_faultDue.mpr ⟨on, .inl ⟨high, rfl⟩⟩)
  | short on under reached possible =>
    exact fault (mem_faultDue.mpr ⟨on, .inr (.inl ⟨under, ⟨reached, possible⟩, rfl⟩)⟩)
  | overcurrent on under no reached => exact fault (mem_faultDue.mpr ⟨on, .inr (.inr ⟨under, no, reached, rfl⟩)⟩)
  | offTimer rail h => exact spu (mem_spuDue.mpr (.inr (.inr (.inl ⟨rail, h, rfl⟩))))
  | discharge rail h => exact spu (mem_spuDue.mpr (.inr (.inr (.inr (.inl ⟨rail, h, rfl⟩)))))
  | recovery h => exact spu (mem_spuDue.mpr (.inr (.inr (.inr (.inr ⟨h, rfl⟩)))))
  | range n st h => exact mem_dueEvents.mpr (.inr (.inr (.inr (.inr (.inl (mem_ltuDue.mpr ⟨n, ⟨st, h⟩, rfl⟩))))))
  | look h => exact opu (mem_opuDue.mpr (.inl ⟨h, rfl⟩))
  | prompt st h => exact opu (mem_opuDue.mpr (.inr ⟨st, h, rfl⟩))

end Sys2Proof.Machine
end
section
/-! The millisecond of the SPU (R95, R101 to R104, R110): one move of its profile, its fault filters, its readings. -/

namespace Sys2Proof.Machine

/-! ## The profile (R95) -/

theorem moved_moveToward (rate target level : Nat) : Moved rate target level (moveToward rate target level) :=
  ⟨fun below => if_pos below, fun above => if_neg above.not_gt⟩

/-- A profile moves the level and the crank alone. -/
theorem Spu.profile_eq (u : Spu) :
    u.profile = { u with effective := u.profile.effective, crank := u.profile.crank } := by
  unfold Spu.profile
  split
  · rfl
  · rfl
  · split
    · rfl
    · split <;> rfl
  · rfl

theorem Spu.profile_of_moving {u : Spu} (h : u.rail = .ramping ∨ u.rail = .slewing) :
    u.profile = { u with effective := moveToward u.rate u.setpoint u.effective } := by
  rcases h with h | h <;> simp only [Spu.profile, h]

theorem Spu.profile_of_hold {u : Spu} {p : Crank} {m : Nat} (h : u.rail = .cranking) (hp : u.crank = some p)
    (hold : p.hold = some m) : u.profile = { u with crank := some { p with hold := some (m - 1) } } := by
  simp only [Spu.profile, h, hp, hold]

theorem Spu.profile_of_recovery {u : Spu} {p : Crank} (h : u.rail = .cranking) (hp : u.crank = some p)
    (hold : p.hold = none) : u.profile = { u with effective := moveToward p.rate u.setpoint u.effective } := by
  simp only [Spu.profile, h, hp, hold]

theorem Spu.profile_of_still {u : Spu} (ramping : u.rail ≠ .ramping) (slewing : u.rail ≠ .slewing)
    (cranking : u.rail ≠ .cranking ∨ u.crank = none) : u.profile = u := by
  unfold Spu.profile
  split
  · next h => exact absurd h ramping
  · next h => exact absurd h slewing
  · next h =>
    split
    · rfl
    · next hp => exact absurd (hp.symm.trans (cranking.resolve_left (· h))) nofun
  · rfl

/-! ## The fault filters (R102 to R104) -/

/-- The fault filters after these samples. -/
def Spu.filteredOver (samples : List Nat) (u : Spu) : Spu :=
  let atLimit (i : Nat) := decide (u.cfg.limitMa ≤ Config.loadMaAt i u.drive)
  let volts (i : Nat) := Config.outputMvAt i u.drive
  { u with
    shortCount := filtered (fun i => atLimit i && decide (volts i < u.effective / 2)) samples u.shortCount
    overCurrentCount := filtered atLimit samples u.overCurrentCount
    overVoltageCount := filtered (fun i => decide (u.effective + 1000 < volts i)) samples u.overVoltageCount }

theorem Spu.filteredTo_eq (n j : Nat) (u : Spu) :
    Spu.filteredTo n j u = u.filteredOver ((List.range j).map (10 * n + ·)) := rfl

theorem Spu.monitor_of_on {u : Spu} (on : u.rail.outputOn = true) (i : Nat) : u.monitor i = u.filteredOver [i] := by
  have limited : (u.currentAt i == u.cfg.limitMa) = decide (u.cfg.limitMa ≤ Config.loadMaAt i u.drive) := by
    rw [Spu.currentAt, if_pos on, beq_eq_decide]
    exact decide_eq_decide.mpr min_eq_right_iff
  rw [Spu.monitor, if_pos on]
  simp only [limited]
  rfl

theorem Spu.monitor_of_off {u : Spu} (off : u.rail.outputOn = false) (i : Nat) : u.monitor i = u :=
  if_neg (ne_true_of_eq_false off)

theorem Spu.filteredOver_cons (i : Nat) (is : List Nat) {u : Spu} (on : u.rail.outputOn = true) :
    u.filteredOver (i :: is) = (u.monitor i).filteredOver is := by
  rw [Spu.monitor_of_on on]
  rfl

theorem Spu.faultDue_eq_nil_iff {u : Spu} (on : u.rail.outputOn = true) : u.faultDue = [] ↔ ¬ u.FilterReached := by
  unfold Spu.faultDue Spu.FilterReached
  rw [on]
  by_cases high : 10 ≤ u.overVoltageCount <;> by_cases short : 20 ≤ u.shortCount ∧ u.shortPossible = true <;>
    by_cases current : 200 ≤ u.overCurrentCount <;> simp [high, short, current]

theorem Spu.monitors_of_off {u : Spu} (off : u.rail.outputOn = false) (is : List Nat) : Spu.monitors is u = u := by
  induction is with
  | nil => rfl
  | cons i is ih => rw [Spu.monitors, Spu.monitor_of_off off, ih, ite_self]

/-- The samples are taken up to the first that brings a fault about, or to the last. -/
theorem Spu.monitors_stop (is : List Nat) : ∀ {u : Spu}, u.rail.outputOn = true → ∃ j, j ≤ is.length ∧
    (is ≠ [] → 1 ≤ j) ∧ Spu.monitors is u = u.filteredOver (is.take j) ∧
    (∀ i, 1 ≤ i → i < j → ¬ (u.filteredOver (is.take i)).FilterReached) ∧
    (j < is.length → (u.filteredOver (is.take j)).FilterReached) := by
  induction is with
  | nil => exact fun _ => ⟨0, le_rfl, fun h => absurd rfl h, rfl, fun i _ hi => absurd hi i.not_lt_zero, nofun⟩
  | cons i is ih =>
    intro u on
    have taken (j : Nat) : u.filteredOver ((i :: is).take (j + 1)) = (u.monitor i).filteredOver (is.take j) := by
      rw [List.take_succ_cons, Spu.filteredOver_cons _ _ on]
    have first : u.filteredOver ((i :: is).take 1) = u.monitor i := taken 0
    have still : (u.monitor i).rail.outputOn = true := by rw [(u.monitor_leaves i).1]; exact on
    rw [Spu.monitors]
    by_cases quiet : (u.monitor i).faultDue = []
    · rw [if_pos quiet]
      obtain ⟨j, within, -, stops, before, reached⟩ := ih still
      refine ⟨j + 1, Nat.succ_le_succ within, fun _ => by omega, stops.trans (taken j).symm, fun a ha haj => ?_,
        fun more => taken j ▸ reached (by simpa using more)⟩
      obtain ⟨b, rfl⟩ : ∃ b, a = b + 1 := ⟨a - 1, by omega⟩
      rcases Nat.eq_zero_or_pos b with rfl | pos
      · rw [first]
        exact (Spu.faultDue_eq_nil_iff still).mp quiet
      · rw [taken]
        exact before b pos (by omega)
    · rw [if_neg quiet]
      refine ⟨1, by simp, fun _ => le_rfl, first.symm, fun a ha haj => absurd haj (by omega), fun _ => ?_⟩
      rw [first]
      exact not_not.mp (mt (Spu.faultDue_eq_nil_iff still).mpr quiet)

theorem Spu.monitors_eq (is : List Nat) (u : Spu) : Spu.monitors is u = { u with
    shortCount := (Spu.monitors is u).shortCount, overCurrentCount := (Spu.monitors is u).overCurrentCount
    overVoltageCount := (Spu.monitors is u).overVoltageCount } := by
  cases on : u.rail.outputOn with
  | false => rw [Spu.monitors_of_off on]
  | true =>
    obtain ⟨j, -, -, stops, -⟩ := Spu.monitors_stop is on
    rw [stops]
    rfl

/-! ## The millisecond -/

/-- What the millisecond leaves of the profile and of the filters. -/
theorem Spu.tick_eq (u : Spu) (n : Nat) : u.tick n = { Spu.monitors (samplesOf n) u.profile with
    offTimer := u.offTimer.map (· - 1), dischargeTimer := u.dischargeTimer.map (· - 1)
    recovery := u.recovery.map (· - 1)
    outputMv := Config.outputMvAt (10 * n + 9) (Spu.monitors (samplesOf n) u.profile).drive } := rfl

theorem Spu.tick_profile (u : Spu) (n : Nat) :
    (u.tick n).effective = u.profile.effective ∧ (u.tick n).crank = u.profile.crank ∧ (u.tick n).rail = u.rail ∧
      (u.tick n).drive = u.profile.drive ∧ (u.tick n).cfg = u.cfg := by
  have kept := Spu.monitors_eq (samplesOf n) u.profile
  rw [Spu.tick_eq, kept, u.profile_eq]
  exact ⟨rfl, rfl, rfl, rfl, rfl⟩

/-- Beyond the level, the crank, the filters, the timers and the reading nothing changes. -/
theorem Spu.tick_leaves (u : Spu) (n : Nat) : u.tick n = { u with
    effective := (u.tick n).effective, crank := (u.tick n).crank, shortCount := (u.tick n).shortCount
    overCurrentCount := (u.tick n).overCurrentCount, overVoltageCount := (u.tick n).overVoltageCount
    offTimer := u.offTimer.map (· - 1), dischargeTimer := u.dischargeTimer.map (· - 1)
    recovery := u.recovery.map (· - 1), outputMv := Config.outputMvAt (10 * n + 9) (u.tick n).drive } := by
  have kept := Spu.monitors_eq (samplesOf n) u.profile
  have fields : (u.tick n).rail = u.rail ∧ (u.tick n).setpoint = u.setpoint ∧ (u.tick n).rate = u.rate ∧
      (u.tick n).retryCount = u.retryCount ∧ (u.tick n).retry = u.retry ∧ (u.tick n).cfg = u.cfg := by
    rw [Spu.tick_eq, kept, u.profile_eq]
    exact ⟨rfl, rfl, rfl, rfl, rfl, rfl⟩
  obtain ⟨rail, setpoint, rate, retryCount, retry, cfg⟩ := fields
  rw [← rail, ← setpoint, ← rate, ← retryCount, ← retry, ← cfg]
  rfl

theorem samplesOf_take {n j : Nat} (h : j ≤ 10) : (samplesOf n).take j = (List.range j).map (10 * n + ·) := by
  rw [samplesOf, ← List.map_take, List.take_range, min_eq_left h]

theorem Spu.passedMs_tick (u : Spu) (n : Nat) : Spu.PassedMs n u (u.tick n) := by
  obtain ⟨effective, crank, -, -, -⟩ := u.tick_profile n
  have sampled : u.profile = { u with effective := (u.tick n).effective, crank := (u.tick n).crank } := by
    rw [effective, crank]
    exact u.profile_eq
  refine ⟨?_, fun moving => ?_, fun p m cranking hp hold => ?_, fun p cranking hp hold => ?_,
    fun ramping slewing cranking => ?_, fun off => ?_, fun on => ?_⟩
  · exact u.tick_leaves n
  · rw [effective, crank, Spu.profile_of_moving moving]
    exact ⟨moved_moveToward _ _ _, rfl⟩
  · rw [effective, crank, Spu.profile_of_hold cranking hp hold]
    exact ⟨rfl, rfl⟩
  · rw [effective, crank, Spu.profile_of_recovery cranking hp hold]
    exact ⟨moved_moveToward _ _ _, rfl⟩
  · rw [effective, crank, Spu.profile_of_still ramping slewing cranking]
    exact ⟨rfl, rfl⟩
  · have still : u.profile.rail.outputOn = false := by rw [u.profile_eq]; exact off
    have kept : u.tick n = _ := u.tick_eq n
    rw [Spu.monitors_of_off still, u.profile_eq] at kept
    rw [kept]
    exact ⟨rfl, rfl, rfl⟩
  · have going : u.profile.rail.outputOn = true := by rw [u.profile_eq]; exact on
    obtain ⟨j, within, least, stops, before, reached⟩ := Spu.monitors_stop (samplesOf n) going
    have ten : (samplesOf n).length = 10 := by simp [samplesOf]
    rw [ten] at within reached
    have first : 1 ≤ j := least (by simp [samplesOf])
    refine ⟨j, first, within, ?_⟩
    rw [← sampled]
    have taken {i : Nat} (h : i ≤ 10) :
        Spu.filteredTo n i u.profile = u.profile.filteredOver ((samplesOf n).take i) := by
      rw [Spu.filteredTo_eq, samplesOf_take h]
    dsimp only
    rw [taken within, ← stops]
    refine ⟨rfl, rfl, rfl, fun i hi hij => ?_, fun more => stops ▸ reached more⟩
    rw [taken (by omega)]
    exact before i hi hij

/-! ## Readings (R101, R110) -/

theorem roundHalfUp_iff_mean {sum q : Nat} :
    (2 * (sum % 10) < 10 ∧ q = sum / 10) ∨ (10 ≤ 2 * (sum % 10) ∧ q = sum / 10 + 1) ↔ q = roundHalfUp sum 10 := by
  unfold roundHalfUp
  split
  · next up => simp [show ¬ 2 * (sum % 10) < 10 by omega, up]
  · next down => simp [show 2 * (sum % 10) < 10 by omega, down]

theorem meanCurrent_iff {u : Spu} {n q : Nat} : Spu.MeanCurrent n (u.tick n) q ↔ q = u.currentOf n := by
  obtain ⟨-, -, rail, drive, cfg⟩ := u.tick_profile n
  have profiled : u.profile.rail = u.rail ∧ u.profile.cfg = u.cfg := by rw [u.profile_eq]; exact ⟨rfl, rfl⟩
  rw [Spu.MeanCurrent, rail, drive, cfg, ← profiled.1, ← profiled.2, roundHalfUp_iff_mean, Spu.currentOf, samplesOf,
    List.map_map]
  rfl

theorem mem_dischargeEvents {u : Spu} {n : Nat} {c : Instr} : c ∈ dischargeEvents u n ↔
    ∃ mv, c = .dischargeBelowThreshold mv ∧ u.rail = .discharging ∧ u.FirstReadingBelow n mv := by
  unfold dischargeEvents
  by_cases rail : u.rail = .discharging
  case neg => simp [rail]
  let below (i : Nat) : Bool := decide (Config.outputMvAt (10 * n + i) u.drive < 500)
  have found : (samplesOf n).find? (fun i => decide (Config.outputMvAt i u.drive < Config.dischargedBelowMv)) =
      ((List.range 10).find? below).map (10 * n + ·) := List.find?_map
  rw [if_pos rail, found]
  cases first : (List.range 10).find? below with
  | none =>
    have never : ∀ i, i < 10 → below i = false := by simpa using first
    refine ⟨nofun, fun ⟨mv, _, _, low, i, hi, reading, _⟩ => ?_⟩
    exact absurd ((congrArg (· < 500) reading).mpr low) (decide_eq_false_iff_not.mp (never i hi))
  | some i =>
    obtain ⟨low, hi, before⟩ := List.find?_range_eq_some.mp first
    have low : Config.outputMvAt (10 * n + i) u.drive < 500 := of_decide_eq_true low
    have before (j : Nat) (hj : j < i) : 500 ≤ Config.outputMvAt (10 * n + j) u.drive := by
      have high := before j hj
      simpa [below] using high
    refine List.mem_singleton.trans ⟨fun h => ⟨_, h, rail, low, i, List.mem_range.mp hi, rfl, before⟩, ?_⟩
    rintro ⟨mv, rfl, _, low', j, hj, reading, before'⟩
    have same : j = i := by
      rcases lt_trichotomy j i with less | same | more
      · exact absurd ((congrArg (· < 500) reading).mpr low') (before j less).not_gt
      · exact same
      · exact absurd low (before' i more).not_gt
    rw [← reading, same]

end Sys2Proof.Machine
end
section
/-! The millisecond of the LTU (R138, R143, R144, R148, R149): two samples of each channel that measures. -/

namespace Sys2Proof.Machine

/-! ## Samples one after another -/

theorem LightChannel.tickSamples_of_quiet {c : LightChannel} {n : Fin 8} {i : Nat} {is : List Nat}
    (h : c.eventOf n (Config.lightCodeAt i n c.gain) (is.map fun j =>
      Config.lightCodeAt j n (c.sample (Config.lightCodeAt i n c.gain)).1.gain) = []) :
    LightChannel.tickSamples n (i :: is) c =
      LightChannel.tickSamples n is (c.sample (Config.lightCodeAt i n c.gain)).1 := by
  rw [LightChannel.tickSamples]
  simp only [h]

theorem LightChannel.tickSamples_of_event {c : LightChannel} {n : Fin 8} {i : Nat} {is : List Nat} {e : Instr}
    (h : c.eventOf n (Config.lightCodeAt i n c.gain) (is.map fun j =>
      Config.lightCodeAt j n (c.sample (Config.lightCodeAt i n c.gain)).1.gain) = [e]) :
    LightChannel.tickSamples n (i :: is) c = (c, [e]) := by
  rw [LightChannel.tickSamples]
  simp only [h]

/-- A channel whose range timer has one ms less. -/
def LightChannel.counted (c : LightChannel) : LightChannel := { c with rangeTimer := c.rangeTimer.map (· - 1) }

theorem LightChannel.tick_eq (c : LightChannel) (n : Fin 8) (ms : Nat) :
    c.tick n ms = LightChannel.tickSamples n [2 * ms, 2 * ms + 1] c.counted := rfl

/-! ## Blocks (R143, R144) -/

theorem LightChannel.eventOf_of_takesBlocks {c : LightChannel} (h : c.state.TakesBlocks) (n : Fin 8) (x : Code)
    (later : List Code) :
    c.eventOf n x later = whenTrue (decide (16 ≤ c.blockCount + 1)) (.lightBlockComplete n (x :: later)) := by
  rcases h with h | h <;> simp only [LightChannel.eventOf, h, ge_iff_le]

theorem LightChannel.sample_of_partial_block {c : LightChannel} (h : c.state.TakesBlocks)
    (more : c.blockCount + 1 < 16) (x : Code) : c.sample x = (c.tookBlock [x], none) := by
  rw [sample_of_takesBlocks h, blockSample_eq, if_neg (by omega)]

theorem LightChannel.sample_of_whole_block {c : LightChannel} (h : c.state.TakesBlocks)
    (full : 16 ≤ c.blockCount + 1) (x : Code) : c.sample x = ((c.tookBlock [x]).completeBlock, none) := by
  rw [sample_of_takesBlocks h, blockSample_eq, if_pos full]

/-- The largest step that meets the test is one that meets it, with no later one. -/
theorem largestStep_spec {test : Nat → Bool} (h : test 0 = true) : largestStep test ≤ 8 ∧
    test (largestStep test) = true ∧ ∀ j, largestStep test < j → j ≤ 8 → test j = false := by
  have greatest : largestStep test = Nat.findGreatest (test · = true) 8 :=
    largestStep_eq (Nat.findGreatest_le 8) (Nat.findGreatest_spec (P := (test · = true)) (Nat.zero_le 8) h)
      fun j hj hj8 => eq_false_of_ne_true (Nat.findGreatest_is_greatest hj hj8)
  rw [greatest]
  exact ⟨Nat.findGreatest_le 8, Nat.findGreatest_spec (P := (test · = true)) (Nat.zero_le 8) h,
    fun j hj hj8 => eq_false_of_ne_true (Nat.findGreatest_is_greatest hj hj8)⟩

/-- The step of a block is the one of R144. -/
theorem blockStep_fullStep (saturated : Bool) (mean target : Nat) :
    BlockStep saturated mean target (fullStep saturated mean target) := by
  cases saturated with
  | true => exact .inl ⟨rfl, rfl⟩
  | false =>
    rcases Nat.eq_zero_or_pos mean with dark | pos
    · exact .inr (.inl ⟨rfl, dark, by simp [fullStep, dark]⟩)
    · rcases Nat.lt_or_ge mean target with below | above
      · obtain ⟨small, pass, last⟩ := largestStep_spec (test := fun k => decide (mean * stepTable k ≤ target * 256))
          (decide_eq_true (Nat.mul_le_mul_right 256 below.le))
        refine .inr (.inr (.inl ⟨rfl, pos, below, _, small, ?_, of_decide_eq_true pass, fun j hj hj8 => ?_⟩))
        · rw [fullStep, if_neg Bool.false_ne_true, if_neg pos.ne', if_pos below]
        · exact not_le.mp (of_decide_eq_false (last j hj hj8))
      · obtain ⟨small, pass, last⟩ := largestStep_spec (test := fun k => decide (mean * 256 ≥ target * stepTable k))
          (decide_eq_true (Nat.mul_le_mul_right 256 above))
        refine .inr (.inr (.inr ⟨rfl, pos, above, _, small, ?_, of_decide_eq_true pass, fun j hj hj8 => ?_⟩))
        · rw [fullStep, if_neg Bool.false_ne_true, if_neg pos.ne', if_neg above.not_gt]
        · exact not_le.mp (of_decide_eq_false (last j hj hj8))

theorem LightChannel.completeBlock_gain (c : LightChannel) : c.completeBlock.gain = c.cal.bringGain (c.gain +
    reducedStep (c.state == .locked) c.cal.shift (fullStep c.blockSaturated (c.blockSum / 16) c.target)) := by
  unfold LightChannel.completeBlock
  dsimp only
  split
  · rw [(LightChannel.lockedBlock_cal_gain _ _ _).2]
  · rw [(LightChannel.rangingBlock_cal_gain _ _ _).2]

/-- The gain after a block that the sample completes. -/
theorem LightChannel.stepsTo_completeBlock (c : LightChannel) (x : Code) :
    c.StepsTo x (c.tookBlock [x]).completeBlock.gain := by
  refine ⟨_, blockStep_fullStep _ _ _, ?_⟩
  rw [LightChannel.completeBlock_gain, LightCal.bringGain, clampInt, reducedStep]
  simp only [LightChannel.tookBlock, List.map_cons, List.map_nil, List.sum_singleton, List.any_cons, List.any_nil,
    Bool.or_false, beq_iff_eq]

theorem LightChannel.blockMs_tickSamples {c : LightChannel} (h : c.state.TakesBlocks) (n : Fin 8) (ms : Nat) :
    c.BlockMs (LightChannel.tickSamples n [2 * ms, 2 * ms + 1] c).1 n ms
      (LightChannel.tickSamples n [2 * ms, 2 * ms + 1] c).2 := by
  let x := Config.lightCodeAt (2 * ms) n c.gain
  let y := Config.lightCodeAt (2 * ms + 1) n c.gain
  by_cases more : c.blockCount + 1 < 16
  · have quiet {later : List Code} : c.eventOf n x later = [] := by
      rw [eventOf_of_takesBlocks h, decide_eq_false (by omega)]
      rfl
    have next : LightChannel.tickSamples n [2 * ms, 2 * ms + 1] c =
        LightChannel.tickSamples n [2 * ms + 1] (c.tookBlock [x]) := by
      rw [tickSamples_of_quiet quiet, sample_of_partial_block h more]
    have event {later : List Code} : (c.tookBlock [x]).eventOf n y later =
        whenTrue (decide (16 ≤ c.blockCount + 2)) (.lightBlockComplete n (y :: later)) :=
      eventOf_of_takesBlocks (c := c.tookBlock [x]) h n y later
    rw [next]
    by_cases most : c.blockCount + 2 < 16
    · have second : LightChannel.tickSamples n [2 * ms + 1] (c.tookBlock [x]) = (c.tookBlock [x, y], []) := by
        rw [tickSamples_of_quiet (c := c.tookBlock [x]) (by rw [decide_eq_false (by omega)] at event; exact event),
          sample_of_partial_block (c := c.tookBlock [x]) h most, tookBlock_tookBlock]
        rfl
      rw [second, BlockMs, if_pos most]
    · have second : LightChannel.tickSamples n [2 * ms + 1] (c.tookBlock [x]) =
          (c.tookBlock [x], [.lightBlockComplete n [y]]) :=
        tickSamples_of_event (c := c.tookBlock [x]) (by rw [decide_eq_true (by omega)] at event; exact event)
      rw [second, BlockMs, if_neg most, if_pos more]
      exact ⟨rfl, List.mem_singleton_self _⟩
  · have full : 16 ≤ c.blockCount + 1 := by omega
    have event {later : List Code} : c.eventOf n x later = [.lightBlockComplete n (x :: later)] := by
      rw [eventOf_of_takesBlocks h, decide_eq_true full]
      rfl
    rw [tickSamples_of_event event, BlockMs, if_neg (by omega), if_neg more, sample_of_whole_block h full]
    exact ⟨rfl, _, stepsTo_completeBlock c x, List.mem_singleton_self _⟩

/-! ## Windows (R148, R149) -/

/-- Sample x re-ranges the window of c (R149). -/
def LightChannel.Reranges (c : LightChannel) (x : Code) : Bool :=
  saturatedCode x && !c.reranged && decide (c.cal.gmin < c.gain)

theorem LightChannel.counts_of_not_reranges {c : LightChannel} {x : Code} (h : c.Reranges x = false) : c.Counts x := by
  intro saturated
  cases first : c.reranged with
  | true => exact .inl rfl
  | false => exact .inr (by simpa [LightChannel.Reranges, saturated, first] using h)

theorem LightChannel.eventOf_of_window {c : LightChannel} (h : c.state = .window) (n : Fin 8) (x : Code)
    (later : List Code) : c.eventOf n x later = if c.Reranges x then [.lightWindowRerange n (x :: later)]
      else whenTrue (decide (c.window ≤ c.count + 1)) (.lightWindowComplete n (x :: later)) := by
  simp only [LightChannel.eventOf, h]
  rfl

theorem LightChannel.sample_gain_of_reranges {c : LightChannel} {x : Code} (h : c.state = .window)
    (hx : c.Reranges x = true) : (c.sample x).1.gain = max c.cal.gmin (min c.cal.gmax (c.gain - 8)) := by
  obtain ⟨⟨saturated, first⟩, above⟩ : (saturatedCode x = true ∧ c.reranged = false) ∧ c.cal.gmin < c.gain := by
    simpa [LightChannel.Reranges] using hx
  have lowered : (c.windowSample x).gain = max c.cal.gmin (min c.cal.gmax (c.gain - 8)) := by
    rw [windowSample_of_reranges saturated first above]
    split <;> rfl
  rw [← lowered]
  simp only [LightChannel.sample, h]
  split <;> rfl

theorem LightChannel.windowMs_tickSamples {c : LightChannel} (h : c.state = .window) (n : Fin 8) (ms : Nat) :
    c.WindowMs (LightChannel.tickSamples n [2 * ms, 2 * ms + 1] c).1 n ms
      (LightChannel.tickSamples n [2 * ms, 2 * ms + 1] c).2 := by
  let x := Config.lightCodeAt (2 * ms) n c.gain
  let y := Config.lightCodeAt (2 * ms + 1) n c.gain
  by_cases first : c.Reranges x = true
  · have event {later : List Code} : c.eventOf n x later = [.lightWindowRerange n (x :: later)] := by
      rw [eventOf_of_window h, if_pos first]
    rw [tickSamples_of_event event, WindowMs, if_pos (by exact first), sample_gain_of_reranges h first]
    exact ⟨rfl, List.mem_singleton_self _⟩
  have counts := counts_of_not_reranges (eq_false_of_ne_true first)
  by_cases last : c.window ≤ c.count + 1
  · have event {later : List Code} : c.eventOf n x later = [.lightWindowComplete n (x :: later)] := by
      rw [eventOf_of_window h, if_neg first, decide_eq_true last]
      rfl
    rw [tickSamples_of_event event, WindowMs, if_neg (by exact first), if_pos last,
      sample_of_last_of_window h counts last]
    exact ⟨rfl, List.mem_singleton_self _⟩
  have more : c.count + 1 < c.window := not_le.mp last
  have quiet {later : List Code} : c.eventOf n x later = [] := by
    rw [eventOf_of_window h, if_neg first, decide_eq_false last]
    rfl
  have next : LightChannel.tickSamples n [2 * ms, 2 * ms + 1] c =
      LightChannel.tickSamples n [2 * ms + 1] (c.tookWindow [x]) := by
    rw [tickSamples_of_quiet quiet, sample_of_partial_window h counts more]
  have event {later : List Code} : (c.tookWindow [x]).eventOf n y later = if c.Reranges y then
      [.lightWindowRerange n (y :: later)] else whenTrue (decide (c.window ≤ c.count + 2))
        (.lightWindowComplete n (y :: later)) := eventOf_of_window (c := c.tookWindow [x]) h n y later
  rw [next, WindowMs, if_neg (by exact first), if_neg last]
  by_cases second : c.Reranges y = true
  · have lowers : LightChannel.tickSamples n [2 * ms + 1] (c.tookWindow [x]) =
        (c.tookWindow [x], [.lightWindowRerange n [y]]) :=
      tickSamples_of_event (c := c.tookWindow [x]) (event.trans (if_pos second))
    rw [lowers, if_pos (by exact second)]
    exact ⟨rfl, List.mem_singleton_self _⟩
  rw [if_neg (by exact second)]
  by_cases whole : c.window ≤ c.count + 2
  · have completes : LightChannel.tickSamples n [2 * ms + 1] (c.tookWindow [x]) =
        (c.tookWindow [x], [.lightWindowComplete n [y]]) :=
      tickSamples_of_event (c := c.tookWindow [x])
        ((event.trans (if_neg second)).trans (by rw [decide_eq_true whole]; rfl))
    rw [completes, if_pos whole]
    exact ⟨rfl, List.mem_singleton_self _⟩
  · have sampled : (c.tookWindow [x]).sample y = (c.tookWindow [x, y], none) :=
      (sample_of_partial_window (c := c.tookWindow [x]) h
        (counts_of_not_reranges (c := c.tookWindow [x]) (eq_false_of_ne_true second)) (not_le.mp whole)).trans
        (by rw [tookWindow_tookWindow]; rfl)
    have goesOn : LightChannel.tickSamples n [2 * ms + 1] (c.tookWindow [x]) = (c.tookWindow [x, y], []) :=
      (tickSamples_of_quiet (c := c.tookWindow [x])
        ((event.trans (if_neg second)).trans (by rw [decide_eq_false whole]; rfl))).trans
        (congrArg (fun d : LightChannel × Option LightReport => LightChannel.tickSamples n [] d.1) sampled)
    rw [goesOn, if_neg whole]

/-! ## The millisecond of a channel and of the table -/

/-- Every event that a channel's samples bring about is one of that channel. -/
theorem LightChannel.tickSamples_ofChannel (n : Fin 8) (is : List Nat) (c : LightChannel) :
    ∀ e ∈ (LightChannel.tickSamples n is c).2, Instr.ofChannel n e = true := by
  induction is generalizing c with
  | nil => exact fun e he => nomatch he
  | cons i is ih =>
    intro e he
    rw [LightChannel.tickSamples] at he
    split at he
    · exact ih _ e he
    · have own (x : Code) (later : List Code) : ∀ e ∈ c.eventOf n x later, Instr.ofChannel n e = true := by
        intro e he
        unfold LightChannel.eventOf at he
        split at he
        · exact nomatch he
        · obtain ⟨-, rfl⟩ := mem_whenTrue.mp he
          simp [Instr.ofChannel]
        · obtain ⟨-, rfl⟩ := mem_whenTrue.mp he
          simp [Instr.ofChannel]
        · split at he
          · obtain rfl := List.mem_singleton.mp he
            simp [Instr.ofChannel]
          · obtain ⟨-, rfl⟩ := mem_whenTrue.mp he
            simp [Instr.ofChannel]
      exact own _ _ e he

theorem LightChannel.tick_ofChannel (c : LightChannel) (n : Fin 8) (ms : Nat) :
    ∀ e ∈ (c.tick n ms).2, Instr.ofChannel n e = true := LightChannel.tickSamples_ofChannel n _ _

/-- A channel keeps its gain, its state and its range timer while its samples are taken. -/
def LightChannel.SameCourse (c d : LightChannel) : Prop :=
  d.rangeTimer = c.rangeTimer ∧ d.gain = c.gain ∧ d.state = c.state

theorem LightChannel.BlockMs.sameCourse {c d : LightChannel} {n : Fin 8} {ms : Nat} {es : List Instr}
    (h : c.BlockMs d n ms es) : c.SameCourse d := by
  have took : ∃ xs, d = c.tookBlock xs := by
    unfold LightChannel.BlockMs at h
    dsimp only at h
    split_ifs at h
    · exact ⟨_, h⟩
    · exact ⟨_, h.1⟩
    · exact ⟨[], by rw [h.1, tookBlock_nil]⟩
  obtain ⟨xs, rfl⟩ := took
  exact ⟨rfl, rfl, rfl⟩

theorem LightChannel.WindowMs.sameCourse {c d : LightChannel} {n : Fin 8} {ms : Nat} {es : List Instr}
    (h : c.WindowMs d n ms es) : c.SameCourse d := by
  have took : ∃ xs, d = c.tookWindow xs := by
    unfold LightChannel.WindowMs at h
    dsimp only at h
    split_ifs at h
    · exact ⟨[], by rw [h.1, tookWindow_nil]⟩
    · exact ⟨[], by rw [h.1, tookWindow_nil]⟩
    · exact ⟨_, h.1⟩
    · exact ⟨_, h.1⟩
    · exact ⟨_, h⟩
  obtain ⟨xs, rfl⟩ := took
  exact ⟨rfl, rfl, rfl⟩

/-- An event that waits still waits among more. -/
theorem LightChannel.BlockMs.mono {c d : LightChannel} {n : Fin 8} {ms : Nat} {es fs : List Instr}
    (h : c.BlockMs d n ms es) (more : ∀ e ∈ es, e ∈ fs) : c.BlockMs d n ms fs := by
  unfold LightChannel.BlockMs at h ⊢
  dsimp only at h ⊢
  split_ifs at h ⊢
  · exact h
  · exact ⟨h.1, more _ h.2⟩
  · obtain ⟨same, g, steps, waits⟩ := h
    exact ⟨same, g, steps, more _ waits⟩

theorem LightChannel.WindowMs.mono {c d : LightChannel} {n : Fin 8} {ms : Nat} {es fs : List Instr}
    (h : c.WindowMs d n ms es) (more : ∀ e ∈ es, e ∈ fs) : c.WindowMs d n ms fs := by
  unfold LightChannel.WindowMs at h ⊢
  dsimp only at h ⊢
  split_ifs at h ⊢
  · exact ⟨h.1, more _ h.2⟩
  · exact ⟨h.1, more _ h.2⟩
  · exact ⟨h.1, more _ h.2⟩
  · exact ⟨h.1, more _ h.2⟩
  · exact h

/-- What the millisecond makes of a channel. -/
theorem LightChannel.tick_course (c : LightChannel) (n : Fin 8) (ms : Nat) :
    c.counted.SameCourse (c.tick n ms).1 ∧ (c.state = .held → (c.tick n ms).1 = c.counted) ∧
    (c.state.TakesBlocks → c.counted.BlockMs (c.tick n ms).1 n ms (c.tick n ms).2) ∧
    (c.state = .window → c.counted.WindowMs (c.tick n ms).1 n ms (c.tick n ms).2) := by
  have held (h : c.state = .held) : (c.tick n ms).1 = c.counted :=
    LightChannel.tickSamples_of_held (c := c.counted) h n _
  have block (h : c.state.TakesBlocks) : c.counted.BlockMs (c.tick n ms).1 n ms (c.tick n ms).2 :=
    LightChannel.blockMs_tickSamples (c := c.counted) h n ms
  have window (h : c.state = .window) : c.counted.WindowMs (c.tick n ms).1 n ms (c.tick n ms).2 :=
    LightChannel.windowMs_tickSamples (c := c.counted) h n ms
  refine ⟨?_, held, block, window⟩
  cases h : c.state with
  | held =>
    rw [held h]
    exact ⟨rfl, rfl, rfl⟩
  | ranging => exact (block (.inl h)).sameCourse
  | locked => exact (block (.inr h)).sameCourse
  | window => exact (window h).sameCourse

/-- Channels are sampled one by one, each from what it was. -/
theorem foldl_tick (ms : Nat) (l : List (Fin 8)) : l.Nodup → ∀ p : Vector LightChannel 8 × List Instr,
    let r := l.foldl (fun p (n : Fin 8) =>
      (setEntry p.1 n ((entryAt p.1 n .reset).tick n ms).1, p.2 ++ ((entryAt p.1 n .reset).tick n ms).2)) p
    (∀ i : Fin 8, r.1[i] = if i ∈ l then (p.1[i].tick i ms).1 else p.1[i]) ∧
      ∀ e, e ∈ r.2 ↔ e ∈ p.2 ∨ ∃ i ∈ l, e ∈ (p.1[i].tick i ms).2 := by
  induction l with
  | nil => exact fun _ p => ⟨fun i => rfl, fun e => by simp⟩
  | cons n l ih =>
    intro nodup p r
    obtain ⟨fresh, rest⟩ := List.nodup_cons.mp nodup
    obtain ⟨channels, events⟩ := ih rest
      (setEntry p.1 n ((entryAt p.1 n .reset).tick n ms).1, p.2 ++ ((entryAt p.1 n .reset).tick n ms).2)
    have other {i : Fin 8} (h : i ≠ n) : (setEntry p.1 n ((entryAt p.1 n .reset).tick n ms).1)[i] = p.1[i] :=
      (getElem_setEntry _ _ _ i).trans (if_neg fun same => h (Fin.ext same.symm))
    refine ⟨fun i => (channels i).trans ?_, fun e => (events e).trans ?_⟩
    · by_cases own : i = n
      · subst own
        rw [if_neg fresh, if_pos List.mem_cons_self]
        exact (getElem_setEntry _ _ _ i).trans (by rw [if_pos rfl, entryAt_fin])
      · rw [other own]
        simp only [List.mem_cons, own, false_or]
    · rw [List.mem_append, entryAt_fin, or_assoc]
      simp only [List.exists_mem_cons_iff]
      refine or_congr_right (or_congr_right (exists_congr fun i => and_congr_right fun hi => ?_))
      rw [← entryAt_fin p.1 n .reset, other fun same => fresh (same ▸ hi)]

theorem tickLtu_channel (v : Vector LightChannel 8) (ms : Nat) (i : Fin 8) :
    (tickLtu v ms).1[i] = (v[i].tick i ms).1 := by
  have channels := (foldl_tick ms (List.finRange 8) (List.nodup_finRange 8) (v, [])).1 i
  rwa [if_pos (List.mem_finRange i)] at channels

theorem mem_tickLtu {v : Vector LightChannel 8} {ms : Nat} {e : Instr} :
    e ∈ (tickLtu v ms).2 ↔ ∃ i : Fin 8, e ∈ (v[i].tick i ms).2 := by
  have events := (foldl_tick ms (List.finRange 8) (List.nodup_finRange 8) (v, [])).2 e
  exact events.trans (by simp [List.mem_finRange])

end Sys2Proof.Machine
end
section
/-! The millisecond of the whole part (logs 2 to 6): what its blocks become, and the events that wait after it. -/

namespace Sys2Proof.Machine

/-! ## The CSU (R110, R155, R157, R158) -/

theorem Csu.tick_of_more_current {c : Csu} (h : c.window = .current) (more : c.count + 1 < c.length) (q : Nat)
    (x : Code) : c.tick q x = ({ c with count := c.count + 1, currentSum := c.currentSum + q }, []) := by
  simp only [Csu.tick, h, ge_iff_le, if_neg (not_le.mpr more), Csu.currentSample_of_partial h more]
  simp [Csu.tookCurrent, h]

theorem Csu.tick_of_last_current {c : Csu} (h : c.window = .current) (last : c.length ≤ c.count + 1) (q : Nat)
    (x : Code) : c.tick q x = (c, [.currentWindowComplete [q]]) := by
  simp only [Csu.tick, h, ge_iff_le, if_pos last]

theorem Csu.tick_of_more_sound {c : Csu} (h : c.window = .sound) (more : c.count + 1 < c.length) (q : Nat)
    (x : Code) : c.tick q x = (c.detect x.toNat, []) := by
  simp only [Csu.tick, h, ge_iff_le, if_neg (not_le.mpr more), Csu.soundSample_of_partial h more]

theorem Csu.tick_of_last_sound {c : Csu} (h : c.window = .sound) (last : c.length ≤ c.count + 1) (q : Nat)
    (x : Code) : c.tick q x = (c, [.soundWindowComplete [x]]) := by
  simp only [Csu.tick, h, ge_iff_le, if_pos last]

theorem Csu.heard_detect (c : Csu) (x : Nat) : c.Heard (c.detect x) x := by
  by_cases first : c.count = 0
  · exact .inl ⟨first, Csu.detect_of_first first x⟩
  · cases armed : c.armed with
    | false => exact .inr (.inr (.inr ⟨first, armed, Csu.detect_of_unarmed first armed x⟩))
    | true =>
      rcases Nat.lt_or_ge x c.threshold with below | reached
      · exact .inr (.inr (.inl ⟨first, armed, below, Csu.detect_of_below first armed below⟩))
      · exact .inr (.inl ⟨first, armed, reached, Csu.detect_of_counted first armed reached⟩)

/-- Every event that a CSU's sample brings about is one of its window. -/
theorem Csu.tick_ofWindow (c : Csu) (q : Nat) (x : Code) : ∀ e ∈ (c.tick q x).2, Instr.ofWindow e = true := by
  intro e he
  unfold Csu.tick at he
  split at he
  · exact nomatch he
  · split at he
    · obtain rfl := List.mem_singleton.mp he
      rfl
    · exact nomatch he
  · split at he
    · obtain rfl := List.mem_singleton.mp he
      rfl
    · exact nomatch he

/-! ## The events that wait (R101, R117) -/

theorem mem_dueTimes {b : Bem} {e : Instr} : e ∈ dueTimes b ↔ ∃ z, b.schedule = some z ∧
    ∃ n : Fin 24, b.slots[n].dueAt z = true ∧ e = .slotDue n := by
  unfold dueTimes
  split
  · next stopped => simp [stopped]
  · next z running =>
    simp only [running, List.mem_flatMap, List.mem_finRange, true_and, mem_whenTrue, entryAt_fin, Option.some.injEq,
      exists_eq_left']

theorem dueAt_iff {m : MessageSlot} {z : Nat} : m.dueAt z = true ↔
    m.defined = true ∧ m.period ≠ 0 ∧ m.phase ≤ z ∧ (z - m.phase) % m.period = 0 := by
  simp [MessageSlot.dueAt, and_assoc]

theorem mem_arrived {s : State} {e : Instr} : e ∈ (passMs s).arrived ↔
    e ∈ dischargeEvents s.spu s.clock ∨ e ∈ dueTimes s.bem.tick ∨ (∃ i : Fin 8, e ∈ (s.ltu[i].tick i s.clock).2) ∨
      e ∈ (s.csu.tick (s.spu.currentOf s.clock) (Config.soundCodeAt s.clock)).2 := by
  have arrived : (passMs s).arrived = dischargeEvents s.spu s.clock ++ dueTimes s.bem.tick ++
    (tickLtu s.ltu s.clock).2 ++ (s.csu.tick (s.spu.currentOf s.clock) (Config.soundCodeAt s.clock)).2 := rfl
  rw [arrived]
  simp only [List.mem_append, mem_tickLtu, or_assoc]

/-- An event that no channel and no window brings about comes from the discharge or from the due times. -/
theorem mem_arrived_of_neither {s : State} {e : Instr} (channel : ∀ i : Fin 8, Instr.ofChannel i e = false)
    (window : Instr.ofWindow e = false) :
    e ∈ (passMs s).arrived ↔ e ∈ dischargeEvents s.spu s.clock ∨ e ∈ dueTimes s.bem.tick := by
  rw [mem_arrived]
  refine ⟨?_, fun h => h.imp_right .inl⟩
  rintro (h | h | ⟨i, h⟩ | h)
  · exact .inl h
  · exact .inr h
  · exact absurd (LightChannel.tick_ofChannel _ i _ e h) (ne_true_of_eq_false (channel i))
  · exact absurd (Csu.tick_ofWindow _ _ _ e h) (ne_true_of_eq_false window)

theorem slotDue_mem_arrived {s : State} {n : Fin 24} : .slotDue n ∈ (passMs s).arrived ↔ ∃ z,
    s.bem.schedule = some z ∧ s.bem.slots[n].defined = true ∧ s.bem.slots[n].period ≠ 0 ∧
      s.bem.slots[n].phase ≤ z + 1 ∧ (z + 1 - s.bem.slots[n].phase) % s.bem.slots[n].period = 0 := by
  rw [mem_arrived_of_neither (fun _ => rfl) rfl, mem_dischargeEvents, mem_dueTimes]
  have schedule : s.bem.tick.schedule = s.bem.schedule.map (· + 1) := rfl
  constructor
  · rintro (⟨_, other, _⟩ | ⟨z, running, i, due, same⟩)
    · exact nomatch other
    · obtain rfl : n = i := Instr.slotDue.inj same
      obtain ⟨y, hy, rfl⟩ := Option.map_eq_some_iff.mp (schedule ▸ running)
      exact ⟨y, hy, dueAt_iff.mp due⟩
  · rintro ⟨z, running, due⟩
    exact .inr ⟨z + 1, by rw [schedule, running, Option.map_some], n, dueAt_iff.mpr due, rfl⟩

theorem below_mem_arrived {s : State} {mv : Nat} : .dischargeBelowThreshold mv ∈ (passMs s).arrived ↔
    s.spu.rail = .discharging ∧ s.spu.FirstReadingBelow s.clock mv := by
  rw [mem_arrived_of_neither (fun _ => rfl) rfl, mem_dischargeEvents, mem_dueTimes]
  constructor
  · rintro (⟨_, same, falls⟩ | ⟨_, _, _, _, other⟩)
    · obtain rfl := Instr.dischargeBelowThreshold.inj same
      exact falls
    · exact nomatch other
  · exact fun falls => .inl ⟨mv, rfl, falls⟩

/-! ## The step with no command waiting -/

theorem step_of_empty {s : State} (h : s.pending = []) : step s = .next (tick s) := by
  rw [step, h]

theorem tick_of_held {s : State} (h : s.resetHeld = true) : tick s = s.setClock (s.clock + 1) := if_pos h

theorem tick_of_quiet {s : State} (running : s.resetHeld = false) (h : s.arrived ++ dueEvents s = []) :
    tick s = passMs s := by
  rw [tick, if_neg (ne_true_of_eq_false running), if_pos h]

/-- An event that waits is put in the queue; which is free (log 4). -/
theorem tick_of_waiting {s : State} (running : s.resetHeld = false) (empty : s.pending = [])
    (h : s.arrived ++ dueEvents s ≠ []) : ∃ i c, (s.arrived ++ dueEvents s)[i]? = some c ∧
      tick s = { s with choices := s.choices + 1, arrived := s.arrived.eraseIdx i, pending := [c] } := by
  let i := Config.tickPick s.choices % (s.arrived ++ dueEvents s).length
  have within : i < (s.arrived ++ dueEvents s).length := Nat.mod_lt _ (List.length_pos_iff.mpr h)
  have chosen : (s.arrived ++ dueEvents s)[i]? = some (s.arrived ++ dueEvents s)[i] := List.getElem?_eq_getElem within
  refine ⟨i, _, chosen, ?_⟩
  rw [tick, if_neg (ne_true_of_eq_false running), if_neg h, takeEvent]
  simp only [i] at chosen
  simp only [chosen, empty, List.nil_append]
  rfl

end Sys2Proof.Machine

namespace Sys2Proof.Certificates

open Machine

/-- Settles O2: what is due, and the millisecond block by block. -/
theorem emptyQueueIsOneMillisecond : Obligations.EmptyQueueIsOneMillisecond := by
  intro s empty
  refine ⟨fun held => ?_, fun running waits => ?_, fun c => ⟨dueNow_of_mem, mem_of_dueNow⟩,
    fun running taken quiet => ?_⟩
  · rw [step_of_empty empty, tick_of_held held]
  · obtain ⟨i, c, chosen, taken⟩ := tick_of_waiting running empty waits
    exact ⟨i, c, chosen, by rw [step_of_empty empty, taken]⟩
  refine ⟨passMs s, by rw [step_of_empty empty, tick_of_quiet running (by rw [taken, quiet]; rfl)], rfl, empty, running,
    rfl, rfl, rfl, rfl, fun n => ?_, fun unclaimed => ?_, fun c hc => ?_, rfl, rfl, Spu.passedMs_tick _ _, rfl,
    fun n => ?_, fun n => slotDue_mem_arrived, fun mv => below_mem_arrived, fun idle => Csu.tick_of_idle idle _ _,
    fun q window mean => ?_, fun window => ?_, fun n => ?_⟩
  · exact getElem_mapEntries _ _ _ n.isLt
  · exact congrArg (Option.map OwnClaim.tick) unclaimed
  · exact (congrArg (Option.map OwnClaim.tick) hc).trans rfl
  · exact getElem_mapEntries _ _ _ n.isLt
  · obtain rfl := meanCurrent_iff.mp mean
    refine ⟨fun more => congrArg Prod.fst (Csu.tick_of_more_current window more _ _), fun last => ?_⟩
    have completes := Csu.tick_of_last_current window last (s.spu.currentOf s.clock) (Config.soundCodeAt s.clock)
    refine ⟨congrArg Prod.fst completes, mem_arrived.mpr (.inr (.inr (.inr ?_)))⟩
    rw [completes]
    exact List.mem_singleton_self _
  · intro x
    refine ⟨fun more => ?_, fun last => ?_⟩
    · have heard : (passMs s).csu = s.csu.detect x.toNat :=
        congrArg Prod.fst (Csu.tick_of_more_sound window more (s.spu.currentOf s.clock) x)
      rw [heard]
      exact Csu.heard_detect _ _
    · have completes := Csu.tick_of_last_sound window last (s.spu.currentOf s.clock) x
      refine ⟨congrArg Prod.fst completes, mem_arrived.mpr (.inr (.inr (.inr ?_)))⟩
      rw [completes]
      exact List.mem_singleton_self _
  · intro c
    have channel : (passMs s).ltu[n] = (c.tick n s.clock).1 := tickLtu_channel s.ltu s.clock n
    have waits : ∀ e ∈ (c.tick n s.clock).2, e ∈ (passMs s).arrived :=
      fun e he => mem_arrived.mpr (.inr (.inr (.inl ⟨n, he⟩)))
    obtain ⟨⟨timer, gain, state⟩, held, block, window⟩ := c.tick_course n s.clock
    rw [channel]
    refine ⟨timer, gain, state, ?_⟩
    rw [timer]
    exact ⟨held, fun measures => (block measures).mono waits, fun opened => (window opened).mono waits⟩

end Sys2Proof.Certificates
end
